-- ==== Sys2Proof/Word.lean ====
section
/-! DEFINITION. The words of the T48: the link byte, the 24-bit zone count, the 32-bit statistics
counter, the 16-bit frame check, and the numbers of zones, eyes, diverters and destinations. -/

namespace Sys2Proof

/-- One character of the host link (R147: eight data bits). -/
abbrev Byte := BitVec 8

/-- A zone count or an item's base: 0 to 16,777,215, wrapping (R4, R5). -/
abbrev Count := BitVec 24

/-- A statistics counter: 0 to 4,294,967,295, wrapping (R144). -/
abbrev Counter := BitVec 32

/-- The CRC-16 of a frame (R149). -/
abbrev Check := BitVec 16

/-- A zone number, 0 to 3 (R3). -/
abbrev ZoneId := Fin 4

/-- An eye number, 0 to 11 (R60). -/
abbrev EyeId := Fin 12

/-- A diverter number, 0 to 15 (R97). -/
abbrev DiverterId := Fin 16

/-- A destination code, 0 to 63 (R81). -/
abbrev DestinationCode := Fin 64

end Sys2Proof
end

