-- ==== Sys2Proof/Syntax.lean ====
section
/-! DEFINITION. The commands of the T48: one constructor for each row of spec/opcode_table.json. A
happening at a field input or a timer names the input or the timer. A request of the host link is the
completion of one valid frame of its kind; it carries the frame's sequence byte and body as received,
so that a body of a wrong length is a form of the command as well (R154 step 5). -/

namespace Sys2Proof

/-- The field inputs and straps of Table 0-2, as levels. A true level is active: the emergency-stop
chain open, a strap tied, an eye or home input on. -/
structure Inputs where
  estop : Bool
  rate0 : Bool
  rate1 : Bool
  eyes  : Vector Bool 12
  homes : Vector Bool 16
  deriving DecidableEq, Repr

/-- One command: a happening at the module (R2). -/
inductive Instr where
  -- supply and reset
  | powerOn (inputs : Inputs)
  | resetinActive
  | resetinInactive (inputs : Inputs)
  -- field inputs
  | encoderPulse (z : ZoneId)
  | estopChangeAtZones (active : Bool)
  | estopChangeAtDiverters (active : Bool)
  | blockedEdge (e : EyeId)
  | unblockedEdge (e : EyeId)
  | homeActiveEdge (d : DiverterId)
  | homeInactiveEdge (d : DiverterId)
  -- timers
  | jamTimerExpiry (e : EyeId)
  | strokeTimerExpiry (d : DiverterId)
  | dwellTimerExpiry (d : DiverterId)
  | returnTimerExpiry (d : DiverterId)
  | interByteTimeout
  -- the host link
  | frameDiscarded (buffer : List Byte)
  | linkTimerExpiry
  | resendTimerExpiry
  | frameSent
  | badKindFrame (kind seq : Byte) (body : List Byte)
  -- requests
  | status (seq : Byte) (body : List Byte)
  | identify (seq : Byte) (body : List Byte)
  | setLink (seq : Byte) (body : List Byte)
  | reportAck (seq : Byte) (body : List Byte)
  | restart (seq : Byte) (body : List Byte)
  | start (seq : Byte) (body : List Byte)
  | stop (seq : Byte) (body : List Byte)
  | defineZone (seq : Byte) (body : List Byte)
  | defineEye (seq : Byte) (body : List Byte)
  | defineDiverter (seq : Byte) (body : List Byte)
  | defineDestination (seq : Byte) (body : List Byte)
  | undefine (seq : Byte) (body : List Byte)
  | setLine (seq : Byte) (body : List Byte)
  | clearPending (seq : Byte) (body : List Byte)
  | copyActive (seq : Byte) (body : List Byte)
  | readLayout (seq : Byte) (body : List Byte)
  | commitLayout (seq : Byte) (body : List Byte)
  | announce (seq : Byte) (body : List Byte)
  | withdraw (seq : Byte) (body : List Byte)
  | queryItem (seq : Byte) (body : List Byte)
  | listZone (seq : Byte) (body : List Byte)
  | purge (seq : Byte) (body : List Byte)
  | reroute (seq : Byte) (body : List Byte)
  | haltZone (seq : Byte) (body : List Byte)
  | resumeZone (seq : Byte) (body : List Byte)
  | disableEye (seq : Byte) (body : List Byte)
  | enableEye (seq : Byte) (body : List Byte)
  | testDiverter (seq : Byte) (body : List Byte)
  | disableDiverter (seq : Byte) (body : List Byte)
  | enableDiverter (seq : Byte) (body : List Byte)
  | clearDiverterFault (seq : Byte) (body : List Byte)
  | receivedByte (b : Byte)
  deriving DecidableEq, Repr

end Sys2Proof
end

