-- ==== Sys2Proof/Machine/Frames.lean ====
section
/-! DEFINITION. Frames of the host link: the frame check, the bytes of a frame, and what the receiver
makes of the bytes it takes (R148 to R153). Nothing here reads the state of another block: "The
receiver does not look at KIND, SEQ or BODY while it collects" (R150). -/

namespace Sys2Proof.Machine

/-- R148, Table 8-2: the SYNC byte. -/
def syncByte : Byte := 0xA5#8

/-- R149 step 3: one shift of the check register. -/
def crcShift (r : Check) : Check :=
  if r.msb then (r <<< 1) ^^^ 0x1021#16 else r <<< 1

/-- R149 steps 2 and 3: one byte taken into the check register. -/
def crcByte (r : Check) (b : Byte) : Check :=
  crcShift (crcShift (crcShift (crcShift (crcShift (crcShift (crcShift (crcShift
    (r ^^^ (b.setWidth 16 <<< 8)))))))))

/-- R149: the CHECK of the bytes from LENGTH to the last byte of BODY. -/
def crc (bytes : List Byte) : Check := bytes.foldl crcByte 0xFFFF#16

/-- R148: the CHECK is sent most significant byte first. -/
def checkBytes (c : Check) : List Byte := [(c >>> 8).setWidth 8, c.setWidth 8]

/-- A frame as KIND, SEQ and BODY (Table 8-2). -/
structure Frame where
  kind : Byte
  seq  : Byte
  body : List Byte
  deriving DecidableEq, Repr

/-- The bytes that the CHECK covers: LENGTH, KIND, SEQ and BODY (R148, R149). -/
def Frame.covered (f : Frame) : List Byte :=
  BitVec.ofNat 8 (f.body.length + 2) :: f.kind :: f.seq :: f.body

/-- The bytes of a frame after its SYNC: what the receiver's buffer holds when it is complete. -/
def Frame.afterSync (f : Frame) : List Byte := f.covered ++ checkBytes (crc f.covered)

/-- The whole frame as sent (Table 8-2). -/
def Frame.bytes (f : Frame) : List Byte := syncByte :: f.afterSync

/-- Table 10-4: the request kinds. -/
def requestKinds : List Byte :=
  [0x01, 0x02, 0x03, 0x04, 0x05, 0x06, 0x07, 0x10, 0x11, 0x12, 0x13, 0x14, 0x15, 0x16, 0x17, 0x18,
    0x19, 0x20, 0x21, 0x22, 0x23, 0x24, 0x25, 0x28, 0x29, 0x2A, 0x2B, 0x30, 0x31, 0x32, 0x33]

/-- R182: the KIND is a code of Table 10-4. -/
def isRequestKind (kind : Byte) : Bool := requestKinds.contains kind

/-- R148: the longest BODY. -/
def maxBody : Nat := 248

/-- R150: "If its value is 0, 1 or 251 to 255, the frame is discarded at once". -/
def badLength (len : Byte) : Bool := len.toNat < 2 || 250 < len.toNat

/-- What a buffer of collected bytes amounts to. -/
inductive Verdict where
  /-- the receiver goes on collecting (R150) -/
  | incomplete
  /-- discarded with cause LENGTH or CHECK (R150, R151) -/
  | failed
  /-- complete, and its check agrees (R151) -/
  | valid (f : Frame)
  deriving DecidableEq, Repr

/-- R150, R151: the verdict on the bytes received since the SYNC. -/
def judge (buffer : List Byte) : Verdict :=
  match buffer with
  | [] => .incomplete
  | len :: rest =>
    if badLength len then .failed
    else if rest.length < len.toNat + 2 then .incomplete
    else if checkBytes (crc (buffer.take (len.toNat + 1))) = buffer.drop (len.toNat + 1) then
      match rest with
      | kind :: seq :: more => .valid ⟨kind, seq, more.take (len.toNat - 2)⟩
      | _ => .failed
    else .failed

/-- A buffer that a frame of the receiver fails on: a LENGTH byte out of range, or a complete frame
whose CHECK differs (R150, R151). -/
def frameFails (buffer : List Byte) : Bool :=
  match buffer with
  | [] => false
  | len :: rest =>
    if badLength len then rest.isEmpty
    else rest.length == len.toNat + 2 && judge buffer == .failed

/-- R150: the receiver is HUNTING, or COLLECTING with the bytes received since the SYNC. -/
inductive Receiver where
  | hunting
  | collecting (buffer : List Byte)
  deriving DecidableEq, Repr

/-- What taking bytes brings about: a valid frame to be handled (R154), or a discard to be counted
(R153). -/
inductive ScanEvent where
  | frame (f : Frame)
  | discard
  deriving DecidableEq, Repr

/-- R150, R151, R153: the receiver takes bytes one by one. A discarded frame's buffered bytes are taken
again from HUNTING, ahead of the bytes not yet taken. The first argument bounds the steps;
`scanBound` is always enough ("every discard's rescan comes to an end", R153). -/
def scan : Nat → Receiver → List Byte → List ScanEvent × Receiver
  | 0, r, _ => ([], r)
  | _ + 1, r, [] => ([], r)
  | n + 1, .hunting, b :: bs =>
    if b = syncByte then scan n (.collecting []) bs else scan n .hunting bs
  | n + 1, .collecting buffer, b :: bs =>
    match judge (buffer ++ [b]) with
    | .incomplete => scan n (.collecting (buffer ++ [b])) bs
    | .valid f =>
      let (events, r) := scan n .hunting bs
      (.frame f :: events, r)
    | .failed =>
      let (events, r) := scan n .hunting (buffer ++ [b] ++ bs)
      (.discard :: events, r)

/-- How many bytes a receiver holds, its SYNC included. -/
def Receiver.held : Receiver → Nat
  | .hunting => 0
  | .collecting buffer => buffer.length + 1

/-- Enough steps for a scan of `pending` from `r`: each discard gives up one SYNC for good, and
between discards each byte is taken once. -/
def scanBound (r : Receiver) (pending : List Byte) : Nat :=
  (r.held + pending.length + 1) * (r.held + pending.length + 1)

/-- The scan of `pending` from `r`, run to its end. -/
def scanAll (r : Receiver) (pending : List Byte) : List ScanEvent × Receiver :=
  scan (scanBound r pending) r pending

end Sys2Proof.Machine
end

