-- ==== Sys2Proof/Decode.lean ====
section
/-! DEFINITION. From words to commands. No row of spec/opcode_table.json gives bits, so no word of the
table spells a command. What spells a request is the KIND of a valid frame (R182). -/

namespace Sys2Proof

/-- The command that a word spells by the table's bits: none, since no row gives any. -/
def decodeTableWord (_nbits _w : Nat) : Option Instr := none

/-- Table 10-4: the row of the command table that a valid frame comes under. -/
def commandOf (f : Machine.Frame) : Instr :=
  match f.kind.toNat with
  | 0x01 => .status f.seq f.body
  | 0x02 => .identify f.seq f.body
  | 0x03 => .setLink f.seq f.body
  | 0x04 => .reportAck f.seq f.body
  | 0x05 => .restart f.seq f.body
  | 0x06 => .start f.seq f.body
  | 0x07 => .stop f.seq f.body
  | 0x10 => .defineZone f.seq f.body
  | 0x11 => .defineEye f.seq f.body
  | 0x12 => .defineDiverter f.seq f.body
  | 0x13 => .defineDestination f.seq f.body
  | 0x14 => .undefine f.seq f.body
  | 0x15 => .setLine f.seq f.body
  | 0x16 => .clearPending f.seq f.body
  | 0x17 => .copyActive f.seq f.body
  | 0x18 => .readLayout f.seq f.body
  | 0x19 => .commitLayout f.seq f.body
  | 0x20 => .announce f.seq f.body
  | 0x21 => .withdraw f.seq f.body
  | 0x22 => .queryItem f.seq f.body
  | 0x23 => .listZone f.seq f.body
  | 0x24 => .purge f.seq f.body
  | 0x25 => .reroute f.seq f.body
  | 0x28 => .haltZone f.seq f.body
  | 0x29 => .resumeZone f.seq f.body
  | 0x2A => .disableEye f.seq f.body
  | 0x2B => .enableEye f.seq f.body
  | 0x30 => .testDiverter f.seq f.body
  | 0x31 => .disableDiverter f.seq f.body
  | 0x32 => .enableDiverter f.seq f.body
  | 0x33 => .clearDiverterFault f.seq f.body
  | _ => .badKindFrame f.kind f.seq f.body

end Sys2Proof
end

