-- ==== Sys2Proof/Config.lean ====
section
/-! DEFINITION. What one board fixes for good, and the choices the manual leaves open. The opaque
constants have no body: no proof can see which value they have. -/

namespace Sys2Proof.Config

/-- Table 0-1: item records. -/
def itemRecords : Nat := 96

/-- Table 0-1, R42: announcements that may wait. -/
def announceCapacity : Nat := 16

/-- Table 0-1, R164: report entries that may be held. -/
def reportCapacity : Nat := 64

/-- R36: the lowest anonymous tag. -/
def firstAnonymousTag : Nat := 61440

/-- R28, R36: the highest tag. -/
def lastTag : Nat := 65535

/-- R43: the highest host tag. -/
def lastHostTag : Nat := 61439

/-- R150: the inter-byte timer, in milliseconds. -/
def interByteTime : Nat := 3

/-- R146: the model code in the IDENTIFY reply. -/
def modelCode : Nat := 48

/-- R146: the hardware revision fitted to the board, less 1. The manual bounds the revision to 1 to
255 and fixes no value (log entry 3). -/
opaque revisionLessOne : Fin 255

/-- R146: the hardware revision, 1 to 255. -/
def hardwareRevision : Byte := BitVec.ofNat 8 (revisionLessOne.val + 1)

/-- R6, R58, R115, R186, R187: crossings that fall together are taken in either order. The n-th time
that a happening has more than one crossing to choose from, this constant says which is next (log
entry 2). -/
opaque crossingChoice : Nat → Nat

/-- R1: timers that have to run out together run out in any order. The n-th time that a free choice is
taken, if it is of such a timer, this constant says which is next (log entry 24). -/
opaque expiryChoice : Nat → Nat

end Sys2Proof.Config
end

