-- ==== Sys2Proof/Machine/State.lean ====
section
/-! DEFINITION. The state of the T48 as plain data, block by block, and the state after reset. -/

namespace Sys2Proof.Machine

/-! ### Faults and refusals -/

/-- The manual gives the module no happening that stops it, and every command of this model has a next
state, so no fault has a constructor. -/
inductive Fault where
  deriving DecidableEq, Repr

/-- Why a command has no meaning. -/
inductive Refusal where
  /-- Raised by `exec` alone, for a row of the command table that has no meaning yet. Safe: no
  statement can be proved of its next state. No arm raises it in this model. -/
  | notModelled (mnemonic : String)
  deriving DecidableEq, Repr

/-! ### Value sets of Table 10-2 -/

/-- R127. -/
inductive ModuleState where
  | unconfigured | standby | tracking
  deriving DecidableEq, Repr

/-- Table 7-2. -/
inductive ModuleCause where
  | powerOn | resetLine | restart | start | stop | commit
  deriving DecidableEq, Repr

/-- Table 2-1. -/
inductive Origin where
  | announced | anonymous
  deriving DecidableEq, Repr

/-- Table 2-1. -/
inductive ItemState where
  | tracked | diverting
  deriving DecidableEq, Repr

/-- Table 4-1. -/
inductive EyeRole where
  | induct | confirm
  deriving DecidableEq, Repr

/-- Table 4-1. -/
inductive EyeSense where
  | darkOn | lightOn
  deriving DecidableEq, Repr

/-- Table 4-2. -/
inductive EyeState where
  | clear | blocked | jammed | jamHeld | disabled | undefined
  deriving DecidableEq, Repr

/-- Table 3-4. -/
inductive SpanState where
  | idle | measuring | passed
  deriving DecidableEq, Repr

/-- Table 6-3. -/
inductive DiverterState where
  | undefined | settling | idle | extending | holding | retracting | fault | disabled
  deriving DecidableEq, Repr

/-- R108 and Table 6-4. -/
inductive DiverterCause where
  | homed | cleared | testComplete | noHome | homeLost | strokeTimeout | shortStroke | returnTimeout
  deriving DecidableEq, Repr

/-- Table 6-6 and R117. -/
inductive MissCause where
  | notTracking | estop | busy | tightGap | strokeFault | disabled
  deriving DecidableEq, Repr

/-- R32, R73. -/
inductive LostCause where
  | misses | shadow | transfer
  deriving DecidableEq, Repr

/-- Table 0-3. -/
inductive LinkSpeed where
  | baud57600 | baud115200 | baud230400 | baud460800
  deriving DecidableEq, Repr

/-! ### Timers -/

/-- A running timer: the time it was started with and the milliseconds it has run (R1). A timer that
does not run is `none`. -/
structure Timer where
  duration : Nat
  elapsed  : Nat
  deriving DecidableEq, Repr

/-- A timer started afresh. -/
def startTimer (duration : Nat) : Option Timer := some ⟨duration, 0⟩

/-! ### The line layout (R136) -/

/-- Table 1-1. -/
structure ZoneDef where
  length      : Nat
  entryOffset : Nat
  deriving DecidableEq, Repr

/-- Table 4-1. -/
structure EyeDef where
  zone      : ZoneId
  position  : Nat
  tolerance : Nat
  role      : EyeRole
  sense     : EyeSense
  jamTime   : Nat
  deriving DecidableEq, Repr

/-- Table 6-1. -/
structure DiverterDef where
  zone          : ZoneId
  firePosition  : Nat
  lead          : Nat
  minimumGap    : Nat
  strokeTimeout : Nat
  dwell         : Nat
  returnTimeout : Nat
  deriving DecidableEq, Repr

/-- R81: one destination entry. -/
structure Destination where
  primary   : Option DiverterId
  alternate : Option DiverterId
  deriving DecidableEq, Repr

/-- Table 7-4. -/
structure LineSettings where
  minLength         : Nat
  maxLength         : Nat
  lengthTolerance   : Nat
  missLimit         : Nat
  poolReserve       : Nat
  rejectDestination : Option DestinationCode
  infeedHold        : Bool
  deriving DecidableEq, Repr

/-- R136: one copy of the line layout. An undefined entry is `none`. -/
structure Layout where
  zones        : Vector (Option ZoneDef) 4
  eyes         : Vector (Option EyeDef) 12
  diverters    : Vector (Option DiverterDef) 16
  destinations : Vector Destination 64
  line         : LineSettings
  deriving DecidableEq, Repr

/-- Table 7-4: the default line settings. -/
def LineSettings.default : LineSettings :=
  { minLength := 50, maxLength := 1500, lengthTolerance := 100, missLimit := 2, poolReserve := 4,
    rejectDestination := none, infeedHold := false }

/-- R136: the empty copy. -/
def Layout.empty : Layout :=
  { zones := Vector.replicate 4 none, eyes := Vector.replicate 12 none,
    diverters := Vector.replicate 16 none, destinations := Vector.replicate 64 ⟨none, none⟩,
    line := .default }

/-! ### Zones and items -/

/-- Table 1-2: a halt-reason set, one mark for each reason. -/
structure Reasons where
  stopped    : Bool
  estop      : Bool
  jam        : Bool
  host       : Bool
  downstream : Bool
  poolLow    : Bool
  link       : Bool
  deriving DecidableEq, Repr

/-- Table 2-3: the flags of an item record and of an EXITED report. -/
structure Flags where
  atRisk            : Bool
  lengthMismatch    : Bool
  overlength        : Bool
  unconfirmedDivert : Bool
  deriving DecidableEq, Repr

/-- Table 2-1: an item record in use. -/
structure Item where
  tag       : Nat
  origin    : Origin
  reference : Option (BitVec 16)
  destination : Option DestinationCode
  requested : Option DestinationCode
  zone      : ZoneId
  base      : Count
  length    : Nat
  expected  : Option Nat
  state     : ItemState
  assigned  : Option DiverterId
  nextEye   : Option EyeId
  missRun   : Nat
  flags     : Flags
  /-- The MODEL's own: the count of the item's zone at which a failed stroke returned it to tracking
  (R188, log entry 25). -/
  returnedAt : Option Count
  deriving DecidableEq, Repr

/-- One zone of the zone unit: its count (R4), its halt-reason set and permit output (R11), and its
track list, head (most downstream item) first (R29). -/
structure ZoneUnit where
  count   : Count
  reasons : Reasons
  permit  : Bool
  track   : List Item
  deriving DecidableEq, Repr

/-- Table 3-1: an announcement that waits. -/
structure Announcement where
  tag         : Nat
  destination : DestinationCode
  expected    : Option Nat
  reference   : Option (BitVec 16)
  deriving DecidableEq, Repr

/-! ### Eyes and diverters -/

/-- R63, R64: an eye's state and the elapsed time of its jam timer, which has meaning in BLOCKED and
is 0 elsewhere. -/
structure Eye where
  state      : EyeState
  jamElapsed : Nat
  deriving DecidableEq, Repr

/-- R99: a diverter's state, its one timer, its stroke slot (the tag of the item in it) and its test
mark. -/
structure Diverter where
  state    : DiverterState
  timer    : Option Timer
  slot     : Option Nat
  testMark : Bool
  deriving DecidableEq, Repr

/-! ### Reports -/

/-- Table 9-1: the body of a report, by kind. -/
inductive Report where
  | moduleState (state : ModuleState) (cause : ModuleCause)
  | zoneChange (zone : ZoneId) (running : Bool) (reasons : Reasons)
  | jam (eye : EyeId) (zone : ZoneId) (jammed : Bool)
  | inducted (tag : Nat) (origin : Origin) (destination : Option DestinationCode)
      (diverter : Option DiverterId) (length : Nat) (flags : Flags) (reference : Option (BitVec 16))
  | untracked (eye : EyeId)
  | phantom (eye : EyeId) (zone : ZoneId)
  | claimMoved (tag : Nat) (old : DiverterId) (new : Option DiverterId)
  | missedDivert (tag : Nat) (diverter : DiverterId) (cause : MissCause) (new : Option DiverterId)
  | diverted (tag : Nat) (diverter : DiverterId) (reference : Option (BitVec 16))
  | exited (tag : Nat) (flags : Flags) (reference : Option (BitVec 16))
  | lost (tag : Nat) (zone : ZoneId) (eye : Option EyeId) (cause : LostCause)
  | diverterChange (diverter : DiverterId) (state : DiverterState) (cause : DiverterCause)
  deriving DecidableEq, Repr

/-- R164: a report entry; `outstanding` is its sent mark. -/
structure Entry where
  number      : Nat
  report      : Report
  superseded  : Nat
  outstanding : Bool
  deriving DecidableEq, Repr

/-- R164 to R171: the report queue, oldest entry first. -/
structure ReportQueue where
  entries     : List Entry
  nextNumber  : Nat
  outstanding : Nat
  resendTimer : Option Timer
  deriving DecidableEq, Repr

/-- R144: the eight statistics counters. -/
structure Counters where
  inducted          : Counter
  diverted          : Counter
  exited            : Counter
  lost              : Counter
  phantom           : Counter
  noiseDiscards     : Counter
  framesDiscarded   : Counter
  reportsSuperseded : Counter
  deriving DecidableEq, Repr

/-! ### The host link -/

/-- R161: the transmitter and the bytes of the frame it is sending. -/
inductive Transmitter where
  | free
  | sending (frame : List Byte)
  deriving DecidableEq, Repr

/-- Table 8-6. -/
structure LinkSettings where
  sendWindow  : Nat
  resendTime  : Nat
  linkTimeout : Nat
  deriving DecidableEq, Repr

/-- Section 8: the host link. A reply is held as its frame: reply kind, SEQ and body. -/
structure HostLink where
  speed       : LinkSpeed
  receiver    : Receiver
  interByte   : Option Timer
  slot        : Option Frame
  cache       : Option Frame
  transmitter : Transmitter
  up          : Bool
  linkTimer   : Option Timer
  settings    : LinkSettings
  deriving DecidableEq, Repr

/-- Table 0-3: the speed that the straps select. -/
def strappedSpeed (i : Inputs) : LinkSpeed :=
  match i.rate1, i.rate0 with
  | false, false => .baud57600
  | false, true  => .baud115200
  | true,  false => .baud230400
  | true,  true  => .baud460800

/-! ### The machine -/

/-- The whole module. -/
structure State where
  /-- R127: the module state. -/
  module        : ModuleState
  /-- R136: the copy that the line computer edits. -/
  pendingLayout : Layout
  /-- R136: the copy that the module works to. -/
  activeLayout  : Layout
  /-- R144. -/
  counters      : Counters
  /-- Chapter 1 and R29. -/
  zones         : Vector ZoneUnit 4
  /-- R23: the free count. -/
  freeRecords   : Nat
  /-- R36. -/
  nextAnonymous : Nat
  /-- R42: oldest first. -/
  announcements : List Announcement
  /-- R47. -/
  span          : SpanState
  /-- R47. -/
  spanCount     : Nat
  /-- Chapter 4. -/
  eyes          : Vector Eye 12
  /-- R86: sixteen claim lists of tags, head first. -/
  claims        : Vector (List Nat) 16
  /-- Chapter 6. -/
  diverters     : Vector Diverter 16
  /-- Chapter 8. -/
  link          : HostLink
  /-- Chapter 9. -/
  reports       : ReportQueue
  /-- Table 0-2: the levels of the field inputs. -/
  inputs        : Inputs
  /-- R130: RESETIN is active, and the state of every block is void. -/
  resetActive   : Bool
  /-- The model's queue of commands that wait, first in, first out. -/
  pending       : List Instr
  /-- The model's count of the free choices taken (log entry 2). -/
  freeIndex     : Nat
  deriving DecidableEq, Repr

/-- No reason present. -/
def Reasons.none : Reasons := ⟨false, false, false, false, false, false, false⟩

/-- No flag set. -/
def Flags.none : Flags := ⟨false, false, false, false⟩

/-- Every counter 0 (R144). -/
def Counters.zero : Counters := ⟨0, 0, 0, 0, 0, 0, 0, 0⟩

/-- A zone of Table 1-4 at power-on, with no item. -/
def ZoneUnit.blank (estop : Bool) : ZoneUnit :=
  { count := 0, reasons := { Reasons.none with stopped := true, estop := estop }, permit := false,
    track := [] }

/-- R60, R80: an eye that the layout does not define. -/
def Eye.blank : Eye := ⟨.undefined, 0⟩

/-- R97, R126: a diverter that the layout does not define. -/
def Diverter.blank : Diverter := ⟨.undefined, none, none, false⟩

/-- Every field input inactive and both straps open: the levels of State.reset (log entry 1). -/
def inactiveInputs : Inputs :=
  { estop := false, rate0 := false, rate1 := false, eyes := Vector.replicate 12 false,
    homes := Vector.replicate 16 false }

/-- Table 8-6: the default link settings. -/
def LinkSettings.default : LinkSettings := ⟨4, 200, 0⟩

/-- Table 8-7: the host link at power-on. -/
def HostLink.powerOn (speed : LinkSpeed) : HostLink :=
  { speed := speed, receiver := .hunting, interByte := none, slot := none, cache := none,
    transmitter := .free, up := false, linkTimer := none, settings := .default }

/-- Table 9-3: an empty queue with next number 1. -/
def ReportQueue.empty : ReportQueue := ⟨[], 1, 0, none⟩

/-- R179: the queue at power-on, holding its MODULE_STATE report as number 1. -/
def ReportQueue.first (state : ModuleState) (cause : ModuleCause) : ReportQueue :=
  ⟨[⟨1, .moduleState state cause, 0, false⟩], 2, 0, none⟩

/-- The module right after power-on (R129), every field input inactive. -/
def State.reset : State where
  module := .unconfigured
  pendingLayout := .empty
  activeLayout := .empty
  counters := .zero
  zones := Vector.replicate 4 (ZoneUnit.blank false)
  freeRecords := Config.itemRecords
  nextAnonymous := Config.firstAnonymousTag
  announcements := []
  span := .idle
  spanCount := 0
  eyes := Vector.replicate 12 Eye.blank
  claims := Vector.replicate 16 []
  diverters := Vector.replicate 16 Diverter.blank
  link := .powerOn .baud57600
  reports := .first .unconfigured .powerOn
  inputs := inactiveInputs
  resetActive := false
  pending := []
  freeIndex := 0

end Sys2Proof.Machine
end

