-- ==== Sys2Proof/Machine/Flags.lean ====
section
/-! DEFINITION. Halt-reason sets and item flags: their bytes (Table 10-3) and the rules that read
them. -/

namespace Sys2Proof.Machine

/-- A bit set with bit `n` set or clear (Table 10-3). -/
def bitMark (n : Nat) (b : Bool) : Byte := if b then 1#8 <<< n else 0#8

/-- Table 10-3: the byte of a halt-reason set. -/
def Reasons.byte (r : Reasons) : Byte :=
  bitMark 0 r.stopped ||| bitMark 1 r.estop ||| bitMark 2 r.jam ||| bitMark 3 r.host |||
    bitMark 4 r.downstream ||| bitMark 5 r.poolLow ||| bitMark 6 r.link

/-- R11: no reason is present. -/
def Reasons.isEmpty (r : Reasons) : Bool :=
  !(r.stopped || r.estop || r.jam || r.host || r.downstream || r.poolLow || r.link)

/-- Table 1-2: the reasons that cascade upstream as DOWNSTREAM. -/
def Reasons.cascades (r : Reasons) : Bool := r.jam || r.host

/-- Table 10-3: the byte of a flag set. -/
def Flags.byte (f : Flags) : Byte :=
  bitMark 0 f.atRisk ||| bitMark 1 f.lengthMismatch ||| bitMark 2 f.overlength |||
    bitMark 3 f.unconfirmedDivert

/-- R27: AT_RISK set in an item's flags. -/
def Item.markAtRisk (i : Item) : Item := { i with flags := { i.flags with atRisk := true } }

/-- R69 step 3: AT_RISK cleared from an item's flags. -/
def Item.clearAtRisk (i : Item) : Item := { i with flags := { i.flags with atRisk := false } }

/-- R9: the flags of an EXITED report. -/
def Item.exitFlags (i : Item) : Flags :=
  { i.flags with
    unconfirmedDivert := i.flags.unconfirmedDivert || decide (i.state = .diverting) }

/-- R83: the states in service. -/
def DiverterState.inService : DiverterState → Bool
  | .idle | .extending | .holding | .retracting => true
  | .settling | .fault | .disabled | .undefined => false

/-- R99: a drive output is on exactly in EXTENDING and HOLDING. -/
def DiverterState.driven : DiverterState → Bool
  | .extending | .holding => true
  | .undefined | .settling | .idle | .retracting | .fault | .disabled => false

/-- R15: the eye states that keep JAM in a zone. -/
def EyeState.holdsJam : EyeState → Bool
  | .jammed | .jamHeld => true
  | .clear | .blocked | .disabled | .undefined => false

end Sys2Proof.Machine
end

