-- ==== Sys2Proof/Machine/Operands.lean ====
section
/-! DEFINITION. The fields of message bodies: how a request's bytes are read, and how replies and
reports are written (chapter 10, R180 to R185). -/

namespace Sys2Proof.Machine

/-! ### Reading (R180) -/

/-- A two-byte field, least significant byte first. -/
def le16 (lo hi : Byte) : Nat := lo.toNat + 256 * hi.toNat

/-- A number that names one of `n` things, if it is in range. -/
def numberBelow (n k : Nat) : Option (Fin n) := if h : k < n then some ⟨k, h⟩ else none

/-- A field that may be none, FFh: `none` where it is out of range, `some none` where it is absent. -/
def optionalField (n : Nat) (b : Byte) : Option (Option (Fin n)) :=
  if b = 0xFF#8 then some none else (numberBelow n b.toNat).map some

/-! ### Writing (R180) -/

/-- A one-byte field. -/
def byteOf (n : Nat) : Byte := BitVec.ofNat 8 n

/-- A two-byte field, least significant byte first. -/
def bytes2 (n : Nat) : List Byte := [byteOf n, byteOf (n / 256)]

/-- A statistics counter, least significant byte first. -/
def bytes4 (c : Counter) : List Byte :=
  [c.setWidth 8, (c >>> 8).setWidth 8, (c >>> 16).setWidth 8, (c >>> 24).setWidth 8]

/-- A field that may be absent, FFh when it is. -/
def optionalByte {n : Nat} : Option (Fin n) → Byte
  | some k => byteOf k.val
  | none => 0xFF#8

/-- R180: "When its bit is clear, the field is sent as FFFFh". -/
def optionalBytes2 : Option Nat → List Byte
  | some n => bytes2 n
  | none => [0xFF#8, 0xFF#8]

/-- A reference field, FFFFh when absent. -/
def referenceBytes (r : Option (BitVec 16)) : List Byte := optionalBytes2 (r.map BitVec.toNat)

/-- R180: the presence byte. -/
def presenceByte (reference expected : Bool) : Byte := bitMark 0 reference ||| bitMark 1 expected

/-- A mark of two values, 00h and 01h. -/
def markByte (b : Bool) : Byte := if b then 1#8 else 0#8

/-! ### Codes (Table 10-2) -/

def ModuleState.code : ModuleState → Byte
  | .unconfigured => 0 | .standby => 1 | .tracking => 2

def ModuleCause.code : ModuleCause → Byte
  | .powerOn => 0 | .resetLine => 1 | .restart => 2 | .start => 3 | .stop => 4 | .commit => 5

def Origin.code : Origin → Byte
  | .announced => 0 | .anonymous => 1

def ItemState.code : ItemState → Byte
  | .tracked => 0 | .diverting => 1

def EyeRole.code : EyeRole → Byte
  | .induct => 0 | .confirm => 1

def EyeSense.code : EyeSense → Byte
  | .darkOn => 0 | .lightOn => 1

def EyeState.code : EyeState → Byte
  | .clear => 0 | .blocked => 1 | .jammed => 2 | .jamHeld => 3 | .disabled => 4 | .undefined => 5

def DiverterState.code : DiverterState → Byte
  | .undefined => 0 | .settling => 1 | .idle => 2 | .extending => 3 | .holding => 4
  | .retracting => 5 | .fault => 6 | .disabled => 7

def DiverterCause.code : DiverterCause → Byte
  | .homed => 0 | .cleared => 1 | .testComplete => 2 | .noHome => 3 | .homeLost => 4
  | .strokeTimeout => 5 | .shortStroke => 6 | .returnTimeout => 7

def MissCause.code : MissCause → Byte
  | .notTracking => 0 | .estop => 1 | .busy => 2 | .tightGap => 3 | .strokeFault => 4
  | .disabled => 5

def LostCause.code : LostCause → Byte
  | .misses => 0 | .shadow => 1 | .transfer => 2

/-- Table 8-5: the result of a request. -/
inductive ResultCode where
  | ok | badLength | badKind | badField | wrongState | duplicateTag | unknownTag | queueFull
  | tooLate | itemsPresent | layoutInvalid | badAck
  deriving DecidableEq, Repr

def ResultCode.code : ResultCode → Byte
  | .ok => 0 | .badLength => 1 | .badKind => 2 | .badField => 3 | .wrongState => 4
  | .duplicateTag => 5 | .unknownTag => 6 | .queueFull => 7 | .tooLate => 8 | .itemsPresent => 9
  | .layoutInvalid => 10 | .badAck => 11

/-- A role byte; none where the code is not listed (R181). -/
def eyeRoleOf (b : Byte) : Option EyeRole :=
  if b = 0 then some .induct else if b = 1 then some .confirm else none

/-- A sense byte; none where the code is not listed (R181). -/
def eyeSenseOf (b : Byte) : Option EyeSense :=
  if b = 0 then some .darkOn else if b = 1 then some .lightOn else none

/-- A mark byte of a request; none where the code is not listed (R181). -/
def markOf (b : Byte) : Option Bool :=
  if b = 0 then some false else if b = 1 then some true else none

/-- Table 10-2: entry kinds. -/
inductive EntryKind where
  | zone | eye | diverter | destination | line
  deriving DecidableEq, Repr

def EntryKind.code : EntryKind → Byte
  | .zone => 0 | .eye => 1 | .diverter => 2 | .destination => 3 | .line => 4

/-- An entry-kind byte; none where the code is not listed (R181). -/
def entryKindOf (b : Byte) : Option EntryKind :=
  if b = 0 then some .zone else if b = 1 then some .eye else if b = 2 then some .diverter
  else if b = 3 then some .destination else if b = 4 then some .line else none

/-! ### Shared layouts of replies -/

/-- Table 1-1 in the order of DEFINE_ZONE. -/
def ZoneDef.bytes (z : ZoneDef) : List Byte := bytes2 z.length ++ [byteOf z.entryOffset]

/-- Table 4-1 in the order of DEFINE_EYE. -/
def EyeDef.bytes (e : EyeDef) : List Byte :=
  byteOf e.zone.val :: bytes2 e.position ++ [byteOf e.tolerance, e.role.code, e.sense.code] ++
    bytes2 e.jamTime

/-- Table 6-1 in the order of DEFINE_DIVERTER. -/
def DiverterDef.bytes (d : DiverterDef) : List Byte :=
  byteOf d.zone.val :: bytes2 d.firePosition ++ bytes2 d.lead ++ bytes2 d.minimumGap ++
    bytes2 d.strokeTimeout ++ bytes2 d.dwell ++ bytes2 d.returnTimeout

/-- R81: the two fields of a destination entry. -/
def Destination.bytes (c : Destination) : List Byte :=
  [optionalByte c.primary, optionalByte c.alternate]

/-- Table 7-4 in the order of SET_LINE. -/
def LineSettings.bytes (l : LineSettings) : List Byte :=
  bytes2 l.minLength ++ bytes2 l.maxLength ++ bytes2 l.lengthTolerance ++
    [byteOf l.missLimit, byteOf l.poolReserve, optionalByte l.rejectDestination,
      markByte l.infeedHold]

/-- Table 8-6 in the order of SET_LINK. -/
def LinkSettings.bytes (l : LinkSettings) : List Byte :=
  byteOf l.sendWindow :: bytes2 l.resendTime ++ bytes2 l.linkTimeout

/-- Table 10-8: the item record, 20 bytes, with the position as computed. -/
def Item.bytes (i : Item) (position : Nat) : List Byte :=
  bytes2 i.tag ++ [i.origin.code, presenceByte i.reference.isSome i.expected.isSome] ++
    referenceBytes i.reference ++
    [optionalByte i.destination, optionalByte i.requested, byteOf i.zone.val] ++
    bytes2 position ++ bytes2 i.length ++ optionalBytes2 i.expected ++
    [i.state.code, optionalByte i.assigned, optionalByte i.nextEye, byteOf i.missRun, i.flags.byte]

/-- Table 10-8: the announcement, 8 bytes. -/
def Announcement.bytes (a : Announcement) : List Byte :=
  bytes2 a.tag ++
    [byteOf a.destination.val, presenceByte a.reference.isSome a.expected.isSome] ++
    optionalBytes2 a.expected ++ referenceBytes a.reference

/-- R144, Table 10-9: the eight counters in their order. -/
def Counters.bytes (c : Counters) : List Byte :=
  bytes4 c.inducted ++ bytes4 c.diverted ++ bytes4 c.exited ++ bytes4 c.lost ++ bytes4 c.phantom ++
    bytes4 c.noiseDiscards ++ bytes4 c.framesDiscarded ++ bytes4 c.reportsSuperseded

/-! ### Reports (Tables 10-5 and 10-10) -/

/-- Table 10-5. -/
def Report.kind : Report → Byte
  | .moduleState .. => 0x60 | .zoneChange .. => 0x61 | .jam .. => 0x62 | .inducted .. => 0x63
  | .untracked .. => 0x64 | .phantom .. => 0x65 | .claimMoved .. => 0x66
  | .missedDivert .. => 0x67 | .diverted .. => 0x68 | .exited .. => 0x69 | .lost .. => 0x6A
  | .diverterChange .. => 0x6B

/-- Table 10-10: the fields after the superseded count. -/
def Report.fields : Report → List Byte
  | .moduleState state cause => [state.code, cause.code]
  | .zoneChange zone running reasons => [byteOf zone.val, markByte running, reasons.byte]
  | .jam eye zone jammed => [byteOf eye.val, byteOf zone.val, markByte jammed]
  | .inducted tag origin destination diverter length flags reference =>
    bytes2 tag ++ [origin.code, presenceByte reference.isSome false, optionalByte destination,
      optionalByte diverter] ++ bytes2 length ++ [flags.byte] ++ referenceBytes reference
  | .untracked eye => [byteOf eye.val]
  | .phantom eye zone => [byteOf eye.val, byteOf zone.val]
  | .claimMoved tag old new => bytes2 tag ++ [byteOf old.val, optionalByte new]
  | .missedDivert tag diverter cause new =>
    bytes2 tag ++ [byteOf diverter.val, cause.code, optionalByte new]
  | .diverted tag diverter reference =>
    bytes2 tag ++ [byteOf diverter.val, presenceByte reference.isSome false] ++
      referenceBytes reference
  | .exited tag flags reference =>
    bytes2 tag ++ [flags.byte, presenceByte reference.isSome false] ++ referenceBytes reference
  | .lost tag zone eye cause =>
    bytes2 tag ++ [byteOf zone.val, optionalByte eye, cause.code]
  | .diverterChange diverter state cause => [byteOf diverter.val, state.code, cause.code]

/-- R170, R185: the report frame composed from an entry. -/
def Entry.frame (e : Entry) : Frame :=
  { kind := e.report.kind, seq := 0,
    body := bytes2 e.number ++ [byteOf e.superseded] ++ e.report.fields }

end Sys2Proof.Machine
end

