-- ==== Sys2Proof/Machine/Ops.lean ====
section
/-! DEFINITION. The named operations that the blocks share: the active layout's points, the report
queue's posting, the halt reasons and permits, and the item pool. -/

namespace Sys2Proof.Machine

/-! ### Numbers in order -/

/-- The zones, lowest first. -/
def allZones : List ZoneId := [0, 1, 2, 3]

/-- The eyes, lowest number first. -/
def allEyes : List EyeId := [0, 1, 2, 3, 4, 5, 6, 7, 8, 9, 10, 11]

/-- The diverters, lowest number first. -/
def allDiverters : List DiverterId := [0, 1, 2, 3, 4, 5, 6, 7, 8, 9, 10, 11, 12, 13, 14, 15]

/-! ### The layout's points -/

/-- R3: the length of a zone; 0 for an undefined zone, which holds no items. -/
def Layout.zoneLength (l : Layout) (z : ZoneId) : Nat := (l.zones[z].map ZoneDef.length).getD 0

/-- R3, R8: the defined zone next downstream of `z`, if `z` is not the last. -/
def Layout.zoneAfter (l : Layout) (z : ZoneId) : Option ZoneId :=
  match numberBelow 4 (z.val + 1) with
  | some y => if l.zones[y].isSome then some y else none
  | none => none

/-- R3: the entry offset of a zone. -/
def Layout.entryOffset (l : Layout) (z : ZoneId) : Nat := (l.zones[z].map ZoneDef.entryOffset).getD 0

/-- Section 3.2: the induction eye. -/
def Layout.inductionEye (l : Layout) : Option EyeId :=
  allEyes.find? fun e => l.eyes[e].any fun d => d.role = .induct

/-- R60: the miss point of an eye. -/
def EyeDef.missPoint (d : EyeDef) : Nat := d.position + d.tolerance + 1

/-- R60: a position lies within the eye's window. -/
def EyeDef.inWindow (d : EyeDef) (p : Nat) : Bool :=
  d.position ≤ p + d.tolerance && p ≤ d.position + d.tolerance

/-- Section 0.6: the point at `q` of zone `y` lies downstream of the point at `p` of zone `z`. -/
def downstreamOf (z : ZoneId) (p : Nat) (y : ZoneId) (q : Nat) : Bool :=
  z < y || (z = y && p < q)

/-- R61: the nearest defined eye downstream of position `p` of zone `z`, DISABLED or not. -/
def Layout.eyeDownstream (l : Layout) (z : ZoneId) (p : Nat) : Option EyeId :=
  allEyes.foldl (fun best e =>
    match l.eyes[e] with
    | none => best
    | some d =>
      if downstreamOf z p d.zone d.position then
        match best.bind fun b => l.eyes[b] with
        | none => some e
        | some c => if downstreamOf d.zone d.position c.zone c.position then some e else best
      else best) none

/-- R61: the eye following eye `e`. -/
def Layout.eyeFollowing (l : Layout) (e : EyeId) : Option EyeId :=
  match l.eyes[e] with
  | some d => l.eyeDownstream d.zone d.position
  | none => none

/-- R84, R97: the trigger point, the fire position less the lead. -/
def DiverterDef.triggerPoint (d : DiverterDef) : Int := (d.firePosition : Int) - d.lead

/-! ### The field inputs -/

/-- R62: the blocked condition of an input level read through a sense. -/
def blockedThrough : EyeSense → Bool → Bool
  | .darkOn, level => level
  | .lightOn, level => !level

/-- R62: the blocked condition of eye `e` as its input stands. An eye with no definition has no sense;
its level is read as a dark-on eye's would be (log entry 5). -/
def State.eyeBlocked (s : State) (e : EyeId) : Bool :=
  match s.activeLayout.eyes[e] with
  | some d => blockedThrough d.sense s.inputs.eyes[e]
  | none => s.inputs.eyes[e]

/-- The input of eye `e` put at the level that makes the eye blocked or clear. -/
def State.setEyeBlocked (e : EyeId) (blocked : Bool) (s : State) : State :=
  let level := match s.activeLayout.eyes[e] with
    | some d => blockedThrough d.sense blocked
    | none => blocked
  { s with inputs := { s.inputs with eyes := s.inputs.eyes.set e level } }

/-- The input HOME`d` put at a level. -/
def State.setHome (d : DiverterId) (level : Bool) (s : State) : State :=
  { s with inputs := { s.inputs with homes := s.inputs.homes.set d level } }

/-- A command that is a change at an input. From an emergency stop, a RESTART or a commit on, a run of
these starts no stroke: none fires a diverter while the ESTOP input is active or out of TRACKING. -/
def isInputChange : Instr → Bool
  | .encoderPulse _ | .blockedEdge _ | .unblockedEdge _ | .homeActiveEdge _ | .homeInactiveEdge _ => true
  | .estopChangeAtZones active | .estopChangeAtDiverters active => active
  | _ => false

/-- R105, R125, R135: an inactive edge at HOME`d` meets the happening that ends a stroke of diverter `d`:
it comes behind it in the queue, with only input changes between (log entry 23). -/
def State.leavingHome (s : State) (d : DiverterId) : Bool :=
  decide (s.diverters[d].state = .extending) &&
    (s.pending.takeWhile isInputChange).contains (.homeInactiveEdge d)

/-- R100, R105: the input HOME`d` read as it stands by a diverter whose stroke is ended. The sensor of an
actuator that leaves home as the stroke is ended is inactive already, ahead of its edge (log entry
23). -/
def State.readHome (d : DiverterId) (s : State) : State :=
  if s.leavingHome d then s.setHome d false else s

/-! ### Timers (R1) -/

/-- R1: a running timer may run out: it has run for its time. -/
def Timer.due (t : Timer) : Bool := t.duration ≤ t.elapsed

/-- R1: a running timer has run out by now: a millisecond more than its time has passed. -/
def Timer.overdue (t : Timer) : Bool := t.duration < t.elapsed

/-- R1: a millisecond of a running timer. -/
def Timer.advance (t : Timer) : Timer := { t with elapsed := t.elapsed + 1 }

/-! ### Parts of the state -/

/-- One zone of the zone unit changed. -/
def State.modifyZone (z : ZoneId) (f : ZoneUnit → ZoneUnit) (s : State) : State :=
  { s with zones := s.zones.set z (f s.zones[z]) }

/-- Every zone of the zone unit changed. -/
def State.mapZones (f : ZoneId → ZoneUnit → ZoneUnit) (s : State) : State :=
  { s with zones := Vector.ofFn fun z => f z s.zones[z] }

/-- One zone's halt-reason set changed. -/
def State.modifyReasons (z : ZoneId) (f : Reasons → Reasons) (s : State) : State :=
  s.modifyZone z fun u => { u with reasons := f u.reasons }

/-- One eye's state and jam timer written. -/
def State.setEye (e : EyeId) (state : EyeState) (s : State) : State :=
  { s with eyes := s.eyes.set e ⟨state, 0⟩ }

/-- One diverter changed. -/
def State.modifyDiverter (d : DiverterId) (f : Diverter → Diverter) (s : State) : State :=
  { s with diverters := s.diverters.set d (f s.diverters[d]) }

/-- One counter raised (R144). -/
def State.count (f : Counters → Counters) (s : State) : State := { s with counters := f s.counters }

/-- R127: a layout is in force. -/
def State.configured (s : State) : Bool := s.module != .unconfigured

/-- R3: zone `z` is defined in the active layout. -/
def State.zoneDefined (s : State) (z : ZoneId) : Bool := s.activeLayout.zones[z].isSome

/-! ### Posting a report (R165 to R167) -/

/-- R165: the report number after `n`; 0 is never given. -/
def numberAfter (n : Nat) : Nat := if n < 65535 then n + 1 else 1

/-- R167: an entry written over by a newer report. -/
def Entry.supersede (r : Report) (e : Entry) : Entry :=
  { e with report := r, superseded := if e.superseded < 255 then e.superseded + 1 else e.superseded }

/-- R167: the newest entry written over. -/
def replaceNewest (r : Report) : List Entry → List Entry
  | [] => []
  | [e] => [e.supersede r]
  | e :: f :: es => e :: replaceNewest r (f :: es)

/-- R166: fewer than 64 entries are held. -/
def ReportQueue.hasRoom (q : ReportQueue) : Bool := q.entries.length < Config.reportCapacity

/-- R166, R167: a report posted into the queue. -/
def ReportQueue.post (r : Report) (q : ReportQueue) : ReportQueue :=
  { q with
    entries := if q.hasRoom then q.entries ++ [⟨q.nextNumber, r, 0, false⟩] else replaceNewest r q.entries
    nextNumber := if q.hasRoom then numberAfter q.nextNumber else q.nextNumber }

/-- R166, R167: a block posts a report. -/
def State.post (r : Report) (s : State) : State :=
  { s with
    reports := s.reports.post r
    counters := { s.counters with
      reportsSuperseded := s.counters.reportsSuperseded + if s.reports.hasRoom then 0 else 1 } }

/-! ### Halt reasons and permits (R11, R12, R16) -/

/-- R16: a defined zone downstream of `z` holds JAM or HOST. -/
def State.heldDownstream (s : State) (z : ZoneId) : Bool :=
  s.zoneDefined z && allZones.any fun y =>
    decide (z < y) && s.zoneDefined y && s.zones[y].reasons.cascades

/-- R16: DOWNSTREAM derived for every zone. -/
def State.deriveDownstream (s : State) : State :=
  s.mapZones fun z u => { u with reasons := { u.reasons with downstream := s.heldDownstream z } }

/-- R11, R12: one zone's permit set from its reasons, with a ZONE_CHANGE if it changes. -/
def State.settlePermit (z : ZoneId) (s : State) : State :=
  let u := s.zones[z]
  if u.permit = u.reasons.isEmpty then s
  else (s.modifyZone z fun v => { v with permit := v.reasons.isEmpty }).post
    (.zoneChange z u.reasons.isEmpty u.reasons)

/-- R11, R12: at the end of a happening, DOWNSTREAM is brought up to date, every permit is set, and the
ZONE_CHANGE reports are posted, most downstream zone first. -/
def State.settleZones (s : State) : State :=
  (((s.deriveDownstream.settlePermit 3).settlePermit 2).settlePermit 1).settlePermit 0

/-- R15: JAM in zone `z` withdrawn unless an eye of `z` is JAMMED or JAM_HELD. -/
def State.withdrawJam (z : ZoneId) (s : State) : State :=
  s.modifyReasons z fun r =>
    { r with jam := r.jam && allEyes.any fun e =>
        s.eyes[e].state.holdsJam && s.activeLayout.eyes[e].any fun d => d.zone = z }

/-! ### The item pool (R23 to R37) -/

/-- Every item record in use, in line order: downstream zones first, and the head of each list
first (section 0.6, R29). -/
def State.lineItems (s : State) : List Item :=
  s.zones[3].track ++ s.zones[2].track ++ s.zones[1].track ++ s.zones[0].track

/-- The record in use that carries a tag. -/
def State.findItem (tag : Nat) (s : State) : Option Item :=
  s.lineItems.find? fun i => i.tag = tag

/-- R5: the position of an item, the zone count less the base. -/
def State.position (s : State) (i : Item) : Nat := (s.zones[i.zone].count - i.base).toNat

/-- R5: the base that gives position `p` in zone `z` now. -/
def State.baseFor (s : State) (z : ZoneId) (p : Nat) : Count :=
  s.zones[z].count - BitVec.ofNat 24 p

/-- One record changed where it stands. -/
def State.updateItem (tag : Nat) (f : Item → Item) (s : State) : State :=
  s.mapZones fun _ u => { u with track := u.track.map fun i => if i.tag = tag then f i else i }

/-- One record taken out of the track lists. -/
def State.removeItem (tag : Nat) (s : State) : State :=
  s.mapZones fun _ u => { u with track := u.track.filter fun i => i.tag != tag }

/-- R37: POOL_LOW claimed or withdrawn as the free count stands against the active layout's reserve. -/
def State.evaluatePoolLow (s : State) : State :=
  s.modifyReasons 0 fun r =>
    { r with poolLow := s.configured && decide (s.freeRecords < s.activeLayout.line.poolReserve) }

/-- R34: release. The report, if any, has been posted before. -/
def State.release (tag : Nat) (s : State) : State :=
  State.evaluatePoolLow
    { s.removeItem tag with
      claims := Vector.ofFn fun d => s.claims[d].filter fun t => t != tag
      diverters := Vector.ofFn fun d =>
        { s.diverters[d] with
          slot := if s.diverters[d].slot = some tag then none else s.diverters[d].slot }
      freeRecords := s.freeRecords + 1 }

/-- R32, R73: an item declared lost: LOST is posted, the counter raised and the record released. -/
def State.lose (tag : Nat) (zone : ZoneId) (eye : Option EyeId) (cause : LostCause) (s : State) :
    State :=
  (((s.post (.lost tag zone eye cause)).count
    fun c => { c with lost := c.lost + 1 })).release tag

/-- The record just behind the record with a tag in a track list: its successor in the zone (R29). -/
def behind (tag : Nat) : List Item → Option Item
  | [] => none
  | i :: is => if i.tag = tag then is.head? else behind tag is

/-- The record just ahead of the record with a tag in a track list: its predecessor in the zone
(R29). -/
def ahead (tag : Nat) : List Item → Option Item
  | [] => none
  | [_] => none
  | i :: j :: is => if j.tag = tag then some i else ahead tag (j :: is)

/-- R31: the position at which a record asked to be placed at `p` joins the tail of a list, and whether
it gains AT_RISK; none where it cannot be placed (R32). `tail` is the former tail's position. -/
def clampAtTail (tail : Option Nat) (p : Nat) : Option (Nat × Bool) :=
  match tail with
  | none => some (p, false)
  | some q => if p < q then some (p, false) else if 1 ≤ q then some (q - 1, true) else none

/-- R31: the position of the last record of a zone's track list. -/
def State.tailPosition (s : State) (z : ZoneId) : Option Nat :=
  s.zones[z].track.getLast?.map s.position

/-- R33: the two-sided bound on a resynchronisation to position `e`. -/
def boundBetween (ahead behind : Option Nat) (e : Nat) : Nat :=
  match ahead, behind with
  | some p, some q => if p ≤ e then p - 1 else if e ≤ q then q + 1 else e
  | some p, none => if p ≤ e then p - 1 else e
  | none, some q => if e ≤ q then q + 1 else e
  | none, none => e

/-- R36: a tag after an anonymous tag, round from 65,535 to 61,440. -/
def anonymousAfter (t : Nat) : Nat :=
  if t < Config.lastTag then t + 1 else Config.firstAnonymousTag

/-- R36: the first value from `t` on that no record in use carries. -/
def State.firstUnused (s : State) : Nat → Nat → Nat
  | 0, t => t
  | n + 1, t => if (s.findItem t).isSome then s.firstUnused n (anonymousAfter t) else t

/-- R36: the anonymous tag that the allocator gives. At most 96 records are in use, so 96 steps find
an unused value. -/
def State.allocateTag (s : State) : Nat := s.firstUnused Config.itemRecords s.nextAnonymous

end Sys2Proof.Machine
end

