-- ==== Sys2Proof/Machine/Claims.lean ====
section
/-! DEFINITION. The claim table: claimability, assignment, claim lists and re-evaluation
(R83 to R92). -/

namespace Sys2Proof.Machine

/-- R84: diverter `d` is claimable by item `i`. -/
def State.claimable (s : State) (i : Item) (d : DiverterId) : Bool :=
  match s.activeLayout.diverters[d] with
  | none => false
  | some def_ =>
    s.diverters[d].state.inService &&
      (decide (i.zone < def_.zone) ||
        (decide (i.zone = def_.zone) && decide ((s.position i : Int) < def_.triggerPoint)))

/-- R85 steps 2 and 3: a field of the destination entry that may be taken. -/
def State.takes (s : State) (i : Item) (excluded : Option DiverterId) (field : Option DiverterId) :
    Bool :=
  field.any fun d => excluded != some d && s.claimable i d

/-- R85: the assignment of an item, with at most one diverter excluded. -/
def State.assignment (s : State) (i : Item) (excluded : Option DiverterId) : Option DiverterId :=
  match i.destination with
  | none => none
  | some c =>
    let entry := s.activeLayout.destinations[c]
    if s.takes i excluded entry.primary then entry.primary
    else if s.takes i excluded entry.alternate then entry.alternate
    else none

/-- Section 0.6, R87: item `a` stands before item `b` in line order. -/
def State.precedes (s : State) (a b : Item) : Bool :=
  downstreamOf b.zone (s.position b) a.zone (s.position a)

/-- R87: a tag inserted at its item's line-order place. -/
def State.insertClaim (s : State) (i : Item) : List Nat → List Nat
  | [] => [i.tag]
  | t :: ts =>
    if (s.findItem t).any (s.precedes i) then i.tag :: t :: ts else t :: s.insertClaim i ts

/-- R87: the claim lists after item `i` is given the assignment `new`. -/
def State.claimLists (s : State) (i : Item) (new : Option DiverterId) : Vector (List Nat) 16 :=
  Vector.ofFn fun d =>
    if new = some d then
      if i.tag ∈ s.claims[d] then s.claims[d] else s.insertClaim i s.claims[d]
    else s.claims[d].filter fun t => t != i.tag

/-- R85, R87: an assignment written to the record and to the claim lists. -/
def State.writeClaim (i : Item) (new : Option DiverterId) (s : State) : State :=
  { s.updateItem i.tag (fun j => { j with assigned := new }) with claims := s.claimLists i new }

/-- R85, R87: the item with a tag assigned again, with `excluded` excluded. The assignment is answered
beside the state. -/
def State.reassign (tag : Nat) (excluded : Option DiverterId) (s : State) :
    State × Option DiverterId :=
  match s.findItem tag with
  | none => (s, none)
  | some i => (s.writeClaim i (s.assignment i excluded), s.assignment i excluded)

/-- R89, R112 step 2: a tag taken out of one claim list. -/
def State.leaveClaim (tag : Nat) (d : DiverterId) (s : State) : State :=
  { s with claims := s.claims.set d (s.claims[d].filter fun t => t != tag) }

/-- R91 steps 1 to 3 for one item of the list of the diverter leaving service. -/
def State.moveClaim (d : DiverterId) (s : State) (tag : Nat) : State :=
  let (t, new) := s.reassign tag (some d)
  t.post (.claimMoved tag d new)

/-- R91: the claim list of `d` re-evaluated, head first. -/
def State.reevaluate (d : DiverterId) (s : State) : State := s.claims[d].foldl (State.moveClaim d) s

end Sys2Proof.Machine
end

