-- ==== Sys2Proof/Machine/Diverters.lean ====
section
/-! DEFINITION. The diverter unit's shared operations: entering SETTLING, RETRACTING and FAULT, the
return of an item from a stroke slot, and the end of a stroke (R99 to R107, R117). -/

namespace Sys2Proof.Machine

/-- A timer of diverter `d`, started with a value of its definition (R99). -/
def State.diverterTimer (s : State) (d : DiverterId) (value : DiverterDef → Nat) : Option Timer :=
  startTimer ((s.activeLayout.diverters[d].map value).getD 0)

/-- R100: diverter `d` enters SETTLING, and goes on to IDLE with HOMED if its sensor is active. -/
def State.enterSettling (d : DiverterId) (s : State) : State :=
  if s.inputs.homes[d] then
    (s.modifyDiverter d fun _ => ⟨.idle, none, none, false⟩).post (.diverterChange d .idle .homed)
  else s.modifyDiverter d fun _ => ⟨.settling, s.diverterTimer d DiverterDef.returnTimeout, none, false⟩

/-- R105, an active edge in RETRACTING: to IDLE, with TEST_COMPLETE if the test mark is set. -/
def State.retracted (d : DiverterId) (s : State) : State :=
  let t := s.modifyDiverter d fun u => { u with state := .idle, timer := none, testMark := false }
  if s.diverters[d].testMark then t.post (.diverterChange d .idle .testComplete) else t

/-- R105: diverter `d` enters RETRACTING, and goes on to IDLE if its sensor is active already. -/
def State.enterRetracting (d : DiverterId) (s : State) : State :=
  let t := s.modifyDiverter d fun u =>
    { u with state := .retracting, timer := s.diverterTimer d DiverterDef.returnTimeout }
  if s.inputs.homes[d] then t.retracted d else t

/-- R117: item `i` taken out of its stroke slot to tracking, where its travel has brought it. The count at
which it is returned is kept for a transfer that meets the return (R188, log entry 25). -/
def State.backOnLine (s : State) (i : Item) : Item :=
  { i.markAtRisk with state := .tracked, returnedAt := some s.zones[i.zone].count }

/-- R90, R117: the item in the slot of `d` is returned to tracking, assigned again from where it stands with
`d` excluded, and MISSED_DIVERT is posted. An empty slot returns nothing. -/
def State.returnItem (d : DiverterId) (cause : MissCause) (s : State) : State :=
  match s.diverters[d].slot with
  | none => s
  | some tag =>
    let t := (s.modifyDiverter d fun u => { u with slot := none }).updateItem tag s.backOnLine
    let (u, new) := t.reassign tag (some d)
    u.post (.missedDivert tag d cause new)

/-- R107: diverter `d` enters FAULT. -/
def State.enterFault (d : DiverterId) (cause : DiverterCause) (s : State) : State :=
  let t := (s.modifyDiverter d fun u =>
    { u with state := .fault, timer := none, testMark := false }).post (.diverterChange d .fault cause)
  let u := t.returnItem d .strokeFault
  if s.diverters[d].state.inService then u.reevaluate d else u

/-- R102: the inactive edge at an EXTENDING diverter completes the stroke. -/
def State.completeStroke (d : DiverterId) (s : State) : State :=
  let t := s.modifyDiverter d fun u =>
    { u with state := .holding, timer := s.diverterTimer d DiverterDef.dwell }
  match s.diverters[d].slot with
  | none => t
  | some tag =>
    ((t.post (.diverted tag d ((s.findItem tag).bind Item.reference))).count
      fun c => { c with diverted := c.diverted + 1 }).release tag

/-- R124: the first pass of an emergency stop, over the diverters in ascending number: a stroke in
progress is withdrawn. -/
def State.withdrawStroke (s : State) (d : DiverterId) : State :=
  if s.diverters[d].state.driven then (s.readHome d).enterRetracting d else s

/-- R124: every stroke in progress is withdrawn, and then the items of the withdrawn strokes are
returned with cause ESTOP. Two passes put the DIVERTER_CHANGE reports ahead of the MISSED_DIVERT
reports, as R108 orders the reports of one happening. -/
def State.withdrawStrokes (s : State) : State :=
  let extending := allDiverters.filter fun d => s.diverters[d].state = .extending
  extending.foldl (fun t d => t.returnItem d .estop) (allDiverters.foldl State.withdrawStroke s)

end Sys2Proof.Machine
end

