-- ==== Sys2Proof/Machine/Link.lean ====
section
/-! DEFINITION. The host link and the sending side of the report queue: the transmitter's choice, link
supervision, replies, and the end of a happening (R154 to R162, R168 to R177). -/

namespace Sys2Proof.Machine

/-! ### Sending (R161, R162, R170) -/

/-- R168, R176: an entry made UNSENT. -/
def Entry.unsend (e : Entry) : Entry := { e with outstanding := false }

/-- R172, R176: every OUTSTANDING entry made UNSENT, and the resend timer stopped. -/
def ReportQueue.unsendAll (q : ReportQueue) : ReportQueue :=
  { q with entries := q.entries.map Entry.unsend, outstanding := 0, resendTimer := none }

/-- R170: the oldest UNSENT entry. -/
def ReportQueue.oldestUnsent (q : ReportQueue) : Option Entry :=
  q.entries.find? fun e => !e.outstanding

/-- R170: the oldest UNSENT entry marked OUTSTANDING. -/
def markOldest : List Entry → List Entry
  | [] => []
  | e :: es => if e.outstanding then e :: markOldest es else { e with outstanding := true } :: es

/-- R170: the sendable entry, if there is one. -/
def State.sendable (s : State) : Option Entry :=
  if s.link.up && decide (s.reports.outstanding < s.link.settings.sendWindow) then
    s.reports.oldestUnsent
  else none

/-- R170, R171: the queue as a report frame begins. -/
def ReportQueue.begin (resendTime : Nat) (q : ReportQueue) : ReportQueue :=
  { q with
    entries := markOldest q.entries
    outstanding := q.outstanding + 1
    resendTimer := if q.outstanding = 0 then startTimer resendTime else q.resendTimer }

/-- R162: the transmitter, if FREE, begins the reply in the slot, or else the sendable report. -/
def State.chooseFrame (s : State) : State :=
  match s.link.transmitter with
  | .sending _ => s
  | .free =>
    match s.link.slot with
    | some reply =>
      { s with link := { s.link with slot := none, transmitter := .sending reply.bytes } }
    | none =>
      match s.sendable with
      | some e =>
        { s with
          link := { s.link with transmitter := .sending e.frame.bytes }
          reports := s.reports.begin s.link.settings.resendTime }
      | none => s

/-- The end of a happening: the zones are settled (R11), and then the transmitter chooses (R162). -/
def State.finish (s : State) : State := s.settleZones.chooseFrame

/-- A happening taken whole (R2). A command that names no happening of the state it finds (an edge that
does not change its input, a timer that does not run), or that comes while RESETIN is active (R130),
changes nothing (log entry 4). -/
def happening (occurs : Bool) (effect : State → State) (s : State) :
    Host.Outcome State Fault Refusal :=
  if !s.resetActive && occurs then .next (effect s).finish else .next s

/-! ### Supervision (R157, R158) -/

/-- R157: the link timer started afresh, if the link timeout is not 0. -/
def LinkSettings.linkTimer (l : LinkSettings) : Option Timer :=
  if l.linkTimeout = 0 then none else startTimer l.linkTimeout

/-- R154 step 1: a valid frame brings the link UP, starts the link timer afresh and withdraws LINK. -/
def State.supervise (s : State) : State :=
  { s.modifyReasons 0 fun r => { r with link := false } with
    link := { s.link with up := true, linkTimer := s.link.settings.linkTimer } }

/-- R158, R176: the link goes DOWN. -/
def State.linkDown (s : State) : State :=
  { s.modifyReasons 0 fun r =>
      { r with link := r.link || (s.configured && s.activeLayout.line.infeedHold) } with
    link := { s.link with up := false, linkTimer := none }
    reports := s.reports.unsendAll }

/-! ### Replies (R154 to R156) -/

/-- What a request's reply carries after its kind and SEQ. The fields of STATUS and of REPORT_ACK are
read at the end of the happening (R145, R174). -/
inductive Answer where
  | fixed (body : List Byte)
  | status
  | ack (result : ResultCode) (number removed : Nat)
  deriving DecidableEq, Repr

/-- A result code and the fields that it calls for (R156). -/
def answer (r : ResultCode) (fields : List Byte) : Answer := .fixed (r.code :: fields)

/-- R145, Table 10-9: one zone's block of the STATUS reply. -/
def State.statusZone (s : State) (z : ZoneId) : List Byte :=
  [markByte (s.zoneDefined z), s.zones[z].reasons.byte, markByte s.zones[z].permit,
    byteOf s.zones[z].track.length]

/-- R145, Table 10-9: the STATUS reply. -/
def State.statusBody (s : State) : List Byte :=
  [ResultCode.ok.code, s.module.code] ++
    s.statusZone 0 ++ s.statusZone 1 ++ s.statusZone 2 ++ s.statusZone 3 ++
    [byteOf s.freeRecords, byteOf s.announcements.length, byteOf s.reports.entries.length,
      byteOf s.reports.outstanding, markByte s.link.up] ++ s.counters.bytes

/-- R174, Table 10-7: the REPORT_ACK reply. -/
def State.ackBody (s : State) (result : ResultCode) (number removed : Nat) : List Byte :=
  result.code :: bytes2 number ++ [byteOf removed] ++
    bytes2 ((s.reports.entries.head?.map Entry.number).getD 0) ++
    [byteOf s.reports.entries.length, byteOf s.reports.outstanding]

/-- The body of an answer, as the state stands at the end of the happening. -/
def State.answerBody (s : State) : Answer → List Byte
  | .fixed body => body
  | .status => s.statusBody
  | .ack result number removed => s.ackBody result number removed

/-- R156, R182: the reply marker added to a KIND. -/
def replyKind (kind : Byte) : Byte := kind ||| 0x80#8

/-- R154: the reply produced is written to the last-reply cache and placed in the reply slot. -/
def State.placeReply (kind seq : Byte) (a : Answer) (s : State) : State :=
  let reply : Frame := ⟨replyKind kind, seq, s.answerBody a⟩
  { s with link := { s.link with slot := some reply, cache := some reply } }

/-- R155: the cached reply that answers a frame with this SEQ, if the frame is a retry. -/
def State.retryReply (s : State) (seq : Byte) : Option Frame :=
  s.link.cache.filter fun reply => reply.seq = seq

/-- R153, R154 step 2: a discarded frame counted. -/
def State.countDiscard (s : State) : State :=
  s.count fun c => { c with framesDiscarded := c.framesDiscarded + 1 }

/-- R154 step 2: a valid frame that finds a reply in the slot. -/
def State.dropFrame (s : State) : State := s.supervise.countDiscard

/-- What is left of a happening after its first frame is handled: discards, and frames that find the
slot filled (R153, R154 step 2). -/
def State.takeLater (events : List ScanEvent) (s : State) : State :=
  events.foldl (fun t ev =>
    match ev with
    | .discard => t.countDiscard
    | .frame _ => t.dropFrame) s

/-- R151: "The receiver returns to HUNTING with its buffer empty". -/
def State.rest (s : State) : State :=
  { s with link := { s.link with receiver := .hunting, interByte := none } }

/-- R154: a valid frame handled, with what its happening holds after it. `op` is steps 4 to 6. The zones
are settled and the reply is composed at the end of the happening; the transmitter has not chosen
yet. -/
def State.handle (kind seq : Byte) (op : State → State × Answer) (later : List ScanEvent)
    (s : State) : State :=
  if s.link.slot.isSome then (s.dropFrame.takeLater later).settleZones
  else
    match s.retryReply seq with
    | some reply =>
      let t := (s.supervise.takeLater later).settleZones
      { t with link := { t.link with slot := some reply } }
    | none =>
      let (t, a) := op s.supervise
      (t.takeLater later).settleZones.placeReply kind seq a

/-- A request row of the command table: one valid frame of this kind completes (R151, R154). -/
def request (kind seq : Byte) (op : State → State × Answer) (s : State) :
    Host.Outcome State Fault Refusal :=
  if s.resetActive then .next s else .next (s.rest.handle kind seq op []).chooseFrame

/-! ### Shared refusals -/

/-- R154 step 5. -/
def badLengthAnswer (s : State) : State × Answer := (s, answer .badLength [])

/-- A request refused by its own rule with the result code alone. -/
def refuse (r : ResultCode) (s : State) : State × Answer := (s, answer r [])

end Sys2Proof.Machine
end

