-- ==== Sys2Proof/Machine/Controller.lean ====
section
/-! DEFINITION. The module controller: power-on, RESETIN, START, STOP, RESTART, and the validation and
commit of a layout (chapter 7). -/

namespace Sys2Proof.Machine

/-! ### Power-on and RESETIN (R129, R130) -/

/-- R129, R130: the module begins. Everything is as `State.reset` has it, but for what is read from the
inputs and the cause that MODULE_STATE carries. The queue of waiting commands is no block's state. -/
def State.begin (cause : ModuleCause) (inputs : Inputs) (s : State) : State :=
  { State.reset with
    zones := Vector.replicate 4 (ZoneUnit.blank inputs.estop)
    link := .powerOn (strappedSpeed inputs)
    reports := .first .unconfigured cause
    inputs := inputs
    pending := s.pending
    freeIndex := s.freeIndex }

/-- R129. -/
def execPowerOn (inputs : Inputs) (s : State) : Host.Outcome State Fault Refusal :=
  .next (s.begin .powerOn inputs)

/-- R130: every output is off and every block's state is void. The void is held as the blocks' empty
state, with no report (log entry 6). -/
def State.void (s : State) : State :=
  { State.reset with
    reports := .empty
    inputs := s.inputs
    resetActive := true
    pending := s.pending
    freeIndex := s.freeIndex }

/-- R130. -/
def execResetinActive (s : State) : Host.Outcome State Fault Refusal := .next s.void

/-- R130. -/
def execResetinInactive (inputs : Inputs) (s : State) : Host.Outcome State Fault Refusal :=
  if s.resetActive then .next (s.begin .resetLine inputs) else .next s

/-! ### START and STOP (R131, R132) -/

/-- R13: STOPPED claimed in every zone, or withdrawn from every defined one. -/
def State.setStopped (tracking : Bool) (s : State) : State :=
  s.mapZones fun z u =>
    { u with reasons := { u.reasons with stopped := !(tracking && s.zoneDefined z) } }

/-- R184: a reply that carries the module state. -/
def stateAnswer (r : ResultCode) (s : State) : State × Answer := (s, answer r [s.module.code])

/-- R131. -/
def opStart (body : List Byte) (s : State) : State × Answer :=
  match body with
  | [] =>
    if s.module = .standby then
      stateAnswer .ok (({ s with module := .tracking }.post
        (.moduleState .tracking .start)).setStopped true)
    else stateAnswer .wrongState s
  | _ => badLengthAnswer s

/-- R131. -/
def execStart (seq : Byte) (body : List Byte) (s : State) : Host.Outcome State Fault Refusal :=
  request 0x06#8 seq (opStart body) s

/-- R132. -/
def opStop (body : List Byte) (s : State) : State × Answer :=
  match body with
  | [] =>
    if s.module = .tracking then
      stateAnswer .ok (({ s with module := .standby }.post
        (.moduleState .standby .stop)).setStopped false)
    else stateAnswer .wrongState s
  | _ => badLengthAnswer s

/-- R132. -/
def execStop (seq : Byte) (body : List Byte) (s : State) : Host.Outcome State Fault Refusal :=
  request 0x07#8 seq (opStop body) s

/-! ### Eyes and diverters set afresh (R80, R126) -/

/-- R80: the state of an eye set from its input. -/
def State.eyeFromInput (s : State) (e : EyeId) : Eye :=
  ⟨if s.eyeBlocked e then .blocked else .clear, 0⟩

/-- R59: the span state set from the induction eye's input. -/
def State.spanFromInput (s : State) : SpanState :=
  if s.activeLayout.inductionEye.any s.eyeBlocked then .passed else .idle

/-- R126: each diverter that `which` names enters SETTLING, in ascending number. -/
def State.settleDiverters (which : DiverterId → Bool) (s : State) : State :=
  (allDiverters.filter which).foldl (fun t d => (t.readHome d).enterSettling d) s

/-! ### RESTART (R134, R135) -/

/-- R80, Table 4-9: an eye at RESTART. -/
def State.restartEye (s : State) (e : EyeId) : Eye :=
  match s.eyes[e].state with
  | .undefined | .disabled => s.eyes[e]
  | .clear | .blocked | .jammed | .jamHeld => s.eyeFromInput e

/-- R22, Table 1-4: a zone at RESTART, before its permit is set. -/
def ZoneUnit.restart (u : ZoneUnit) : ZoneUnit :=
  { u with
    reasons := { Reasons.none with stopped := true, estop := u.reasons.estop }
    track := [] }

/-- R134, Table 7-3: what a RESTART gives up. The report queue holds its MODULE_STATE report as number
1. -/
def State.giveUp (s : State) : State :=
  let state := if s.configured then ModuleState.standby else .unconfigured
  { s with
    module := state
    counters := .zero
    zones := Vector.ofFn fun z => s.zones[z].restart
    freeRecords := Config.itemRecords
    nextAnonymous := Config.firstAnonymousTag
    announcements := []
    span := s.spanFromInput
    spanCount := 0
    eyes := Vector.ofFn s.restartEye
    claims := Vector.replicate 16 []
    reports := .first state .restart
    link := { s.link with cache := none } }

/-- R126, Table 6-11: a diverter that a RESTART takes to SETTLING. -/
def State.restartsDiverter (s : State) (d : DiverterId) : Bool :=
  s.diverters[d].state != .undefined && s.diverters[d].state != .disabled

/-- R134, R135. -/
def opRestart (body : List Byte) (s : State) : State × Answer :=
  match body with
  | [] => stateAnswer .ok (s.giveUp.settleDiverters s.restartsDiverter)
  | _ => badLengthAnswer s

/-- R134, R135. -/
def execRestart (seq : Byte) (body : List Byte) (s : State) : Host.Outcome State Fault Refusal :=
  request 0x05#8 seq (opRestart body) s

/-! ### Commit validation (R142, Table 7-5) -/

/-- An offending entry: its kind and number, FFh where none is named (Table 10-7). -/
abbrev Offender := EntryKind × Byte

/-- An eye as an offender. -/
def eyeOffender (e : EyeId) : Offender := (.eye, byteOf e.val)

/-- A diverter as an offender. -/
def diverterOffender (d : DiverterId) : Offender := (.diverter, byteOf d.val)

/-- The line settings as an offender. -/
def lineOffender : Offender := (.line, 0xFF#8)

/-- Check 1: the defined zones run contiguously from zone 0. -/
def Layout.check1 (l : Layout) : Option Offender :=
  if l.zones[(0 : ZoneId)].isNone then some (.zone, 0#8)
  else if l.zones[(2 : ZoneId)].isSome && l.zones[(1 : ZoneId)].isNone then some (.zone, 2#8)
  else if l.zones[(3 : ZoneId)].isSome && l.zones[(2 : ZoneId)].isNone then some (.zone, 3#8)
  else none

/-- Check 2: every eye and diverter lies below the length of a defined zone. An undefined zone has no
position below its length. -/
def Layout.check2 (l : Layout) : Option Offender :=
  match allEyes.find? fun e => l.eyes[e].any fun d => l.zoneLength d.zone ≤ d.position with
  | some e => some (eyeOffender e)
  | none =>
    (allDiverters.find? fun d =>
      l.diverters[d].any fun v => l.zoneLength v.zone ≤ v.firePosition).map diverterOffender

/-- Check 3: exactly one eye is INDUCT, and it lies in zone 0. -/
def Layout.check3 (l : Layout) : Option Offender :=
  match allEyes.filter fun e => l.eyes[e].any fun d => d.role = .induct with
  | [] => some lineOffender
  | [e] => if l.eyes[e].any fun d => d.zone = 0 then none else some (eyeOffender e)
  | _ :: e :: _ => some (eyeOffender e)

/-- Check 4: the minimum item length is less than the maximum. -/
def Layout.check4 (l : Layout) : Option Offender :=
  if l.line.minLength < l.line.maxLength then none else some lineOffender

/-- Checks 5 and 6: the induction eye's position plus maximum item length + 1. -/
def Layout.inductionBound (l : Layout) : Nat :=
  ((l.inductionEye.bind fun e => l.eyes[e]).map EyeDef.position).getD 0 + l.line.maxLength + 1

/-- Check 5: that bound lies below zone 0's length. -/
def Layout.check5 (l : Layout) : Option Offender :=
  if l.inductionBound < l.zoneLength 0 then none else l.inductionEye.map eyeOffender

/-- Check 6 fails for a diverter. -/
def Layout.triggerFails (l : Layout) (d : DiverterDef) : Bool :=
  decide (d.triggerPoint < 0) ||
    (decide (d.zone = 0) && decide (d.triggerPoint ≤ (l.inductionBound : Int)))

/-- Check 6 fails for an eye. -/
def Layout.windowFails (l : Layout) (d : EyeDef) : Bool :=
  decide (d.role = .confirm) && decide (d.zone = 0) &&
    decide ((d.position : Int) - d.tolerance ≤ l.inductionBound)

/-- Check 6: the points of zone 0 are clear of an item at its induction. -/
def Layout.check6 (l : Layout) : Option Offender :=
  match allDiverters.find? fun d => l.diverters[d].any l.triggerFails with
  | some d => some (diverterOffender d)
  | none => (allEyes.find? fun e => l.eyes[e].any l.windowFails).map eyeOffender

/-- Check 7: two eyes have windows with a position in common. -/
def EyeDef.overlaps (a b : EyeDef) : Bool :=
  decide (a.zone = b.zone) &&
    decide ((a.position - b.position) + (b.position - a.position) ≤ a.tolerance + b.tolerance)

/-- Check 7: no two eyes of one zone have overlapping windows. -/
def Layout.check7 (l : Layout) : Option Offender :=
  (allEyes.find? fun e => allEyes.any fun b =>
    decide (b < e) && l.eyes[e].any fun d => l.eyes[b].any d.overlaps).map eyeOffender

/-- Check 8 fails for a destination entry. -/
def Layout.destinationFails (l : Layout) (c : Destination) : Bool :=
  c.primary.any (fun d => l.diverters[d].isNone) || c.alternate.any (fun d => l.diverters[d].isNone) ||
    (c.primary.isSome && c.primary == c.alternate)

/-- Check 8: destination entries name defined diverters that differ. -/
def Layout.check8 (l : Layout) : Option Offender :=
  ((List.finRange 64).find? fun c => l.destinationFails l.destinations[c]).map
    fun c => (.destination, byteOf c.val)

/-- Check 9: the reject destination's entry names a diverter. -/
def Layout.check9 (l : Layout) : Option Offender :=
  l.line.rejectDestination.bind fun c =>
    if l.destinations[c].primary.isNone && l.destinations[c].alternate.isNone then
      some (.destination, byteOf c.val)
    else none

/-- R142: the checks, in the order taken. -/
def Layout.checks (l : Layout) : List (Option Offender) :=
  [l.check1, l.check2, l.check3, l.check4, l.check5, l.check6, l.check7, l.check8, l.check9]

/-- The first check of a list that fails, numbered from `n`. -/
def firstFailing : Nat → List (Option Offender) → Option (Nat × Offender)
  | _, [] => none
  | n, some o :: _ => some (n, o)
  | n, none :: rest => firstFailing (n + 1) rest

/-- R142: the number of the first check that fails, and its offending entry. -/
def Layout.validate (l : Layout) : Option (Nat × Offender) := firstFailing 1 l.checks

/-! ### COMMIT_LAYOUT (R141, R143) -/

/-- R22, Table 1-4: a zone at a commit, before DOWNSTREAM is derived. -/
def ZoneUnit.commit (defined : Bool) (u : ZoneUnit) : ZoneUnit :=
  { u with
    reasons := { Reasons.none with
      stopped := true, estop := u.reasons.estop, host := u.reasons.host && defined } }

/-- R143 steps 1 to 3, but for the diverters' SETTLING. -/
def State.takeLayout (s : State) : State :=
  let t := { s with activeLayout := s.pendingLayout }
  State.evaluatePoolLow
    { t with
      module := .standby
      zones := Vector.ofFn fun z => s.zones[z].commit (t.zoneDefined z)
      span := t.spanFromInput
      spanCount := 0
      eyes := Vector.ofFn fun e =>
        if t.activeLayout.eyes[e].isSome then t.eyeFromInput e else Eye.blank
      diverters := Vector.ofFn fun d =>
        if t.activeLayout.diverters[d].isSome then s.diverters[d] else Diverter.blank }

/-- R143: an accepted commit. -/
def State.commit (s : State) : State :=
  (s.takeLayout.post (.moduleState .standby .commit)).settleDiverters fun d =>
    s.pendingLayout.diverters[d].isSome

/-- R141 to R143. -/
def opCommitLayout (body : List Byte) (s : State) : State × Answer :=
  match body with
  | [] =>
    if s.module = .tracking then stateAnswer .wrongState s
    else if !s.lineItems.isEmpty || !s.announcements.isEmpty then
      (s, answer .itemsPresent [byteOf s.lineItems.length, byteOf s.announcements.length])
    else
      match s.pendingLayout.validate with
      | some (n, kind, number) => (s, answer .layoutInvalid [byteOf n, kind.code, number])
      | none => stateAnswer .ok s.commit
  | _ => badLengthAnswer s

/-- R141 to R143. -/
def execCommitLayout (seq : Byte) (body : List Byte) (s : State) :
    Host.Outcome State Fault Refusal :=
  request 0x19#8 seq (opCommitLayout body) s

end Sys2Proof.Machine
end

