-- ==== Sys2Proof/Machine/Induction.lean ====
section
/-! DEFINITION. The induction unit: the span at the induction eye and the induction of an item
(R47 to R58). -/

namespace Sys2Proof.Machine

/-- R55: the measured length differs from the expected length by more than the tolerance. -/
def lengthMismatch (expected : Option Nat) (length tolerance : Nat) : Bool :=
  expected.any fun x => tolerance < (length - x) + (x - length)

/-- R53, R55: the record of an announced item, before it is placed. -/
def announcedItem (line : LineSettings) (a : Announcement) (length : Nat) (overlength : Bool)
    (nextEye : Option EyeId) : Item :=
  let mismatch := lengthMismatch a.expected length line.lengthTolerance
  { tag := a.tag, origin := .announced, reference := a.reference
    destination := if overlength || mismatch then line.rejectDestination else some a.destination
    requested := some a.destination
    zone := 0, base := 0, length := length, expected := a.expected, state := .tracked
    assigned := none, nextEye := nextEye, missRun := 0, returnedAt := none
    flags := { Flags.none with overlength := overlength, lengthMismatch := mismatch } }

/-- R53, R55: the record of an anonymous item, before it is placed. -/
def anonymousItem (line : LineSettings) (tag length : Nat) (overlength : Bool)
    (nextEye : Option EyeId) : Item :=
  { tag := tag, origin := .anonymous, reference := none
    destination := line.rejectDestination, requested := none
    zone := 0, base := 0, length := length, expected := none, state := .tracked
    assigned := none, nextEye := nextEye, missRun := 0, returnedAt := none
    flags := { Flags.none with overlength := overlength } }

/-- R24, R37: one free record taken. -/
def State.takeRecord (s : State) : State :=
  State.evaluatePoolLow { s with freeRecords := s.freeRecords - 1 }

/-- R53: the oldest announcement consumed, or an anonymous tag given. The new record is answered beside
the state. -/
def State.pair (length : Nat) (overlength : Bool) (nextEye : Option EyeId) (s : State) :
    State × Item :=
  match s.announcements with
  | a :: rest =>
    ({ s with announcements := rest },
      announcedItem s.activeLayout.line a length overlength nextEye)
  | [] =>
    ({ s with nextAnonymous := anonymousAfter s.allocateTag },
      anonymousItem s.activeLayout.line s.allocateTag length overlength nextEye)

/-- R31, R54: a record put at the tail of zone `z` at position `p`. -/
def State.appendItem (z : ZoneId) (p : Nat) (i : Item) (s : State) : State :=
  s.modifyZone z fun u => { u with track := u.track ++ [{ i with zone := z, base := s.baseFor z p }] }

/-- R56: the closing steps of an induction, for the item just placed. -/
def State.closeInduction (i : Item) (s : State) : State :=
  let (t, assigned) := s.reassign i.tag none
  (t.post (.inducted i.tag i.origin i.destination assigned i.length i.flags i.reference)).count
    fun c => { c with inducted := c.inducted + 1 }

/-- R32 at an induction: the record cannot be placed. It goes back to the pool with LOST. -/
def State.losePlacement (tag : Nat) (z : ZoneId) (s : State) : State :=
  s.lose tag z none .transfer

/-- R52 to R56: an induction of an item of a measured length. No point of zone 0 lies at or below the
position given (R54), so the item reaches none in the happening of its induction. -/
def State.induct (length : Nat) (overlength : Bool) (s : State) : State :=
  match s.activeLayout.inductionEye with
  | none => s
  | some e =>
    if s.freeRecords = 0 then s.post (.untracked e)
    else
      let (t, i) := s.takeRecord.pair length overlength (s.activeLayout.eyeFollowing e)
      let asked := ((s.activeLayout.eyes[e].map EyeDef.position).getD 0) + length
      match clampAtTail (t.tailPosition 0) asked with
      | none => t.losePlacement i.tag 0
      | some (p, clamped) =>
        let j := if clamped then i.markAtRisk else i
        (t.appendItem 0 p j).closeInduction j

/-- R48: a blocked edge at the induction eye. -/
def State.beginSpan (s : State) : State :=
  if s.span = .idle then { s with span := .measuring, spanCount := 0 } else s

/-- R50: an unblocked edge at the induction eye. -/
def State.endSpan (s : State) : State :=
  let t := { s with span := .idle, spanCount := 0 }
  if s.span = .measuring then
    if s.spanCount < s.activeLayout.line.minLength then
      t.count fun c => { c with noiseDiscards := c.noiseDiscards + 1 }
    else t.induct s.spanCount false
  else t

/-- R49: a pulse of zone 0 counted into the span. -/
def State.countSpan (s : State) : State :=
  if s.span = .measuring then { s with spanCount := s.spanCount + 1 } else s

/-- R49: the span has reached the maximum item length + 1. -/
def State.spanOverlength (s : State) : Bool :=
  s.span = .measuring && s.spanCount = s.activeLayout.line.maxLength + 1

/-- R49: the overlength induction, after which the span state is PASSED. -/
def State.inductOverlength (s : State) : State :=
  { s with span := .passed, spanCount := 0 }.induct (s.activeLayout.line.maxLength + 1) true

end Sys2Proof.Machine
end

