-- ==== Sys2Proof/Machine/Sensors.lean ====
section
/-! DEFINITION. The sensor unit's dealings with items: candidates, resynchronisation, misses and
losses (R68 to R74). -/

namespace Sys2Proof.Machine

/-- R61: an item's next eye advanced past eye `e`. -/
def State.advancePast (e : EyeId) (s : State) (i : Item) : Item :=
  { i with nextEye := s.activeLayout.eyeFollowing e }

/-- R72, R73: the window end of eye `e`, taken for the item with a tag. -/
def State.missEye (tag : Nat) (e : EyeId) (s : State) : State :=
  match s.findItem tag with
  | none => s
  | some i =>
    if i.state = .diverting || s.eyes[e].state = .disabled then
      s.updateItem tag (s.advancePast e)
    else
      let t := s.updateItem tag fun j => { s.advancePast e j with missRun := j.missRun + 1 }
      if i.flags.atRisk then t.lose tag i.zone (some e) .shadow
      else if s.activeLayout.line.missLimit ≤ i.missRun + 1 then t.lose tag i.zone (some e) .misses
      else t

/-- R68: item `i` is a candidate at eye `e` with definition `d`. -/
def State.isCandidate (s : State) (e : EyeId) (d : EyeDef) (i : Item) : Bool :=
  i.state = .tracked && i.nextEye = some e && d.inWindow (s.position i)

/-- R68: the candidate at the highest position, which is the one nearest the head of the list. -/
def State.candidate (s : State) (e : EyeId) (d : EyeDef) : Option Item :=
  s.zones[d.zone].track.find? (s.isCandidate e d)

/-- R33, R69 step 1: the position that the pool gives item `i` at eye position `e`. -/
def State.resyncPosition (s : State) (i : Item) (e : Nat) : Nat :=
  boundBetween ((ahead i.tag s.zones[i.zone].track).map s.position)
    ((behind i.tag s.zones[i.zone].track).map s.position) e

/-- R69 steps 1 to 4: item `i` matched at eye `e` and placed at position `p`. -/
def State.matchItem (e : EyeId) (i : Item) (p : Nat) (s : State) : State :=
  s.updateItem i.tag fun j =>
    { (s.advancePast e j).clearAtRisk with
      base := s.baseFor i.zone p, missRun := 0, returnedAt := none }

/-- R70: a phantom. -/
def State.phantom (e : EyeId) (z : ZoneId) (s : State) : State :=
  (s.post (.phantom e z)).count fun c => { c with phantom := c.phantom + 1 }

end Sys2Proof.Machine
end

