-- ==== Sys2Proof/Machine/Crossings.lean ====
section
/-! DEFINITION. The points an item reaches: the trigger-point decision, the window end, the end of a
zone, and the order in which crossings that fall together are taken (R6 to R10, R98, R110 to R115,
R186 to R188). -/

namespace Sys2Proof.Machine

/-! ### The trigger point (section 6.3) -/

/-- R111: the gap behind item `i`, if it has a successor in its zone. -/
def State.gapBehind (s : State) (i : Item) : Option Int :=
  (behind i.tag s.zones[i.zone].track).map fun j =>
    (s.position i : Int) - i.length - s.position j

/-- R111: the gap is less than the minimum gap of diverter `d`. -/
def State.tightGap (s : State) (d : DiverterId) (i : Item) : Bool :=
  (s.gapBehind i).any fun gap =>
    s.activeLayout.diverters[d].any fun def_ => gap < (def_.minimumGap : Int)

/-- R110: the first check of Table 6-6 that holds, or none for a fire. -/
def State.missCause (s : State) (d : DiverterId) (i : Item) : Option MissCause :=
  if s.module ≠ .tracking then some .notTracking
  else if s.inputs.estop then some .estop
  else if s.diverters[d].state ≠ .idle then some .busy
  else if s.tightGap d i then some .tightGap
  else none

/-- R113: item `i` misses at diverter `d`. -/
def State.missDivert (d : DiverterId) (i : Item) (cause : MissCause) (s : State) : State :=
  let t := if cause = .busy then s.updateItem i.tag Item.markAtRisk else s
  let (u, new) := (t.leaveClaim i.tag d).reassign i.tag (some d)
  u.post (.missedDivert i.tag d cause new)

/-- R112 step 3: the predecessor that a fire marks AT_RISK, if any. -/
def State.struckNeighbour (s : State) (d : DiverterId) (i : Item) : Option Item :=
  (ahead i.tag s.zones[i.zone].track).filter fun p =>
    s.activeLayout.diverters[d].any fun def_ =>
      decide ((s.position p : Int) - p.length < (def_.firePosition : Int))

/-- R112: diverter `d` fires for item `i`. -/
def State.fire (d : DiverterId) (i : Item) (s : State) : State :=
  let t := s.modifyDiverter d fun u =>
    { u with state := .extending, timer := s.diverterTimer d DiverterDef.strokeTimeout
             slot := some i.tag }
  let u := (t.updateItem i.tag fun j => { j with state := .diverting }).leaveClaim i.tag d
  match s.struckNeighbour d i with
  | none => u
  | some p => u.updateItem p.tag Item.markAtRisk

/-- R110: the trigger-point decision for item `i`, the head of `d`'s claim list. -/
def State.decideFire (d : DiverterId) (i : Item) (s : State) : State :=
  match s.missCause d i with
  | some cause => s.missDivert d i cause
  | none => s.fire d i

/-- Table 6-2, first row: item `i` meets the decision of diverter `d`. -/
def State.meetsDecision (s : State) (d : DiverterId) (i : Item) : Bool :=
  i.state = .tracked && s.claims[d].head? = some i.tag

/-- Table 6-2, second row; R114: item `i` is shadowed by diverter `d`. -/
def State.isShadowed (s : State) (d : DiverterId) (i : Item) : Bool :=
  i.state = .tracked && !s.claims[d].contains i.tag && s.diverters[d].state.driven

/-- R98, Table 6-2: an item reaches the trigger point of diverter `d`. -/
def State.reachTrigger (tag : Nat) (d : DiverterId) (s : State) : State :=
  match s.findItem tag with
  | none => s
  | some i =>
    if s.meetsDecision d i then s.decideFire d i
    else if s.isShadowed d i then s.updateItem tag Item.markAtRisk
    else s

/-! ### Points to reach (R6, R7) -/

/-- A point that an item reaches, or the span's reaching the overlength bound (R49). -/
inductive Point where
  | zoneEnd
  | windowEnd (e : EyeId)
  | trigger (d : DiverterId)
  | overlength
  deriving DecidableEq, Repr

/-- A crossing that a happening owes: an item, the position at which it reaches the point, and the
point. The overlength crossing belongs to no item and carries tag 0, which no item holds. -/
structure Crossing where
  tag      : Nat
  position : Nat
  point    : Point
  deriving DecidableEq, Repr

/-- The crossings at trigger points of zone `z` above position `low` and at or below `high` (R7). -/
def Layout.triggersIn (l : Layout) (tag : Nat) (z : ZoneId) (low high : Int) : List Crossing :=
  allDiverters.filterMap fun d =>
    l.diverters[d].bind fun def_ =>
      if def_.zone = z ∧ low < def_.triggerPoint ∧ def_.triggerPoint ≤ high then
        some ⟨tag, def_.triggerPoint.toNat, .trigger d⟩
      else none

/-- The crossings at miss points of zone `z` above position `low` and at or below `high`. A miss point
at or beyond the zone's length is dealt with at the zone's end (R74, R186). -/
def Layout.windowEndsIn (l : Layout) (tag : Nat) (z : ZoneId) (low high : Int) : List Crossing :=
  allEyes.filterMap fun e =>
    l.eyes[e].bind fun def_ =>
      if def_.zone = z ∧ low < def_.missPoint ∧ (def_.missPoint : Int) ≤ high ∧
          def_.missPoint < l.zoneLength z then
        some ⟨tag, def_.missPoint, .windowEnd e⟩
      else none

/-- R7: every point of zone `z` above position `low` and at or below `high`. -/
def Layout.pointsIn (l : Layout) (tag : Nat) (z : ZoneId) (low high : Int) : List Crossing :=
  l.triggersIn tag z low high ++ l.windowEndsIn tag z low high

/-! ### Leaving a zone (R8 to R10, R74) -/

/-- R74: the window ends that an item leaving zone `z` still owes, in eye order. The first argument
bounds the eyes; a layout has twelve. -/
def State.takeWindowEnds (tag : Nat) (z : ZoneId) : Nat → State → State
  | 0, s => s
  | n + 1, s =>
    match (s.findItem tag).bind Item.nextEye with
    | none => s
    | some e =>
      if s.activeLayout.eyes[e].any fun d => d.zone = z then
        State.takeWindowEnds tag z n (s.missEye tag e)
      else s

/-- R9: item `i` exits off the last zone. -/
def State.exitItem (i : Item) (s : State) : State :=
  ((s.post (.exited i.tag i.exitFlags i.reference)).count
    fun c => { c with exited := c.exited + 1 }).release i.tag

/-- R188: item `i`, at its zone's length, was returned from a failed stroke since the pulse before. -/
def State.justReturned (s : State) (i : Item) : Bool :=
  i.returnedAt.any fun count => s.zones[i.zone].count = count + 1

/-- R8, R31: the place that a transfer from zone `z` gives, with whether it is clamped, if the line goes on
there and its tail leaves room. -/
def State.transferPlace (s : State) (z : ZoneId) : Option (ZoneId × Nat × Bool) :=
  (s.activeLayout.zoneAfter z).bind fun y =>
    (clampAtTail (s.tailPosition y) (s.activeLayout.entryOffset y)).map fun place => (y, place)

/-- R72, R74: the next eye of an item that passes silently the eyes of zone `z`, and those of zone `y`
whose miss points lie at or below position `p`. The first argument bounds the eyes; a layout has twelve. -/
def Layout.eyePast (l : Layout) (z y : ZoneId) (p : Nat) : Nat → Option EyeId → Option EyeId
  | _, none => none
  | 0, some e => some e
  | n + 1, some e =>
    if l.eyes[e].any fun d => d.zone = z || (d.zone = y && decide (d.missPoint ≤ p)) then
      l.eyePast z y p n (l.eyeFollowing e)
    else some e

/-- R188: "A transfer of a DIVERTING item … gives the same result in either order with every stroke
happening". An item just returned passes, as it is transferred to position `p` of zone `y`, the windows that
it would have passed while DIVERTING, and counts as returned where it is placed (log entry 25). -/
def State.carriedOn (s : State) (i : Item) (y : ZoneId) (p : Nat) : Item :=
  if s.justReturned i then
    { i with
      nextEye := s.activeLayout.eyePast i.zone y p 12 i.nextEye
      returnedAt := some s.zones[y].count }
  else { i with returnedAt := none }

/-- R8, R31, R32: item `i` is transferred to zone `y`. The points it reaches there are answered beside
the state. -/
def State.transferItem (i : Item) (y : ZoneId) (s : State) : State × List Crossing :=
  match clampAtTail (s.tailPosition y) (s.activeLayout.entryOffset y) with
  | none => (s.lose i.tag y none .transfer, [])
  | some (p, clamped) =>
    let j := s.carriedOn i y p
    ((s.removeItem i.tag).appendItem y p (if clamped then j.markAtRisk else j),
      s.activeLayout.pointsIn i.tag y (-1) p)

/-- R188: the transfer of item `i` from zone `z` meets the return of the item. -/
def State.transferMeetsReturn (s : State) (z : ZoneId) (i : Item) : Bool :=
  s.justReturned i && (s.transferPlace z).isSome

/-- R8 to R10: the item with a tag, at the head of zone `z`, reaches the zone's length. Its open windows
end, but for the item whose transfer meets its return (R188). -/
def State.leaveZone (tag : Nat) (z : ZoneId) (s : State) : State × List Crossing :=
  let t := if (s.findItem tag).any (s.transferMeetsReturn z) then s else s.takeWindowEnds tag z 12
  match t.findItem tag with
  | none => (t, [])
  | some i =>
    match t.activeLayout.zoneAfter z with
    | some y => t.transferItem i y
    | none => (t.exitItem i, [])

/-! ### Crossings that fall together -/

/-- One crossing taken whole. The points that it leads an item past are answered beside the state. -/
def State.cross (c : Crossing) (s : State) : State × List Crossing :=
  match c.point with
  | .zoneEnd =>
    match s.findItem c.tag with
    | some i => s.leaveZone c.tag i.zone
    | none => (s, [])
  | .windowEnd e => (s.missEye c.tag e, [])
  | .trigger d => (s.reachTrigger c.tag d, [])
  | .overlength => (s.inductOverlength, [])

/-- A crossing that brings anything about as the state stands. A window end counts only for the eye that
is the item's next eye (R72), and a trigger point only as Table 6-2 says. -/
def State.actsAt (s : State) (c : Crossing) : Bool :=
  match c.point with
  | .zoneEnd | .overlength => true
  | .windowEnd e => (s.findItem c.tag).any fun i => i.nextEye = some e
  | .trigger d => (s.findItem c.tag).any fun i => s.meetsDecision d i || s.isShadowed d i

/-- R7: an item's points are taken lowest first. -/
def isLowest (owed : List Crossing) (c : Crossing) : Bool :=
  owed.all fun b => b.tag != c.tag || decide (c.position ≤ b.position)

/-- R6: of crossings that may be taken next, one is; with two or more, a free choice says which. -/
def State.chooseCrossing (s : State) : List Crossing → Option Crossing × State
  | [] => (none, s)
  | [c] => (some c, s)
  | c :: b :: cs =>
    ((c :: b :: cs)[Config.crossingChoice s.freeIndex % (cs.length + 2)]?,
      { s with freeIndex := s.freeIndex + 1 })

/-- R6, R7: the crossings that a happening owes, taken one at a time until none is owed. A crossing that
releases its item ends the item's part in the happening (R7, R35). The first argument bounds the
crossings. -/
def State.takeCrossings : Nat → List Crossing → State → State
  | 0, _, s => s
  | _ + 1, [], s => s
  | n + 1, c :: cs, s =>
    let ready := (c :: cs).filter (isLowest (c :: cs))
    match s.chooseCrossing (ready.filter s.actsAt) with
    | (none, t) => t.takeCrossings n ((c :: cs).filter fun b => !ready.contains b)
    | (some b, t) =>
      let (u, more) := t.cross b
      let rest := (c :: cs).filter fun x => x != b
      if (u.findItem b.tag).isSome then u.takeCrossings n (rest ++ more)
      else u.takeCrossings n (rest.filter fun x => x.tag != b.tag)

/-- The crossings owed, run to their end. One zone end at most is among them, and a transfer adds at
most a trigger point for each diverter and a window end for each eye. -/
def State.takeAll (owed : List Crossing) (s : State) : State :=
  s.takeCrossings (owed.length + 28) owed

/-- R6: the crossing of the zone's length, owed by the head of zone `z` alone. -/
def State.zoneEndOwed (s : State) (z : ZoneId) : List Crossing :=
  match s.zones[z].track.head? with
  | some i =>
    if s.position i = s.activeLayout.zoneLength z then [⟨i.tag, s.position i, .zoneEnd⟩] else []
  | none => []

/-- R6: the trigger points and window ends that the items of zone `z` stand at after a pulse. -/
def State.pointsOwed (s : State) (z : ZoneId) : List Crossing :=
  s.zones[z].track.flatMap fun i =>
    s.activeLayout.pointsIn i.tag z ((s.position i : Int) - 1) (s.position i)

/-- R49: the overlength induction that a pulse of zone 0 owes. -/
def State.overlengthOwed (s : State) (z : ZoneId) : List Crossing :=
  if z = 0 ∧ s.spanOverlength then [⟨0, 0, .overlength⟩] else []

/-- R6: everything that a pulse of zone `z`, already counted, brings about. -/
def State.pulseOwed (s : State) (z : ZoneId) : List Crossing :=
  s.zoneEndOwed z ++ s.pointsOwed z ++ s.overlengthOwed z

/-! ### A blocked edge at a confirmation eye (R68 to R70) -/

/-- R69 step 5: the points that a resynchronisation moves item `i` past. One upstream moves it past
none. -/
def State.resyncPoints (s : State) (i : Item) (p : Nat) : List Crossing :=
  s.activeLayout.pointsIn i.tag i.zone (s.position i) p

/-- R68 to R70: the blocked edge at eye `e` with definition `d` is matched, or is a phantom. -/
def State.matchEdge (e : EyeId) (d : EyeDef) (s : State) : State :=
  match s.candidate e d with
  | none => s.phantom e d.zone
  | some i =>
    let p := s.resyncPosition i d.position
    (s.matchItem e i p).takeAll (s.resyncPoints i p)

end Sys2Proof.Machine
end

