-- ==== Sys2Proof/Machine/FieldEvents.lean ====
section
/-! DEFINITION. The happenings at the field inputs: encoder pulses, the ESTOP input, eye edges and home
edges (R6, R14, R63, R100 to R105, R124). -/

namespace Sys2Proof.Machine

/-! ### The encoder pulse (R4, R6) -/

/-- R4: the count of zone `z` raised. -/
def State.raiseCount (z : ZoneId) (s : State) : State :=
  s.modifyZone z fun u => { u with count := u.count + 1 }

/-- R6: a pulse of zone `z`. "A pulse at an undefined zone, or any pulse in UNCONFIGURED, advances the
count and has no further effect." -/
def State.pulse (z : ZoneId) (s : State) : State :=
  let t := s.raiseCount z
  if s.configured && s.zoneDefined z then
    let u := if z = 0 then t.countSpan else t
    u.takeAll (u.pulseOwed z)
  else t

/-- R6. -/
def execEncoderPulse (z : ZoneId) (s : State) : Host.Outcome State Fault Refusal :=
  happening true (State.pulse z) s

/-! ### The ESTOP input -/

/-- R14: the ESTOP input's change, as the zone unit takes it. -/
def State.estopAtZones (active : Bool) (s : State) : State :=
  { s.mapZones (fun _ u => { u with reasons := { u.reasons with estop := active } }) with
    inputs := { s.inputs with estop := active } }

/-- R14. -/
def execEstopChangeAtZones (active : Bool) (s : State) : Host.Outcome State Fault Refusal :=
  happening true (State.estopAtZones active) s

/-- R124: the ESTOP input's change, as the diverter unit takes it. -/
def State.estopAtDiverters (active : Bool) (s : State) : State :=
  let t := { s with inputs := { s.inputs with estop := active } }
  if active then t.withdrawStrokes else t

/-- R124. -/
def execEstopChangeAtDiverters (active : Bool) (s : State) : Host.Outcome State Fault Refusal :=
  happening true (State.estopAtDiverters active) s

/-! ### Eye edges (R62, R63) -/

/-- R48, R63, R68: what a blocked edge means for items: a span at the induction eye, matching at a
CONFIRM eye. -/
def State.blockedAtItems (e : EyeId) (d : EyeDef) (s : State) : State :=
  match d.role with
  | .induct => s.beginSpan
  | .confirm => s.matchEdge e d

/-- R63, Table 4-3, the blocked edge. -/
def State.blockedEdge (e : EyeId) (s : State) : State :=
  let t := s.setEyeBlocked e true
  match s.activeLayout.eyes[e], s.eyes[e].state with
  | some d, .clear => (t.setEye e .blocked).blockedAtItems e d
  | some d, .jamHeld => (t.setEye e .jammed).blockedAtItems e d
  | some d, .disabled => if d.role = .induct then t.beginSpan else t
  | _, _ => t

/-- R63. -/
def execBlockedEdge (e : EyeId) (s : State) : Host.Outcome State Fault Refusal :=
  happening (!s.eyeBlocked e) (State.blockedEdge e) s

/-- R50, R63: what an unblocked edge means for items. -/
def State.unblockedAtItems (d : EyeDef) (s : State) : State :=
  match d.role with
  | .induct => s.endSpan
  | .confirm => s

/-- R63, Table 4-3, the unblocked edge. -/
def State.unblockedEdge (e : EyeId) (s : State) : State :=
  let t := s.setEyeBlocked e false
  match s.activeLayout.eyes[e], s.eyes[e].state with
  | some d, .blocked => (t.setEye e .clear).unblockedAtItems d
  | some d, .jammed => (t.setEye e .jamHeld).unblockedAtItems d
  | some d, .disabled => t.unblockedAtItems d
  | _, _ => t

/-- R63. -/
def execUnblockedEdge (e : EyeId) (s : State) : Host.Outcome State Fault Refusal :=
  happening (s.eyeBlocked e) (State.unblockedEdge e) s

/-! ### Home edges -/

/-- R100, R104, R105: an active edge at HOME`d`. -/
def State.homeActive (d : DiverterId) (s : State) : State :=
  let t := s.setHome d true
  match s.diverters[d].state with
  | .settling =>
    (t.modifyDiverter d fun u => { u with state := .idle, timer := none }).post
      (.diverterChange d .idle .homed)
  | .retracting => t.retracted d
  | .holding => t.enterFault d .shortStroke
  | .undefined | .idle | .extending | .fault | .disabled => t

/-- R100, R104, R105. -/
def execHomeActiveEdge (d : DiverterId) (s : State) : Host.Outcome State Fault Refusal :=
  happening (!s.inputs.homes[d]) (State.homeActive d) s

/-- R101, R102: an inactive edge at HOME`d`. -/
def State.homeInactive (d : DiverterId) (s : State) : State :=
  let t := s.setHome d false
  match s.diverters[d].state with
  | .idle => t.enterFault d .homeLost
  | .extending => t.completeStroke d
  | .undefined | .settling | .holding | .retracting | .fault | .disabled => t

/-- R101, R102. -/
def execHomeInactiveEdge (d : DiverterId) (s : State) : Host.Outcome State Fault Refusal :=
  happening s.inputs.homes[d] (State.homeInactive d) s

end Sys2Proof.Machine
end

