-- ==== Sys2Proof/Machine/ItemRequests.lean ====
section
/-! DEFINITION. ANNOUNCE, WITHDRAW, QUERY_ITEM, LIST_ZONE, PURGE and REROUTE (R38 to R46, R93). -/

namespace Sys2Proof.Machine

/-- R19, R39: a zone byte that names a zone defined in the active layout. -/
def State.namedZone (s : State) (b : Byte) : Option ZoneId :=
  (numberBelow 4 b.toNat).filter s.zoneDefined

/-! ### ANNOUNCE (R43, R183) -/

/-- An ANNOUNCE body, its fields as sent. -/
structure AnnounceFields where
  tag         : Nat
  destination : Byte
  expected    : Option Nat
  reference   : Option (BitVec 16)
  deriving DecidableEq, Repr

/-- R183: the fields of an ANNOUNCE body; none where the body has no allowed shape. -/
def announceFields (body : List Byte) : Option AnnounceFields :=
  match body with
  | [t0, t1, d, p] => if p = 0#8 then some ⟨le16 t0 t1, d, none, none⟩ else none
  | [t0, t1, d, p, a0, a1] =>
    if p = 1#8 then some ⟨le16 t0 t1, d, none, some (a1 ++ a0)⟩
    else if p = 2#8 then some ⟨le16 t0 t1, d, some (le16 a0 a1), none⟩
    else none
  | [t0, t1, d, p, a0, a1, b0, b1] =>
    if p = 3#8 then some ⟨le16 t0 t1, d, some (le16 a0 a1), some (b1 ++ b0)⟩ else none
  | _ => none

/-- R28: the tag is held by an announcement or by a record in use. -/
def State.tagHeld (s : State) (tag : Nat) : Bool :=
  (s.announcements.any fun a => a.tag = tag) || (s.findItem tag).isSome

/-- R43, Table 3-2: the announcement that passes the first three checks. -/
def announcementOf (f : AnnounceFields) : Option Announcement :=
  if 1 ≤ f.tag ∧ f.tag ≤ Config.lastHostTag then
    match numberBelow 64 f.destination.toNat with
    | some c =>
      if f.expected.all fun x => decide (1 ≤ x ∧ x ≤ 4095) then
        some ⟨f.tag, c, f.expected, f.reference⟩
      else none
    | none => none
  else none

/-- R43. -/
def opAnnounce (body : List Byte) (s : State) : State × Answer :=
  match announceFields body with
  | none => badLengthAnswer s
  | some f =>
    if s.module = .unconfigured then refuse .wrongState s
    else
      match announcementOf f with
      | none => refuse .badField s
      | some a =>
        if s.tagHeld a.tag then refuse .duplicateTag s
        else if Config.announceCapacity ≤ s.announcements.length then refuse .queueFull s
        else
          ({ s with announcements := s.announcements ++ [a] },
            answer .ok [byteOf (s.announcements.length + 1)])

/-- R43. -/
def execAnnounce (seq : Byte) (body : List Byte) (s : State) : Host.Outcome State Fault Refusal :=
  request 0x20#8 seq (opAnnounce body) s

/-! ### WITHDRAW (R45) -/

/-- R45. -/
def opWithdraw (body : List Byte) (s : State) : State × Answer :=
  match body with
  | [t0, t1] =>
    match s.announcements.find? fun a => a.tag = le16 t0 t1 with
    | some a =>
      let rest := s.announcements.filter fun b => b.tag != a.tag
      ({ s with announcements := rest }, answer .ok (a.bytes ++ [byteOf rest.length]))
    | none => refuse .unknownTag s
  | _ => badLengthAnswer s

/-- R45. -/
def execWithdraw (seq : Byte) (body : List Byte) (s : State) : Host.Outcome State Fault Refusal :=
  request 0x21#8 seq (opWithdraw body) s

/-! ### QUERY_ITEM (R38) -/

/-- R38: an announcement's place in the queue, counted from 1. -/
def placeOf (tag : Nat) (q : List Announcement) : Nat :=
  (q.findIdx fun a => a.tag = tag) + 1

/-- R38. -/
def opQueryItem (body : List Byte) (s : State) : State × Answer :=
  match body with
  | [t0, t1] =>
    match s.findItem (le16 t0 t1) with
    | some i => (s, answer .ok (0#8 :: i.bytes (s.position i)))
    | none =>
      match s.announcements.find? fun a => a.tag = le16 t0 t1 with
      | some a => (s, answer .ok (1#8 :: a.bytes ++ [byteOf (placeOf a.tag s.announcements)]))
      | none => refuse .unknownTag s
  | _ => badLengthAnswer s

/-- R38. -/
def execQueryItem (seq : Byte) (body : List Byte) (s : State) : Host.Outcome State Fault Refusal :=
  request 0x22#8 seq (opQueryItem body) s

/-! ### LIST_ZONE (R39) -/

/-- R39: the tags at places `start` and onward of a track list, up to 24. -/
def tagsFrom (start : Nat) (track : List Item) : List Nat :=
  ((track.drop start).take 24).map Item.tag

/-- R39. -/
def opListZone (body : List Byte) (s : State) : State × Answer :=
  match body with
  | [z, i] =>
    if s.module = .unconfigured then refuse .wrongState s
    else
      match s.namedZone z with
      | none => refuse .badField s
      | some z =>
        let track := s.zones[z].track
        let tags := tagsFrom i.toNat track
        (s, answer .ok (byteOf track.length :: i :: byteOf tags.length :: tags.flatMap bytes2))
  | _ => badLengthAnswer s

/-- R39. -/
def execListZone (seq : Byte) (body : List Byte) (s : State) : Host.Outcome State Fault Refusal :=
  request 0x23#8 seq (opListZone body) s

/-! ### PURGE (R40) -/

/-- R40. -/
def opPurge (body : List Byte) (s : State) : State × Answer :=
  match body with
  | [t0, t1] =>
    match s.findItem (le16 t0 t1) with
    | none => refuse .unknownTag s
    | some i =>
      if i.state = .diverting then refuse .tooLate s
      else (s.release i.tag, answer .ok (i.bytes (s.position i)))
  | _ => badLengthAnswer s

/-- R40. -/
def execPurge (seq : Byte) (body : List Byte) (s : State) : Host.Outcome State Fault Refusal :=
  request 0x24#8 seq (opPurge body) s

/-! ### REROUTE (R93) -/

/-- R93 steps 1 to 3. -/
def State.reroute (i : Item) (c : DestinationCode) (s : State) : State × Option DiverterId :=
  (s.updateItem i.tag fun j => { j with destination := some c }).reassign i.tag none

/-- R93. -/
def opReroute (body : List Byte) (s : State) : State × Answer :=
  match body with
  | [t0, t1, c] =>
    match numberBelow 64 c.toNat with
    | none => refuse .badField s
    | some code =>
      match s.findItem (le16 t0 t1) with
      | none => refuse .unknownTag s
      | some i =>
        if i.state = .diverting then refuse .tooLate s
        else
          let (t, new) := s.reroute i code
          (t, answer .ok (bytes2 i.tag ++ [c, optionalByte i.assigned, optionalByte new]))
  | _ => badLengthAnswer s

/-- R93. -/
def execReroute (seq : Byte) (body : List Byte) (s : State) : Host.Outcome State Fault Refusal :=
  request 0x25#8 seq (opReroute body) s

end Sys2Proof.Machine
end

