-- ==== Sys2Proof/Machine/LayoutRequests.lean ====
section
/-! DEFINITION. The requests that edit and read the layout copies (R137 to R140). -/

namespace Sys2Proof.Machine

/-- The pending copy changed, and the request answered OK with no field. -/
def editPending (f : Layout → Layout) (s : State) : State × Answer :=
  ({ s with pendingLayout := f s.pendingLayout }, answer .ok [])

/-! ### DEFINE_ZONE (R3, R138) -/

/-- Table 1-1: the fields are in range. -/
def ZoneDef.inRange (z : ZoneDef) : Bool :=
  decide (64 ≤ z.length ∧ z.length ≤ 65535 ∧ z.entryOffset ≤ 255 ∧ z.entryOffset < z.length)

/-- R3, R138. -/
def opDefineZone (body : List Byte) (s : State) : State × Answer :=
  match body with
  | [z, l0, l1, o] =>
    let d : ZoneDef := ⟨le16 l0 l1, o.toNat⟩
    match numberBelow 4 z.toNat with
    | some z =>
      if d.inRange then editPending (fun l => { l with zones := l.zones.set z (some d) }) s
      else refuse .badField s
    | none => refuse .badField s
  | _ => badLengthAnswer s

/-- R3, R138. -/
def execDefineZone (seq : Byte) (body : List Byte) (s : State) : Host.Outcome State Fault Refusal :=
  request 0x10#8 seq (opDefineZone body) s

/-! ### DEFINE_EYE (R60, R138) -/

/-- R60: the numeric fields are in range. -/
def EyeDef.inRange (d : EyeDef) : Bool :=
  decide (d.position ≤ 65534 ∧ 1 ≤ d.tolerance ∧ d.tolerance ≤ 255 ∧
    (d.jamTime = 0 ∨ (100 ≤ d.jamTime ∧ d.jamTime ≤ 30000)))

/-- R60: the definition that a body gives, if every field is in range. -/
def eyeDefOf (zone p0 p1 tolerance role sense j0 j1 : Byte) : Option EyeDef :=
  match numberBelow 4 zone.toNat, eyeRoleOf role, eyeSenseOf sense with
  | some z, some r, some n =>
    let d : EyeDef := ⟨z, le16 p0 p1, tolerance.toNat, r, n, le16 j0 j1⟩
    if d.inRange then some d else none
  | _, _, _ => none

/-- R60, R138. -/
def opDefineEye (body : List Byte) (s : State) : State × Answer :=
  match body with
  | [e, z, p0, p1, t, r, n, j0, j1] =>
    match numberBelow 12 e.toNat, eyeDefOf z p0 p1 t r n j0 j1 with
    | some e, some d => editPending (fun l => { l with eyes := l.eyes.set e (some d) }) s
    | _, _ => refuse .badField s
  | _ => badLengthAnswer s

/-- R60, R138. -/
def execDefineEye (seq : Byte) (body : List Byte) (s : State) : Host.Outcome State Fault Refusal :=
  request 0x11#8 seq (opDefineEye body) s

/-! ### DEFINE_DIVERTER (R97, R138) -/

/-- R97, Table 6-1: the numeric fields are in range. -/
def DiverterDef.inRange (d : DiverterDef) : Bool :=
  decide (d.firePosition ≤ 65534 ∧ d.lead ≤ 4095 ∧ d.minimumGap ≤ 4095) &&
    decide (10 ≤ d.strokeTimeout ∧ d.strokeTimeout ≤ 2000 ∧ 10 ≤ d.dwell ∧ d.dwell ≤ 5000 ∧
      10 ≤ d.returnTimeout ∧ d.returnTimeout ≤ 2000)

/-- R97, R138. -/
def opDefineDiverter (body : List Byte) (s : State) : State × Answer :=
  match body with
  | [d, z, f0, f1, l0, l1, g0, g1, s0, s1, w0, w1, r0, r1] =>
    match numberBelow 16 d.toNat, numberBelow 4 z.toNat with
    | some d, some z =>
      let def_ : DiverterDef :=
        ⟨z, le16 f0 f1, le16 l0 l1, le16 g0 g1, le16 s0 s1, le16 w0 w1, le16 r0 r1⟩
      if def_.inRange then
        editPending (fun l => { l with diverters := l.diverters.set d (some def_) }) s
      else refuse .badField s
    | _, _ => refuse .badField s
  | _ => badLengthAnswer s

/-- R97, R138. -/
def execDefineDiverter (seq : Byte) (body : List Byte) (s : State) :
    Host.Outcome State Fault Refusal :=
  request 0x12#8 seq (opDefineDiverter body) s

/-! ### DEFINE_DESTINATION (R81, R138) -/

/-- R81, R138. -/
def opDefineDestination (body : List Byte) (s : State) : State × Answer :=
  match body with
  | [c, p, a] =>
    match numberBelow 64 c.toNat, optionalField 16 p, optionalField 16 a with
    | some c, some primary, some alternate =>
      editPending (fun l =>
        { l with destinations := l.destinations.set c ⟨primary, alternate⟩ }) s
    | _, _, _ => refuse .badField s
  | _ => badLengthAnswer s

/-- R81, R138. -/
def execDefineDestination (seq : Byte) (body : List Byte) (s : State) :
    Host.Outcome State Fault Refusal :=
  request 0x13#8 seq (opDefineDestination body) s

/-! ### UNDEFINE (R138) -/

/-- R138: the edit that UNDEFINE makes, if its kind and number are in range. -/
def undefineEdit (kind number : Byte) : Option (Layout → Layout) :=
  match entryKindOf kind with
  | some .zone =>
    (numberBelow 4 number.toNat).map fun (z : ZoneId) l => { l with zones := l.zones.set z none }
  | some .eye =>
    (numberBelow 12 number.toNat).map fun (e : EyeId) l => { l with eyes := l.eyes.set e none }
  | some .diverter =>
    (numberBelow 16 number.toNat).map fun (d : DiverterId) l =>
      { l with diverters := l.diverters.set d none }
  | some .destination | some .line | none => none

/-- R138. -/
def opUndefine (body : List Byte) (s : State) : State × Answer :=
  match body with
  | [k, n] =>
    match undefineEdit k n with
    | some f => editPending f s
    | none => refuse .badField s
  | _ => badLengthAnswer s

/-- R138. -/
def execUndefine (seq : Byte) (body : List Byte) (s : State) : Host.Outcome State Fault Refusal :=
  request 0x14#8 seq (opUndefine body) s

/-! ### SET_LINE (R137) -/

/-- Table 7-4: the numeric settings are in range. -/
def LineSettings.inRange (l : LineSettings) : Bool :=
  decide (8 ≤ l.minLength ∧ l.minLength ≤ 2000 ∧ 16 ≤ l.maxLength ∧ l.maxLength ≤ 4095) &&
    decide (l.lengthTolerance ≤ 1000 ∧ 1 ≤ l.missLimit ∧ l.missLimit ≤ 3 ∧ l.poolReserve ≤ 16)

/-- R137. -/
def opSetLine (body : List Byte) (s : State) : State × Answer :=
  match body with
  | [a0, a1, b0, b1, t0, t1, m, p, r, h] =>
    match optionalField 64 r, markOf h with
    | some reject, some hold =>
      let l : LineSettings :=
        ⟨le16 a0 a1, le16 b0 b1, le16 t0 t1, m.toNat, p.toNat, reject, hold⟩
      if l.inRange then editPending (fun copy => { copy with line := l }) s
      else refuse .badField s
    | _, _ => refuse .badField s
  | _ => badLengthAnswer s

/-- R137. -/
def execSetLine (seq : Byte) (body : List Byte) (s : State) : Host.Outcome State Fault Refusal :=
  request 0x15#8 seq (opSetLine body) s

/-! ### CLEAR_PENDING and COPY_ACTIVE (R139) -/

/-- R139. -/
def opClearPending (body : List Byte) (s : State) : State × Answer :=
  match body with
  | [] => editPending (fun _ => .empty) s
  | _ => badLengthAnswer s

/-- R139. -/
def execClearPending (seq : Byte) (body : List Byte) (s : State) :
    Host.Outcome State Fault Refusal :=
  request 0x16#8 seq (opClearPending body) s

/-- R139. -/
def opCopyActive (body : List Byte) (s : State) : State × Answer :=
  match body with
  | [] => editPending (fun _ => s.activeLayout) s
  | _ => badLengthAnswer s

/-- R139. -/
def execCopyActive (seq : Byte) (body : List Byte) (s : State) : Host.Outcome State Fault Refusal :=
  request 0x17#8 seq (opCopyActive body) s

/-! ### READ_LAYOUT (R140) -/

/-- R140, Table 10-7: the defined mark, and the fields of a defined entry. -/
def entryBytes (fields : Option (List Byte)) : List Byte :=
  match fields with
  | some bytes => 1#8 :: bytes
  | none => [0#8]

/-- R140: the number byte, the defined mark and the fields of one entry of a copy. -/
def Layout.read (l : Layout) (kind : EntryKind) (n : Byte) : Option (List Byte) :=
  match kind with
  | .zone => (numberBelow 4 n.toNat).map fun z => n :: entryBytes (l.zones[z].map ZoneDef.bytes)
  | .eye => (numberBelow 12 n.toNat).map fun e => n :: entryBytes (l.eyes[e].map EyeDef.bytes)
  | .diverter =>
    (numberBelow 16 n.toNat).map fun d => n :: entryBytes (l.diverters[d].map DiverterDef.bytes)
  | .destination =>
    (numberBelow 64 n.toNat).map fun c => n :: entryBytes (some l.destinations[c].bytes)
  | .line => some (0xFF#8 :: entryBytes (some l.line.bytes))

/-- R140. -/
def opReadLayout (body : List Byte) (s : State) : State × Answer :=
  match body with
  | [copy, k, n] =>
    match markOf copy, entryKindOf k with
    | some active, some kind =>
      match (if active then s.activeLayout else s.pendingLayout).read kind n with
      | some fields => (s, answer .ok (copy :: k :: fields))
      | none => refuse .badField s
    | _, _ => refuse .badField s
  | _ => badLengthAnswer s

/-- R140. -/
def execReadLayout (seq : Byte) (body : List Byte) (s : State) : Host.Outcome State Fault Refusal :=
  request 0x18#8 seq (opReadLayout body) s

end Sys2Proof.Machine
end

