-- ==== Sys2Proof/Machine/LineRequests.lean ====
section
/-! DEFINITION. HALT_ZONE, RESUME_ZONE, the eye requests and the diverter requests
(R19, R20, R76 to R78, R119 to R123). -/

namespace Sys2Proof.Machine

/-! ### HALT_ZONE and RESUME_ZONE -/

/-- R19: HOST claimed in, or withdrawn from, zone `z`. -/
def State.setHost (z : ZoneId) (held : Bool) (s : State) : State :=
  s.modifyReasons z fun r => { r with host := held }

/-- R19. -/
def opHaltZone (body : List Byte) (s : State) : State × Answer :=
  match body with
  | [b] =>
    if s.module = .unconfigured then refuse .wrongState s
    else
      match s.namedZone b with
      | none => refuse .badField s
      | some z =>
        let t := (s.setHost z true).deriveDownstream
        (t, answer .ok [t.zones[z].reasons.byte])
  | _ => badLengthAnswer s

/-- R19. -/
def execHaltZone (seq : Byte) (body : List Byte) (s : State) : Host.Outcome State Fault Refusal :=
  request 0x28#8 seq (opHaltZone body) s

/-- The defined eyes of zone `z` in a state, lowest number first. -/
def State.eyesIn (s : State) (z : ZoneId) (state : EyeState) : List EyeId :=
  allEyes.filter fun e =>
    decide (s.eyes[e].state = state) && s.activeLayout.eyes[e].any fun d => d.zone = z

/-- R20 step 2: one JAM_HELD eye becomes CLEAR. -/
def State.clearHeld (z : ZoneId) (s : State) (e : EyeId) : State :=
  (s.setEye e .clear).post (.jam e z false)

/-- R20 steps 1 to 3. -/
def State.resume (z : ZoneId) (s : State) : State :=
  ((s.eyesIn z .jamHeld).foldl (State.clearHeld z) (s.setHost z false)).withdrawJam z

/-- R20. -/
def opResumeZone (body : List Byte) (s : State) : State × Answer :=
  match body with
  | [b] =>
    if s.module = .unconfigured then refuse .wrongState s
    else
      match s.namedZone b with
      | none => refuse .badField s
      | some z => (s.resume z, answer .ok [byteOf (s.eyesIn z .jammed).length])
  | _ => badLengthAnswer s

/-- R20. -/
def execResumeZone (seq : Byte) (body : List Byte) (s : State) : Host.Outcome State Fault Refusal :=
  request 0x29#8 seq (opResumeZone body) s

/-! ### DISABLE_EYE and ENABLE_EYE -/

/-- R76: an eye byte that names an eye defined in the active layout, with its definition. -/
def State.namedEye (s : State) (b : Byte) : Option (EyeId × EyeDef) :=
  (numberBelow 12 b.toNat).bind fun e => (s.activeLayout.eyes[e]).map fun d => (e, d)

/-- R77: an eye that is not DISABLED becomes so. -/
def State.disableEye (e : EyeId) (z : ZoneId) (s : State) : State :=
  if s.eyes[e].state = .disabled then s
  else if s.eyes[e].state.holdsJam then
    ((s.setEye e .disabled).post (.jam e z false)).withdrawJam z
  else s.setEye e .disabled

/-- R76, R77. -/
def opDisableEye (body : List Byte) (s : State) : State × Answer :=
  match body with
  | [b] =>
    if s.module = .unconfigured then refuse .wrongState s
    else
      match s.namedEye b with
      | none => refuse .badField s
      | some (e, d) =>
        if d.role = .induct then refuse .wrongState s
        else (s.disableEye e d.zone, answer .ok [EyeState.disabled.code])
  | _ => badLengthAnswer s

/-- R76, R77. -/
def execDisableEye (seq : Byte) (body : List Byte) (s : State) : Host.Outcome State Fault Refusal :=
  request 0x2A#8 seq (opDisableEye body) s

/-- R78: a DISABLED eye is set from its input as it stands. -/
def State.enableEye (e : EyeId) (s : State) : State :=
  if s.eyes[e].state = .disabled then s.setEye e (if s.eyeBlocked e then .blocked else .clear) else s

/-- R76, R78. -/
def opEnableEye (body : List Byte) (s : State) : State × Answer :=
  match body with
  | [b] =>
    if s.module = .unconfigured then refuse .wrongState s
    else
      match s.namedEye b with
      | none => refuse .badField s
      | some (e, _) => (s.enableEye e, answer .ok [(s.enableEye e).eyes[e].state.code])
  | _ => badLengthAnswer s

/-- R76, R78. -/
def execEnableEye (seq : Byte) (body : List Byte) (s : State) : Host.Outcome State Fault Refusal :=
  request 0x2B#8 seq (opEnableEye body) s

/-! ### The four diverter requests -/

/-- R119 check 2: a diverter byte that names a diverter defined in the active layout. -/
def State.namedDiverter (s : State) (b : Byte) : Option DiverterId :=
  (numberBelow 16 b.toNat).filter fun d => s.activeLayout.diverters[d].isSome

/-- R119: the checks of Table 6-9 in order, and then the request, which names a diverter. `allowed` is
check 3 for the request. -/
def diverterRequest (allowed : State → DiverterId → Bool) (effect : DiverterId → State → State)
    (body : List Byte) (s : State) : State × Answer :=
  match body with
  | [b] =>
    if s.module = .unconfigured then refuse .wrongState s
    else
      match s.namedDiverter b with
      | none => refuse .badField s
      | some d =>
        if allowed s d then (effect d s, answer .ok [(effect d s).diverters[d].state.code])
        else (s, answer .wrongState [s.diverters[d].state.code])
  | _ => badLengthAnswer s

/-- Table 6-9, check 3 for TEST_DIVERTER. -/
def State.mayTest (s : State) (d : DiverterId) : Bool :=
  decide (s.module = .standby) && decide (s.diverters[d].state = .idle) && !s.inputs.estop

/-- R120. -/
def State.testStroke (d : DiverterId) (s : State) : State :=
  s.modifyDiverter d fun u =>
    { u with state := .extending, timer := s.diverterTimer d DiverterDef.strokeTimeout
             slot := none, testMark := true }

/-- R119, R120. -/
def opTestDiverter (body : List Byte) (s : State) : State × Answer :=
  diverterRequest State.mayTest State.testStroke body s

/-- R119, R120. -/
def execTestDiverter (seq : Byte) (body : List Byte) (s : State) :
    Host.Outcome State Fault Refusal :=
  request 0x30#8 seq (opTestDiverter body) s

/-- R121. -/
def State.disableDiverter (d : DiverterId) (s : State) : State :=
  if s.diverters[d].state = .disabled then s
  else
    let t := (s.modifyDiverter d fun u =>
      { u with state := .disabled, timer := none, testMark := false }).returnItem d .disabled
    if s.diverters[d].state.inService then t.reevaluate d else t

/-- R119, R121. -/
def opDisableDiverter (body : List Byte) (s : State) : State × Answer :=
  diverterRequest (fun _ _ => true) State.disableDiverter body s

/-- R119, R121. -/
def execDisableDiverter (seq : Byte) (body : List Byte) (s : State) :
    Host.Outcome State Fault Refusal :=
  request 0x31#8 seq (opDisableDiverter body) s

/-- R119, R122. -/
def opEnableDiverter (body : List Byte) (s : State) : State × Answer :=
  diverterRequest (fun t d => t.diverters[d].state = .disabled) State.enterSettling body s

/-- R119, R122. -/
def execEnableDiverter (seq : Byte) (body : List Byte) (s : State) :
    Host.Outcome State Fault Refusal :=
  request 0x32#8 seq (opEnableDiverter body) s

/-- R123. -/
def State.clearFault (d : DiverterId) (s : State) : State :=
  if s.inputs.homes[d] then
    (s.modifyDiverter d fun u => { u with state := .idle, timer := none }).post
      (.diverterChange d .idle .cleared)
  else s.enterSettling d

/-- R119, R123. -/
def opClearDiverterFault (body : List Byte) (s : State) : State × Answer :=
  diverterRequest (fun t d => t.diverters[d].state = .fault) State.clearFault body s

/-- R119, R123. -/
def execClearDiverterFault (seq : Byte) (body : List Byte) (s : State) :
    Host.Outcome State Fault Refusal :=
  request 0x33#8 seq (opClearDiverterFault body) s

end Sys2Proof.Machine
end

