-- ==== Sys2Proof/Machine/LinkRequests.lean ====
section
/-! DEFINITION. STATUS, IDENTIFY, SET_LINK and REPORT_ACK (R145, R146, R160, R173, R174, R177). -/

namespace Sys2Proof.Machine

/-! ### STATUS and IDENTIFY -/

/-- R145. -/
def opStatus (body : List Byte) (s : State) : State × Answer :=
  match body with
  | [] => (s, .status)
  | _ => badLengthAnswer s

/-- R145. -/
def execStatus (seq : Byte) (body : List Byte) (s : State) : Host.Outcome State Fault Refusal :=
  request 0x01#8 seq (opStatus body) s

/-- R146: the fields of the IDENTIFY reply. -/
def identifyFields : List Byte :=
  [byteOf Config.modelCode, Config.hardwareRevision, byteOf 4, byteOf 12, byteOf 16,
    byteOf Config.itemRecords, byteOf Config.announceCapacity, byteOf Config.reportCapacity, byteOf 64]

/-- R146. -/
def opIdentify (body : List Byte) (s : State) : State × Answer :=
  match body with
  | [] => (s, answer .ok identifyFields)
  | _ => badLengthAnswer s

/-- R146. -/
def execIdentify (seq : Byte) (body : List Byte) (s : State) : Host.Outcome State Fault Refusal :=
  request 0x02#8 seq (opIdentify body) s

/-! ### SET_LINK -/

/-- Table 8-6: the three settings are in range. -/
def LinkSettings.inRange (l : LinkSettings) : Bool :=
  decide (1 ≤ l.sendWindow ∧ l.sendWindow ≤ 8) &&
    decide (20 ≤ l.resendTime ∧ l.resendTime ≤ 2000) &&
    decide (l.linkTimeout = 0 ∨ (100 ≤ l.linkTimeout ∧ l.linkTimeout ≤ 60000))

/-- R177: the OUTSTANDING entries beyond the first `window` marked UNSENT. -/
def limitOutstanding : Nat → List Entry → List Entry
  | _, [] => []
  | window, e :: es =>
    if e.outstanding then
      match window with
      | 0 => e.unsend :: limitOutstanding 0 es
      | w + 1 => e :: limitOutstanding w es
    else e :: limitOutstanding window es

/-- R177: a new send window and resend time applied to the queue. -/
def ReportQueue.applySettings (l : LinkSettings) (q : ReportQueue) : ReportQueue :=
  { q with
    entries := limitOutstanding l.sendWindow q.entries
    outstanding := min q.outstanding l.sendWindow
    resendTimer := if q.resendTimer.isSome then startTimer l.resendTime else none }

/-- R160: accepted settings take effect. -/
def State.applyLinkSettings (l : LinkSettings) (s : State) : State :=
  { s with
    link := { s.link with settings := l, linkTimer := l.linkTimer }
    reports := s.reports.applySettings l }

/-- R160. -/
def opSetLink (body : List Byte) (s : State) : State × Answer :=
  match body with
  | [w, r0, r1, t0, t1] =>
    let l : LinkSettings := ⟨w.toNat, le16 r0 r1, le16 t0 t1⟩
    if l.inRange then (s.applyLinkSettings l, answer .ok l.bytes)
    else (s, answer .badField s.link.settings.bytes)
  | _ => badLengthAnswer s

/-- R160. -/
def execSetLink (seq : Byte) (body : List Byte) (s : State) : Host.Outcome State Fault Refusal :=
  request 0x03#8 seq (opSetLink body) s

/-! ### REPORT_ACK -/

/-- R173: `n` is the number of an OUTSTANDING entry. -/
def ReportQueue.isOutstanding (q : ReportQueue) (n : Nat) : Bool :=
  q.entries.any fun e => e.outstanding && e.number = n

/-- R173 step 1: what is left behind the entry numbered `n`. -/
def dropThrough (n : Nat) : List Entry → List Entry
  | [] => []
  | e :: es => if e.number = n then es else dropThrough n es

/-- R173 step 2: how many entries an acknowledgement of `n` removes. -/
def ReportQueue.removedBy (q : ReportQueue) (n : Nat) : Nat :=
  q.entries.length - (dropThrough n q.entries).length

/-- R173: a valid acknowledgement of `n`. -/
def ReportQueue.acknowledge (n resendTime : Nat) (q : ReportQueue) : ReportQueue :=
  { q with
    entries := dropThrough n q.entries
    outstanding := q.outstanding - q.removedBy n
    resendTimer := if q.outstanding - q.removedBy n = 0 then none else startTimer resendTime }

/-- R174: the oldest entry's number, or the next report number when the queue is empty. -/
def ReportQueue.oldestNumber (q : ReportQueue) : Nat :=
  (q.entries.head?.map Entry.number).getD q.nextNumber

/-- R174: `n` is one of the 64 numbers that precede the oldest entry, with 0 skipped. -/
def ReportQueue.isStale (q : ReportQueue) (n : Nat) : Bool :=
  decide (1 ≤ n) && decide (1 ≤ (q.oldestNumber + 65535 - n) % 65535) &&
    decide ((q.oldestNumber + 65535 - n) % 65535 ≤ 64)

/-- R173, R174. -/
def opReportAck (body : List Byte) (s : State) : State × Answer :=
  match body with
  | [n0, n1] =>
    let n := le16 n0 n1
    if s.reports.isOutstanding n then
      ({ s with reports := s.reports.acknowledge n s.link.settings.resendTime },
        .ack .ok n (s.reports.removedBy n))
    else if s.reports.isStale n then (s, .ack .ok n 0)
    else (s, .ack .badAck n 0)
  | _ => badLengthAnswer s

/-- R173, R174. -/
def execReportAck (seq : Byte) (body : List Byte) (s : State) : Host.Outcome State Fault Refusal :=
  request 0x04#8 seq (opReportAck body) s

end Sys2Proof.Machine
end

