-- ==== Sys2Proof/Machine/Reception.lean ====
section
/-! DEFINITION. The receiver: bytes taken one by one, frames discarded and rescanned, and the request
that a valid frame carries (R147, R150 to R154, R182). -/

namespace Sys2Proof.Machine

/-- R154 step 4. -/
def opBadKind (s : State) : State × Answer := refuse .badKind s

/-- R154 steps 4 to 6, Table 10-4: the request of a KIND, executed on a body. -/
def runKind (kind : Byte) (body : List Byte) : State → State × Answer :=
  match kind.toNat with
  | 0x01 => opStatus body
  | 0x02 => opIdentify body
  | 0x03 => opSetLink body
  | 0x04 => opReportAck body
  | 0x05 => opRestart body
  | 0x06 => opStart body
  | 0x07 => opStop body
  | 0x10 => opDefineZone body
  | 0x11 => opDefineEye body
  | 0x12 => opDefineDiverter body
  | 0x13 => opDefineDestination body
  | 0x14 => opUndefine body
  | 0x15 => opSetLine body
  | 0x16 => opClearPending body
  | 0x17 => opCopyActive body
  | 0x18 => opReadLayout body
  | 0x19 => opCommitLayout body
  | 0x20 => opAnnounce body
  | 0x21 => opWithdraw body
  | 0x22 => opQueryItem body
  | 0x23 => opListZone body
  | 0x24 => opPurge body
  | 0x25 => opReroute body
  | 0x28 => opHaltZone body
  | 0x29 => opResumeZone body
  | 0x2A => opDisableEye body
  | 0x2B => opEnableEye body
  | 0x30 => opTestDiverter body
  | 0x31 => opDisableDiverter body
  | 0x32 => opEnableDiverter body
  | 0x33 => opClearDiverterFault body
  | _ => opBadKind

/-- R182: a valid frame, its KIND not a request kind, is answered BAD_KIND. A KIND of Table 10-4 makes
the frame that request, whichever row of the command table it comes under. -/
def execBadKindFrame (kind seq : Byte) (body : List Byte) (s : State) :
    Host.Outcome State Fault Refusal :=
  request kind seq (runKind kind body) s

/-- R151 to R154: what taking bytes brought about, within one happening. -/
def State.takeEvents : List ScanEvent → State → State
  | [], s => s.settleZones
  | .discard :: later, s => s.countDiscard.takeEvents later
  | .frame f :: later, s => s.handle f.kind f.seq (runKind f.kind f.body) later

/-- R150, R153: the receiver as a happening leaves it, with the inter-byte timer started afresh while
it is COLLECTING. -/
def State.setReceiver (r : Receiver) (s : State) : State :=
  { s with link := { s.link with
      receiver := r
      interByte := if r = .hunting then none else startTimer Config.interByteTime } }

/-- The bytes of a happening taken by the receiver, and what they bring about. -/
def State.receive (scanned : List ScanEvent × Receiver) (s : State) : State :=
  ((s.setReceiver scanned.2).takeEvents scanned.1).chooseFrame

/-- R147, R150. -/
def execReceivedByte (b : Byte) (s : State) : Host.Outcome State Fault Refusal :=
  if s.resetActive then .next s else .next (s.receive (scanAll s.link.receiver [b]))

/-- R153: a discard counted, and the buffered bytes taken again from HUNTING. -/
def rescan (buffer : List Byte) : List ScanEvent × Receiver :=
  let scanned := scanAll .hunting buffer
  (.discard :: scanned.1, scanned.2)

/-- R152: the inter-byte timer, which runs while the receiver is COLLECTING. -/
def HostLink.gapTimer (l : HostLink) : Option Timer :=
  match l.receiver with
  | .hunting => none
  | .collecting _ => l.interByte

/-- R150: the bytes that the receiver has collected. -/
def Receiver.buffer : Receiver → List Byte
  | .hunting => []
  | .collecting buffer => buffer

/-- R152, R153: the inter-byte timer runs out while COLLECTING. -/
def execInterByteTimeout (s : State) : Host.Outcome State Fault Refusal :=
  if !s.resetActive && s.link.gapTimer.any Timer.due then
    .next (s.receive (rescan s.link.receiver.buffer))
  else .next s

/-- R153: a frame, received after its SYNC as `buffer`, fails its LENGTH byte or its CHECK. A buffer
that is no failing frame is no such happening, and changes nothing. -/
def execFrameDiscarded (buffer : List Byte) (s : State) : Host.Outcome State Fault Refusal :=
  if !s.resetActive && frameFails buffer then .next (s.receive (rescan buffer)) else .next s

end Sys2Proof.Machine
end

