-- ==== Sys2Proof/Machine/Timers.lean ====
section
/-! DEFINITION. The running-out of the timers of the field and of the link, the end of a sent frame, and
the passing of a millisecond (R1, R64, R65, R99, R103, R104, R107, R157, R161, R172). -/

namespace Sys2Proof.Machine

/-! ### The jam timer (R64, R65) -/

/-- R64: eye `e` has a jam timer and it runs: the eye is BLOCKED, its jam time is not 0, and its zone's
permit is on. -/
def State.jamTimerRuns (s : State) (e : EyeId) : Bool :=
  decide (s.eyes[e].state = .blocked) &&
    s.activeLayout.eyes[e].any fun d => d.jamTime != 0 && s.zones[d.zone].permit

/-- R64: the jam timer of eye `e`, while it runs. -/
def State.jamTimer (s : State) (e : EyeId) : Option Timer :=
  if s.jamTimerRuns e then
    s.activeLayout.eyes[e].map fun d => ⟨d.jamTime, s.eyes[e].jamElapsed⟩
  else none

/-- R65. -/
def State.jamEye (e : EyeId) (s : State) : State :=
  match s.activeLayout.eyes[e] with
  | none => s
  | some d =>
    ((s.setEye e .jammed).post (.jam e d.zone true)).modifyReasons d.zone
      fun r => { r with jam := true }

/-- R65. -/
def execJamTimerExpiry (e : EyeId) (s : State) : Host.Outcome State Fault Refusal :=
  happening ((s.jamTimer e).any Timer.due) (State.jamEye e) s

/-! ### The diverters' timers (R99) -/

/-- R99: the stroke timer of diverter `d`, which runs in EXTENDING. -/
def State.strokeTimer (s : State) (d : DiverterId) : Option Timer :=
  match s.diverters[d].state with
  | .extending => s.diverters[d].timer
  | .undefined | .settling | .idle | .holding | .retracting | .fault | .disabled => none

/-- R99: the dwell timer of diverter `d`, which runs in HOLDING. -/
def State.dwellTimer (s : State) (d : DiverterId) : Option Timer :=
  match s.diverters[d].state with
  | .holding => s.diverters[d].timer
  | .undefined | .settling | .idle | .extending | .retracting | .fault | .disabled => none

/-- R99: the return timer of diverter `d`, which runs in SETTLING and RETRACTING. -/
def State.returnTimer (s : State) (d : DiverterId) : Option Timer :=
  match s.diverters[d].state with
  | .settling | .retracting => s.diverters[d].timer
  | .undefined | .idle | .extending | .holding | .fault | .disabled => none

/-- R103. -/
def execStrokeTimerExpiry (d : DiverterId) (s : State) : Host.Outcome State Fault Refusal :=
  happening ((s.strokeTimer d).any Timer.due) (fun t => t.enterFault d .strokeTimeout) s

/-- R104. -/
def execDwellTimerExpiry (d : DiverterId) (s : State) : Host.Outcome State Fault Refusal :=
  happening ((s.dwellTimer d).any Timer.due) (State.enterRetracting d) s

/-- R100, R105: the fault that a return timer's running out gives. -/
def State.returnTimeout (d : DiverterId) (s : State) : State :=
  s.enterFault d (if s.diverters[d].state = .settling then .noHome else .returnTimeout)

/-- R100, R105, R107. -/
def execReturnTimerExpiry (d : DiverterId) (s : State) : Host.Outcome State Fault Refusal :=
  happening ((s.returnTimer d).any Timer.due) (State.returnTimeout d) s

/-! ### The link's timers and the transmitter -/

/-- R157: the link timer, which runs while the link is UP. -/
def HostLink.supervisionTimer (l : HostLink) : Option Timer := if l.up then l.linkTimer else none

/-- R157, R158. -/
def execLinkTimerExpiry (s : State) : Host.Outcome State Fault Refusal :=
  happening (s.link.supervisionTimer.any Timer.due) State.linkDown s

/-- R172: every OUTSTANDING entry made UNSENT. -/
def State.resend (s : State) : State := { s with reports := s.reports.unsendAll }

/-- R172. -/
def execResendTimerExpiry (s : State) : Host.Outcome State Fault Refusal :=
  happening (s.reports.resendTimer.any Timer.due) State.resend s

/-- R161: the last byte of the frame in progress has gone. -/
def State.frameGone (s : State) : State := { s with link := { s.link with transmitter := .free } }

/-- R161, R162. -/
def execFrameSent (s : State) : Host.Outcome State Fault Refusal :=
  happening (s.link.transmitter != .free) State.frameGone s

/-! ### The passing of time (R1) -/

/-- R64: a millisecond at eye `e`. A jam timer that does not run holds its elapsed time. -/
def State.advanceEye (s : State) (e : EyeId) : Eye :=
  if s.jamTimerRuns e then { s.eyes[e] with jamElapsed := s.eyes[e].jamElapsed + 1 } else s.eyes[e]

/-- A millisecond passes with no command waiting: each running timer counts it (log entry 7). -/
def State.tick (s : State) : State :=
  if s.resetActive then s
  else
    { s with
      eyes := Vector.ofFn s.advanceEye
      diverters := Vector.ofFn fun d =>
        { s.diverters[d] with timer := s.diverters[d].timer.map Timer.advance }
      link := { s.link with
        interByte := s.link.interByte.map Timer.advance
        linkTimer := s.link.linkTimer.map Timer.advance }
      reports := { s.reports with resendTimer := s.reports.resendTimer.map Timer.advance } }

end Sys2Proof.Machine
end

