-- ==== Sys2Proof/Machine/Dispatch.lean ====
section
/-! DEFINITION. One arm for each command. -/

namespace Sys2Proof.Machine

def exec (i : Instr) (s : State) : Host.Outcome State Fault Refusal :=
  match i with
  | .powerOn inputs => Sys2Proof.Machine.execPowerOn inputs s
  | .resetinActive => Sys2Proof.Machine.execResetinActive s
  | .resetinInactive inputs => Sys2Proof.Machine.execResetinInactive inputs s
  | .encoderPulse zone => Sys2Proof.Machine.execEncoderPulse zone s
  | .estopChangeAtZones active => Sys2Proof.Machine.execEstopChangeAtZones active s
  | .estopChangeAtDiverters active => Sys2Proof.Machine.execEstopChangeAtDiverters active s
  | .blockedEdge eye => Sys2Proof.Machine.execBlockedEdge eye s
  | .unblockedEdge eye => Sys2Proof.Machine.execUnblockedEdge eye s
  | .homeActiveEdge div => Sys2Proof.Machine.execHomeActiveEdge div s
  | .homeInactiveEdge div => Sys2Proof.Machine.execHomeInactiveEdge div s
  | .jamTimerExpiry eye => Sys2Proof.Machine.execJamTimerExpiry eye s
  | .strokeTimerExpiry div => Sys2Proof.Machine.execStrokeTimerExpiry div s
  | .dwellTimerExpiry div => Sys2Proof.Machine.execDwellTimerExpiry div s
  | .returnTimerExpiry div => Sys2Proof.Machine.execReturnTimerExpiry div s
  | .interByteTimeout => Sys2Proof.Machine.execInterByteTimeout s
  | .frameDiscarded buffer => Sys2Proof.Machine.execFrameDiscarded buffer s
  | .linkTimerExpiry => Sys2Proof.Machine.execLinkTimerExpiry s
  | .resendTimerExpiry => Sys2Proof.Machine.execResendTimerExpiry s
  | .frameSent => Sys2Proof.Machine.execFrameSent s
  | .badKindFrame kind seq body => Sys2Proof.Machine.execBadKindFrame kind seq body s
  | .status seq body => Sys2Proof.Machine.execStatus seq body s
  | .identify seq body => Sys2Proof.Machine.execIdentify seq body s
  | .setLink seq body => Sys2Proof.Machine.execSetLink seq body s
  | .reportAck seq body => Sys2Proof.Machine.execReportAck seq body s
  | .restart seq body => Sys2Proof.Machine.execRestart seq body s
  | .start seq body => Sys2Proof.Machine.execStart seq body s
  | .stop seq body => Sys2Proof.Machine.execStop seq body s
  | .defineZone seq body => Sys2Proof.Machine.execDefineZone seq body s
  | .defineEye seq body => Sys2Proof.Machine.execDefineEye seq body s
  | .defineDiverter seq body => Sys2Proof.Machine.execDefineDiverter seq body s
  | .defineDestination seq body => Sys2Proof.Machine.execDefineDestination seq body s
  | .undefine seq body => Sys2Proof.Machine.execUndefine seq body s
  | .setLine seq body => Sys2Proof.Machine.execSetLine seq body s
  | .clearPending seq body => Sys2Proof.Machine.execClearPending seq body s
  | .copyActive seq body => Sys2Proof.Machine.execCopyActive seq body s
  | .readLayout seq body => Sys2Proof.Machine.execReadLayout seq body s
  | .commitLayout seq body => Sys2Proof.Machine.execCommitLayout seq body s
  | .announce seq body => Sys2Proof.Machine.execAnnounce seq body s
  | .withdraw seq body => Sys2Proof.Machine.execWithdraw seq body s
  | .queryItem seq body => Sys2Proof.Machine.execQueryItem seq body s
  | .listZone seq body => Sys2Proof.Machine.execListZone seq body s
  | .purge seq body => Sys2Proof.Machine.execPurge seq body s
  | .reroute seq body => Sys2Proof.Machine.execReroute seq body s
  | .haltZone seq body => Sys2Proof.Machine.execHaltZone seq body s
  | .resumeZone seq body => Sys2Proof.Machine.execResumeZone seq body s
  | .disableEye seq body => Sys2Proof.Machine.execDisableEye seq body s
  | .enableEye seq body => Sys2Proof.Machine.execEnableEye seq body s
  | .testDiverter seq body => Sys2Proof.Machine.execTestDiverter seq body s
  | .disableDiverter seq body => Sys2Proof.Machine.execDisableDiverter seq body s
  | .enableDiverter seq body => Sys2Proof.Machine.execEnableDiverter seq body s
  | .clearDiverterFault seq body => Sys2Proof.Machine.execClearDiverterFault seq body s
  | .receivedByte byte => Sys2Proof.Machine.execReceivedByte byte s

end Sys2Proof.Machine
end

