-- ==== Sys2Proof/Machine/Idle.lean ====
section
/-! DEFINITION. What happens with no command waiting: a timer that has to run out does, or else a
millisecond passes (R1). -/

namespace Sys2Proof.Machine

/-- The running-out of every timer that the module has. -/
def expiries : List Instr :=
  allEyes.map .jamTimerExpiry ++ allDiverters.map .strokeTimerExpiry ++
    allDiverters.map .dwellTimerExpiry ++ allDiverters.map .returnTimerExpiry ++
    [.interByteTimeout, .linkTimerExpiry, .resendTimerExpiry]

/-- R1: the running timer whose running-out a command is. -/
def State.timerOf (s : State) : Instr → Option Timer
  | .jamTimerExpiry e => s.jamTimer e
  | .strokeTimerExpiry d => s.strokeTimer d
  | .dwellTimerExpiry d => s.dwellTimer d
  | .returnTimerExpiry d => s.returnTimer d
  | .interByteTimeout => s.link.gapTimer
  | .linkTimerExpiry => s.link.supervisionTimer
  | .resendTimerExpiry => s.reports.resendTimer
  | _ => none

/-- R1: the timers that run out "not after t + 1 ms", and have run for that long. None runs while RESETIN
is active (R130). -/
def State.overdue (s : State) : List Instr :=
  if s.resetActive then [] else expiries.filter fun c => (s.timerOf c).any Timer.overdue

/-- A step with no command waiting. A timer that has run for a millisecond more than its time runs out
(R1), and of two or more a free choice says which is first. With none, a millisecond passes (log
entries 7, 8 and 24). -/
def idleStep (s : State) : Host.Outcome State Fault Refusal :=
  match s.overdue with
  | [] => .next s.tick
  | [c] => exec c s
  | c :: b :: cs =>
    exec ((c :: b :: cs).getD (Config.expiryChoice s.freeIndex % (cs.length + 2)) c)
      { s with freeIndex := s.freeIndex + 1 }

end Sys2Proof.Machine
end

