-- ==== Sys2Proof/WellFormed.lean ====
section
/-! DEFINITION. The commands whose operands the link can carry: a BODY is at most 248 bytes long (R148),
a frame answered BAD_KIND has a KIND that is no request kind (R182), and a discarded frame is one that
fails its LENGTH byte or its CHECK (R150, R151). Zone, eye and diverter numbers of field inputs are
bounded by their types. -/

namespace Sys2Proof

open Machine

/-- A command that can stand for a happening at the module. -/
def WellFormed : Instr → Bool
  | .powerOn _ => true
  | .resetinActive => true
  | .resetinInactive _ => true
  | .encoderPulse _ => true
  | .estopChangeAtZones _ => true
  | .estopChangeAtDiverters _ => true
  | .blockedEdge _ => true
  | .unblockedEdge _ => true
  | .homeActiveEdge _ => true
  | .homeInactiveEdge _ => true
  | .jamTimerExpiry _ => true
  | .strokeTimerExpiry _ => true
  | .dwellTimerExpiry _ => true
  | .returnTimerExpiry _ => true
  | .interByteTimeout => true
  | .frameDiscarded buffer => frameFails buffer
  | .linkTimerExpiry => true
  | .resendTimerExpiry => true
  | .frameSent => true
  | .badKindFrame kind _ body => !isRequestKind kind && decide (body.length ≤ maxBody)
  | .status _ body => body.length ≤ maxBody
  | .identify _ body => body.length ≤ maxBody
  | .setLink _ body => body.length ≤ maxBody
  | .reportAck _ body => body.length ≤ maxBody
  | .restart _ body => body.length ≤ maxBody
  | .start _ body => body.length ≤ maxBody
  | .stop _ body => body.length ≤ maxBody
  | .defineZone _ body => body.length ≤ maxBody
  | .defineEye _ body => body.length ≤ maxBody
  | .defineDiverter _ body => body.length ≤ maxBody
  | .defineDestination _ body => body.length ≤ maxBody
  | .undefine _ body => body.length ≤ maxBody
  | .setLine _ body => body.length ≤ maxBody
  | .clearPending _ body => body.length ≤ maxBody
  | .copyActive _ body => body.length ≤ maxBody
  | .readLayout _ body => body.length ≤ maxBody
  | .commitLayout _ body => body.length ≤ maxBody
  | .announce _ body => body.length ≤ maxBody
  | .withdraw _ body => body.length ≤ maxBody
  | .queryItem _ body => body.length ≤ maxBody
  | .listZone _ body => body.length ≤ maxBody
  | .purge _ body => body.length ≤ maxBody
  | .reroute _ body => body.length ≤ maxBody
  | .haltZone _ body => body.length ≤ maxBody
  | .resumeZone _ body => body.length ≤ maxBody
  | .disableEye _ body => body.length ≤ maxBody
  | .enableEye _ body => body.length ≤ maxBody
  | .testDiverter _ body => body.length ≤ maxBody
  | .disableDiverter _ body => body.length ≤ maxBody
  | .enableDiverter _ body => body.length ≤ maxBody
  | .clearDiverterFault _ body => body.length ≤ maxBody
  | .receivedByte _ => true

end Sys2Proof
end

