-- ==== Sys2Proof/Safety.lean ====
section
/-! DEFINITION. What a run of the module is held to: which commands stand for happenings of a state,
and the laws that the manual says the module's state obeys
between happenings. -/

namespace Sys2Proof.Machine

/-! ### Commands and happenings -/

/-- The command names a happening of the state: the edge changes its input, the timer runs and
is due (R1), the transmitter is sending, the buffer is a failing frame's. Every other command always does. -/
def State.occurs (s : State) : Instr → Bool
  | .resetinInactive _ => s.resetActive
  | .blockedEdge e => !s.eyeBlocked e
  | .unblockedEdge e => s.eyeBlocked e
  | .homeActiveEdge d => !s.inputs.homes[d]
  | .homeInactiveEdge d => s.inputs.homes[d]
  | .jamTimerExpiry e => (s.jamTimer e).any Timer.due
  | .strokeTimerExpiry d => (s.strokeTimer d).any Timer.due
  | .dwellTimerExpiry d => (s.dwellTimer d).any Timer.due
  | .returnTimerExpiry d => (s.returnTimer d).any Timer.due
  | .interByteTimeout => s.link.gapTimer.any Timer.due
  | .frameDiscarded buffer => frameFails buffer
  | .linkTimerExpiry => s.link.supervisionTimer.any Timer.due
  | .resendTimerExpiry => s.reports.resendTimer.any Timer.due
  | .frameSent => s.link.transmitter != .free
  | _ => true

/-- R1: the running-out of a timer that runs, and the timer: a jam timer at a BLOCKED eye whose jam time is
not 0, while the permit of its zone is on (R64); the one timer of a diverter in a state that runs one
(Table 6-3); the inter-byte timer while the receiver is COLLECTING (R150); the link timer while the link
is UP (R157); the resend timer (R171). -/
abbrev TimerRuns (s : State) (c : Instr) (τ : Timer) : Prop :=
  (∃ e : EyeId, c = .jamTimerExpiry e ∧ s.eyes[e].state = .blocked ∧
    ∃ d ∈ s.activeLayout.eyes[e], d.jamTime ≠ 0 ∧ s.zones[d.zone].permit = true ∧
      τ = ⟨d.jamTime, s.eyes[e].jamElapsed⟩) ∨
  (∃ d : DiverterId, s.diverters[d].timer = some τ ∧
    (c = .strokeTimerExpiry d ∧ s.diverters[d].state = .extending ∨
      c = .dwellTimerExpiry d ∧ s.diverters[d].state = .holding ∨
      c = .returnTimerExpiry d ∧
        (s.diverters[d].state = .settling ∨ s.diverters[d].state = .retracting))) ∨
  (c = .interByteTimeout ∧ s.link.receiver ≠ .hunting ∧ s.link.interByte = some τ) ∨
  (c = .linkTimerExpiry ∧ s.link.up = true ∧ s.link.linkTimer = some τ) ∨
  (c = .resendTimerExpiry ∧ s.reports.resendTimer = some τ)

/-! ### Layouts -/

/-- R3, R60, R97, R137: every entry of a copy has its fields in range. -/
abbrev LayoutInRange (l : Layout) : Prop :=
  (∀ z : ZoneId, ∀ d ∈ l.zones[z], 64 ≤ d.length ∧ d.length ≤ 65535 ∧ d.entryOffset < d.length ∧
    d.entryOffset ≤ 255) ∧
  (∀ e : EyeId, ∀ d ∈ l.eyes[e], d.position ≤ 65534 ∧ 1 ≤ d.tolerance ∧ d.tolerance ≤ 255 ∧
    (d.jamTime = 0 ∨ 100 ≤ d.jamTime ∧ d.jamTime ≤ 30000)) ∧
  (∀ v : DiverterId, ∀ d ∈ l.diverters[v], d.firePosition ≤ 65534 ∧ d.lead ≤ 4095 ∧
    d.minimumGap ≤ 4095 ∧ 10 ≤ d.strokeTimeout ∧ d.strokeTimeout ≤ 2000 ∧ 10 ≤ d.dwell ∧
    d.dwell ≤ 5000 ∧ 10 ≤ d.returnTimeout ∧ d.returnTimeout ≤ 2000) ∧
  (8 ≤ l.line.minLength ∧ l.line.minLength ≤ 2000) ∧
  (16 ≤ l.line.maxLength ∧ l.line.maxLength ≤ 4095) ∧
  l.line.lengthTolerance ≤ 1000 ∧ (1 ≤ l.line.missLimit ∧ l.line.missLimit ≤ 3) ∧
  l.line.poolReserve ≤ 16

/-- Table 7-5, check 2: eye `e` lies in no defined zone, or not below its zone's length. -/
abbrev EyeOutside (l : Layout) (e : EyeId) : Prop :=
  ∃ d ∈ l.eyes[e], ∀ zone ∈ l.zones[d.zone], zone.length ≤ d.position

/-- Table 7-5, check 2: the same of diverter `v` and its fire position. -/
abbrev DiverterOutside (l : Layout) (v : DiverterId) : Prop :=
  ∃ d ∈ l.diverters[v], ∀ zone ∈ l.zones[d.zone], zone.length ≤ d.firePosition

/-- Section 3.2: eye `e` has role INDUCT. -/
abbrev IsInduct (l : Layout) (e : EyeId) : Prop := ∃ d ∈ l.eyes[e], d.role = .induct

/-- Table 7-5, check 6: the trigger point of diverter `v` lies below 0, or in zone 0 not beyond the
induction eye's position plus the maximum item length + 1. -/
abbrev TriggerTooNear (l : Layout) (v : DiverterId) : Prop :=
  ∃ d ∈ l.diverters[v], d.firePosition < d.lead ∨ d.zone = 0 ∧
    ∃ i : EyeId, ∃ eye ∈ l.eyes[i], eye.role = .induct ∧
      d.firePosition ≤ eye.position + l.line.maxLength + 1 + d.lead

/-- Table 7-5, check 6: the window of the CONFIRM eye `e` of zone 0 does not start beyond that. -/
abbrev WindowTooNear (l : Layout) (e : EyeId) : Prop :=
  ∃ d ∈ l.eyes[e], d.role = .confirm ∧ d.zone = 0 ∧
    ∃ i : EyeId, ∃ eye ∈ l.eyes[i], eye.role = .induct ∧
      d.position ≤ eye.position + l.line.maxLength + 1 + d.tolerance

/-- Table 7-5, check 7: eyes `a` and `b` of one zone have windows with a position in common. -/
abbrev WindowsShare (l : Layout) (a b : EyeId) : Prop :=
  ∃ d ∈ l.eyes[a], ∃ e ∈ l.eyes[b], d.zone = e.zone ∧
    d.position ≤ e.position + (d.tolerance + e.tolerance) ∧
    e.position ≤ d.position + (d.tolerance + e.tolerance)

/-- Table 7-5, check 8: the entry of code `c` names an undefined diverter, or one diverter twice. -/
abbrev DestinationWrong (l : Layout) (c : DestinationCode) : Prop :=
  (∃ d ∈ l.destinations[c].primary, l.diverters[d] = none) ∨
  (∃ d ∈ l.destinations[c].alternate, l.diverters[d] = none) ∨
  l.destinations[c].primary ≠ none ∧ l.destinations[c].primary = l.destinations[c].alternate

/-- Table 7-5, second column: the condition of check `n` holds of a layout. -/
def CheckHolds (l : Layout) : Nat → Prop
  | 1 => l.zones[(0 : ZoneId)].isSome = true ∧
      ∀ y z : ZoneId, y < z → l.zones[z].isSome = true → l.zones[y].isSome = true
  | 2 => (∀ e : EyeId, ¬ EyeOutside l e) ∧ ∀ v : DiverterId, ¬ DiverterOutside l v
  | 3 => ∃ i : EyeId, IsInduct l i ∧ (∀ e : EyeId, IsInduct l e → e = i) ∧
      ∀ d ∈ l.eyes[i], d.zone = 0
  | 4 => l.line.minLength < l.line.maxLength
  | 5 => ∀ i : EyeId, ∀ d ∈ l.eyes[i], d.role = .induct →
      ∃ zone ∈ l.zones[(0 : ZoneId)], d.position + l.line.maxLength + 1 < zone.length
  | 6 => (∀ v : DiverterId, ¬ TriggerTooNear l v) ∧ ∀ e : EyeId, ¬ WindowTooNear l e
  | 7 => ∀ a b : EyeId, a ≠ b → ¬ WindowsShare l a b
  | 8 => ∀ c : DestinationCode, ¬ DestinationWrong l c
  | 9 => ∀ c ∈ l.line.rejectDestination,
      l.destinations[c].primary ≠ none ∨ l.destinations[c].alternate ≠ none
  | _ => True

/-- `i` is the lowest number of which `P` holds. -/
abbrev Lowest {n : Nat} (P : Fin n → Prop) (i : Fin n) : Prop := P i ∧ ∀ j : Fin n, j < i → ¬ P j

/-- Table 7-5, third column: check `n` fails, and its offending entry has this kind and number. -/
def Offends (l : Layout) (kind : EntryKind) (number : Byte) : Nat → Prop
  | 1 => l.zones[(0 : ZoneId)] = none ∧ kind = .zone ∧ number = 0#8 ∨
      l.zones[(0 : ZoneId)] ≠ none ∧ ∃ z : ZoneId,
        Lowest (fun y => l.zones[y] ≠ none ∧ ∃ x : ZoneId, x.val + 1 = y.val ∧ l.zones[x] = none) z ∧
        kind = .zone ∧ number = BitVec.ofNat 8 z.val
  | 2 => (∃ e : EyeId, Lowest (EyeOutside l) e ∧ kind = .eye ∧ number = BitVec.ofNat 8 e.val) ∨
      (∀ e : EyeId, ¬ EyeOutside l e) ∧ ∃ v : DiverterId, Lowest (DiverterOutside l) v ∧
        kind = .diverter ∧ number = BitVec.ofNat 8 v.val
  | 3 => (∀ e : EyeId, ¬ IsInduct l e) ∧ kind = .line ∧ number = 0xFF#8 ∨
      (∃ a e : EyeId, Lowest (IsInduct l) a ∧ Lowest (fun f => a < f ∧ IsInduct l f) e ∧
        kind = .eye ∧ number = BitVec.ofNat 8 e.val) ∨
      ∃ e : EyeId, IsInduct l e ∧ (∀ f : EyeId, IsInduct l f → f = e) ∧
        (∃ d ∈ l.eyes[e], d.zone ≠ 0) ∧ kind = .eye ∧ number = BitVec.ofNat 8 e.val
  | 4 => l.line.maxLength ≤ l.line.minLength ∧ kind = .line ∧ number = 0xFF#8
  | 5 => ∃ i : EyeId, ∃ d ∈ l.eyes[i], d.role = .induct ∧
      (∀ zone ∈ l.zones[(0 : ZoneId)], zone.length ≤ d.position + l.line.maxLength + 1) ∧
      kind = .eye ∧ number = BitVec.ofNat 8 i.val
  | 6 => (∃ v : DiverterId, Lowest (TriggerTooNear l) v ∧
        kind = .diverter ∧ number = BitVec.ofNat 8 v.val) ∨
      (∀ v : DiverterId, ¬ TriggerTooNear l v) ∧ ∃ e : EyeId, Lowest (WindowTooNear l) e ∧
        kind = .eye ∧ number = BitVec.ofNat 8 e.val
  | 7 => ∃ e : EyeId, Lowest (fun f => ∃ b : EyeId, b < f ∧ WindowsShare l b f) e ∧
      kind = .eye ∧ number = BitVec.ofNat 8 e.val
  | 8 => ∃ c : DestinationCode, Lowest (DestinationWrong l) c ∧
      kind = .destination ∧ number = BitVec.ofNat 8 c.val
  | 9 => ∃ c ∈ l.line.rejectDestination,
      l.destinations[c].primary = none ∧ l.destinations[c].alternate = none ∧
      kind = .destination ∧ number = BitVec.ofNat 8 c.val
  | _ => False

/-- R142: check `n` is the first that fails, and its offending entry has this kind and number. -/
abbrev FirstFails (l : Layout) (n : Nat) (kind : EntryKind) (number : Byte) : Prop :=
  (∀ m : Nat, m < n → CheckHolds l m) ∧ Offends l kind number n

/-- R127, R142: a layout in force has passed validation, and in UNCONFIGURED the active copy is empty. -/
abbrev LayoutLaws (s : State) : Prop :=
  LayoutInRange s.pendingLayout ∧ LayoutInRange s.activeLayout ∧
  (s.module = .unconfigured → s.activeLayout = .empty) ∧
  (s.module ≠ .unconfigured → s.activeLayout.validate = none)

/-! ### Zones (R11 to R18) -/

/-- R15: some eye of zone `z` is JAMMED or JAM_HELD. -/
def State.zoneJammed (s : State) (z : ZoneId) : Bool :=
  allEyes.any fun e => s.eyes[e].state.holdsJam && s.activeLayout.eyes[e].any fun d => d.zone = z

/-- R11, R13, R15 to R18: each permit is on exactly while its set is empty, and each derived reason is
present exactly when its rule says. -/
abbrev HaltReasonLaws (s : State) : Prop :=
  (∀ z : ZoneId,
    s.zones[z].permit = s.zones[z].reasons.isEmpty ∧
    s.zones[z].reasons.stopped = !(decide (s.module = .tracking) && s.zoneDefined z) ∧
    s.zones[z].reasons.jam = s.zoneJammed z ∧
    s.zones[z].reasons.downstream = s.heldDownstream z ∧
    s.zones[z].reasons.poolLow =
      (decide (z = 0) && s.configured && decide (s.freeRecords < s.activeLayout.line.poolReserve)) ∧
    s.zones[z].reasons.link =
      (decide (z = 0) && !s.link.up && s.configured && s.activeLayout.line.infeedHold)) ∧
  s.pendingLayout.line.poolReserve ≤ 16 ∧ s.activeLayout.line.poolReserve ≤ 16

/-! ### Reports (R164 to R171) -/

/-- R165: the entries' numbers run consecutively, 0 skipped, up to the number before `next`. -/
def numberedTo (next : Nat) : List Entry → Bool
  | [] => true
  | [e] => next == numberAfter e.number
  | e :: f :: es => f.number == numberAfter e.number && numberedTo next (f :: es)

/-- R1, R164 to R171: the laws of the report queue. -/
abbrev ReportQueueLaws (s : State) : Prop :=
  s.reports.entries.length ≤ Config.reportCapacity ∧
  (∀ e ∈ s.reports.entries, 1 ≤ e.number ∧ e.number ≤ 65535 ∧ e.superseded ≤ 255) ∧
  (1 ≤ s.reports.nextNumber ∧ s.reports.nextNumber ≤ 65535) ∧
  numberedTo s.reports.nextNumber s.reports.entries = true ∧
  (∀ e ∈ s.reports.entries.take s.reports.outstanding, e.outstanding = true) ∧
  (∀ e ∈ s.reports.entries.drop s.reports.outstanding, e.outstanding = false) ∧
  s.reports.outstanding ≤ s.reports.entries.length ∧
  s.reports.outstanding ≤ s.link.settings.sendWindow ∧
  s.link.settings.sendWindow ≤ 8 ∧
  (s.link.up = false → s.reports.outstanding = 0) ∧
  (s.reports.resendTimer.isSome = true ↔ 1 ≤ s.reports.outstanding) ∧
  ∀ τ ∈ s.reports.resendTimer, τ.elapsed ≤ τ.duration + 1

/-! ### Records, claims and slots (R23, R28, R29, R86, R116) -/

/-- Every tag that the announce queue and the track lists hold (R28). -/
def State.heldTags (s : State) : List Nat :=
  s.announcements.map Announcement.tag ++ s.lineItems.map Item.tag

/-- R23, R28, R29, R36, R42, R86, R91, R116: the laws of records, tags, claims and stroke slots. -/
abbrev RecordLaws (s : State) : Prop :=
  s.freeRecords + s.lineItems.length = Config.itemRecords ∧
  s.heldTags.Nodup ∧
  (∀ a ∈ s.announcements, 1 ≤ a.tag ∧ a.tag ≤ Config.lastHostTag) ∧
  s.announcements.length ≤ Config.announceCapacity ∧
  (∀ i ∈ s.lineItems, 1 ≤ i.tag) ∧
  (∀ z : ZoneId, ∀ i ∈ s.zones[z].track, i.zone = z) ∧
  (Config.firstAnonymousTag ≤ s.nextAnonymous ∧ s.nextAnonymous ≤ Config.lastTag) ∧
  (∀ d : DiverterId, s.claims[d].Nodup) ∧
  (∀ d : DiverterId, s.diverters[d].state.inService = false → s.claims[d] = []) ∧
  (∀ d : DiverterId, ∀ t ∈ s.claims[d],
    ∃ i ∈ s.lineItems, i.tag = t ∧ i.state = .tracked ∧ i.assigned = some d) ∧
  (∀ i ∈ s.lineItems, i.state = .tracked → ∀ d ∈ i.assigned, i.tag ∈ s.claims[d]) ∧
  (∀ d : DiverterId, ∀ t ∈ s.diverters[d].slot, s.diverters[d].state = .extending ∧
    ∃ i ∈ s.lineItems, i.tag = t ∧ i.state = .diverting ∧ i.assigned = some d) ∧
  (∀ i ∈ s.lineItems, i.state = .diverting →
    ∃ d : DiverterId, i.assigned = some d ∧ s.diverters[d].slot = some i.tag)

/-- R29, R49: positions strictly decrease along a track list and lie below the zone's length, which is 0
for an undefined zone, and a span being measured has not reached the overlength bound. -/
abbrev TrackLaws (s : State) : Prop :=
  (∀ z : ZoneId,
    (s.zones[z].track.map s.position).Pairwise (fun p q => q < p) ∧
    ∀ i ∈ s.zones[z].track, s.position i < s.activeLayout.zoneLength z) ∧
  (s.span = .measuring → s.spanCount ≤ s.activeLayout.line.maxLength)

/-! ### Diverters and eyes -/

/-- R1, R99 to R105: what a diverter's state says of its home input, its timer, its test mark and its
definition. -/
abbrev DiverterLaws (s : State) : Prop :=
  ∀ d : DiverterId,
    (s.diverters[d].state = .undefined ↔ s.activeLayout.diverters[d] = none) ∧
    (s.diverters[d].state = .idle ∨ s.diverters[d].state = .extending → s.inputs.homes[d] = true) ∧
    (s.diverters[d].state = .settling ∨ s.diverters[d].state = .holding ∨
      s.diverters[d].state = .retracting → s.inputs.homes[d] = false) ∧
    (s.diverters[d].timer.isSome = true ↔
      s.diverters[d].state = .settling ∨ s.diverters[d].state = .extending ∨
      s.diverters[d].state = .holding ∨ s.diverters[d].state = .retracting) ∧
    (s.diverters[d].testMark = true →
      s.diverters[d].state = .extending ∨ s.diverters[d].state = .holding ∨
      s.diverters[d].state = .retracting) ∧
    ∀ τ ∈ s.diverters[d].timer, τ.elapsed ≤ τ.duration + 1

/-- R1, Table 4-2, R47, R64, R76: what an eye's state says of its input and definition, and what the span
state says of the induction eye. -/
abbrev EyeLaws (s : State) : Prop :=
  (∀ e : EyeId,
    (s.eyes[e].state = .undefined ↔ s.activeLayout.eyes[e] = none) ∧
    (s.eyes[e].state = .clear ∨ s.eyes[e].state = .jamHeld → s.eyeBlocked e = false) ∧
    (s.eyes[e].state = .blocked ∨ s.eyes[e].state = .jammed → s.eyeBlocked e = true) ∧
    (s.eyes[e].state ≠ .blocked → s.eyes[e].jamElapsed = 0) ∧
    (∀ d ∈ s.activeLayout.eyes[e], d.jamTime ≠ 0 → s.eyes[e].jamElapsed ≤ d.jamTime + 1) ∧
    (s.eyes[e].state = .disabled → ∀ d ∈ s.activeLayout.eyes[e], d.role = .confirm)) ∧
  ((∀ e ∈ s.activeLayout.inductionEye, s.eyeBlocked e = false) ↔ s.span = .idle)

/-! ### The link -/

/-- R150: what the receiver has collected is no whole frame and has no bad LENGTH byte. -/
def Receiver.collectsOn : Receiver → Bool
  | .hunting => true
  | .collecting buffer => decide (judge buffer = .incomplete)

/-- R1, R150, R157, R160, R162: the laws of the receiver, the link timer and the transmitter. -/
abbrev LinkLaws (s : State) : Prop :=
  s.link.receiver.collectsOn = true ∧
  (s.link.interByte.isSome = true ↔ s.link.receiver ≠ .hunting) ∧
  (∀ τ ∈ s.link.interByte, τ.elapsed ≤ τ.duration + 1) ∧
  (∀ τ ∈ s.link.linkTimer, τ.elapsed ≤ τ.duration + 1) ∧
  (s.link.linkTimer.isSome = true ↔ s.link.up = true ∧ s.link.settings.linkTimeout ≠ 0) ∧
  (s.link.transmitter = .free → s.link.slot = none ∧ s.sendable = none) ∧
  s.link.settings.inRange = true

/-! ### Tables 10-2, 10-3, 10-8 and 10-10

What the manual prints of the bytes sent, written out apart from the module's own codes, so that a
statement can say that the two agree. -/

/-- R180: a field of two bytes, the low byte first. -/
def sent2 (n : Nat) : List Byte := [BitVec.ofNat 8 n, BitVec.ofNat 8 (n / 256)]

/-- R180: a field of four bytes, the lowest first. -/
def sent4 (n : Counter) : List Byte := sent2 n.toNat ++ sent2 (n.toNat / 65536)

/-- A number, or FFh when absent. -/
def sentOr {n : Nat} (f : Option (Fin n)) : Byte := BitVec.ofNat 8 ((f.map Fin.val).getD 255)

/-- The reference, or FFFFh when absent. -/
def sentReference (r : Option (BitVec 16)) : List Byte := sent2 ((r.map BitVec.toNat).getD 65535)

/-- Table 10-3: a set as a byte, from its members' marks, bit 0 first. -/
def sentSet (marks : List Bool) : Byte :=
  BitVec.ofNat 8 (marks.foldr (fun b n => (if b then 1 else 0) + 2 * n) 0)

/-- Table 10-3: the halt-reason set. -/
def sentReasons (r : Reasons) : Byte :=
  sentSet [r.stopped, r.estop, r.jam, r.host, r.downstream, r.poolLow, r.link]

/-- Table 10-3: the item flags. -/
def sentFlags (f : Flags) : Byte :=
  sentSet [f.atRisk, f.lengthMismatch, f.overlength, f.unconfirmedDivert]

/-- Table 10-8: the item record, 20 bytes, of item `i` at position `p`. -/
def sentItem (i : Item) (p : Nat) : List Byte :=
  sent2 i.tag ++
  [match i.origin with | .announced => 0x00#8 | .anonymous => 0x01#8,
    sentSet [i.reference.isSome, i.expected.isSome]] ++
  sentReference i.reference ++
  [sentOr i.destination, sentOr i.requested, BitVec.ofNat 8 i.zone.val] ++
  sent2 p ++ sent2 i.length ++ sent2 (i.expected.getD 65535) ++
  [match i.state with | .tracked => 0x00#8 | .diverting => 0x01#8,
    sentOr i.assigned, sentOr i.nextEye, BitVec.ofNat 8 i.missRun, sentFlags i.flags]

/-- Table 10-8: the announcement, 8 bytes. -/
def sentAnnouncement (a : Announcement) : List Byte :=
  sent2 a.tag ++
  [BitVec.ofNat 8 a.destination.val, sentSet [a.reference.isSome, a.expected.isSome]] ++
  sent2 (a.expected.getD 65535) ++ sentReference a.reference

/-- Table 10-2: the module state. -/
def sentModuleState : ModuleState → Byte
  | .unconfigured => 0x00#8 | .standby => 0x01#8 | .tracking => 0x02#8

/-- Table 10-2: the MODULE_STATE cause. -/
def sentModuleCause : ModuleCause → Byte
  | .powerOn => 0x00#8 | .resetLine => 0x01#8 | .restart => 0x02#8 | .start => 0x03#8
  | .stop => 0x04#8 | .commit => 0x05#8

/-- Table 10-2: the diverter state. -/
def sentDiverterState : DiverterState → Byte
  | .undefined => 0x00#8 | .settling => 0x01#8 | .idle => 0x02#8 | .extending => 0x03#8
  | .holding => 0x04#8 | .retracting => 0x05#8 | .fault => 0x06#8 | .disabled => 0x07#8

/-- Table 10-2: the DIVERTER_CHANGE cause. -/
def sentDiverterCause : DiverterCause → Byte
  | .homed => 0x00#8 | .cleared => 0x01#8 | .testComplete => 0x02#8 | .noHome => 0x03#8
  | .homeLost => 0x04#8 | .strokeTimeout => 0x05#8 | .shortStroke => 0x06#8
  | .returnTimeout => 0x07#8

/-- Table 10-2: the MISSED_DIVERT cause. -/
def sentMissCause : MissCause → Byte
  | .notTracking => 0x00#8 | .estop => 0x01#8 | .busy => 0x02#8 | .tightGap => 0x03#8
  | .strokeFault => 0x04#8 | .disabled => 0x05#8

/-- Table 10-2: the LOST cause. -/
def sentLostCause : LostCause → Byte
  | .misses => 0x00#8 | .shadow => 0x01#8 | .transfer => 0x02#8

/-- Table 10-2: the eye role. -/
def sentRole : EyeRole → Byte
  | .induct => 0x00#8 | .confirm => 0x01#8

/-- Table 10-2: the eye sense. -/
def sentSense : EyeSense → Byte
  | .darkOn => 0x00#8 | .lightOn => 0x01#8

/-- Table 10-2: the eye state. -/
def sentEyeState : EyeState → Byte
  | .clear => 0x00#8 | .blocked => 0x01#8 | .jammed => 0x02#8 | .jamHeld => 0x03#8
  | .disabled => 0x04#8 | .undefined => 0x05#8

/-- Table 10-2: the entry kind. -/
def sentEntryKind : EntryKind → Byte
  | .zone => 0x00#8 | .eye => 0x01#8 | .diverter => 0x02#8 | .destination => 0x03#8
  | .line => 0x04#8

/-- Tables 10-5 and 10-10: a report's kind, and its fields after the superseded count. -/
def sentReport : Report → Byte × List Byte
  | .moduleState m c => (0x60#8, [sentModuleState m, sentModuleCause c])
  | .zoneChange z running set =>
    (0x61#8, [BitVec.ofNat 8 z.val, if running then 0x01#8 else 0x00#8, sentReasons set])
  | .jam e z jammed =>
    (0x62#8, [BitVec.ofNat 8 e.val, BitVec.ofNat 8 z.val, if jammed then 0x01#8 else 0x00#8])
  | .inducted tag o c d length f r =>
    (0x63#8, sent2 tag ++
      [match o with | .announced => 0x00#8 | .anonymous => 0x01#8, sentSet [r.isSome], sentOr c,
        sentOr d] ++ sent2 length ++ [sentFlags f] ++ sentReference r)
  | .untracked e => (0x64#8, [BitVec.ofNat 8 e.val])
  | .phantom e z => (0x65#8, [BitVec.ofNat 8 e.val, BitVec.ofNat 8 z.val])
  | .claimMoved tag old new => (0x66#8, sent2 tag ++ [BitVec.ofNat 8 old.val, sentOr new])
  | .missedDivert tag d c new =>
    (0x67#8, sent2 tag ++ [BitVec.ofNat 8 d.val, sentMissCause c, sentOr new])
  | .diverted tag d r =>
    (0x68#8, sent2 tag ++ [BitVec.ofNat 8 d.val, sentSet [r.isSome]] ++ sentReference r)
  | .exited tag f r => (0x69#8, sent2 tag ++ [sentFlags f, sentSet [r.isSome]] ++ sentReference r)
  | .lost tag z e c =>
    (0x6A#8, sent2 tag ++ [BitVec.ofNat 8 z.val, sentOr e, sentLostCause c])
  | .diverterChange d m c =>
    (0x6B#8, [BitVec.ofNat 8 d.val, sentDiverterState m, sentDiverterCause c])

/-! ### What a happening leaves

A statement about a command says what the command makes of the state `s`: an effect `u`, reports `rs`
posted in order, the zones settled and their changes reported last, and the transmitter's choice. -/

/-- The command has a next state, and that state is such a one. -/
abbrev Leads (c : Instr) (s : State) (such : State → Prop) : Prop :=
  ∃ t, exec c s = .next t ∧ such t

/-- Reports posted in order (R166, R167). -/
def State.postAll (rs : List Report) (s : State) : State := rs.foldl (fun t r => t.post r) s

/-- R12: the ZONE_CHANGE reports that a happening owes, most downstream zone first. -/
def zoneChanges (s t : State) : List Report :=
  ([3, 2, 1, 0] : List ZoneId).filterMap fun z =>
    if s.zones[z].permit = t.zones[z].permit then none
    else some (.zoneChange z t.zones[z].permit t.zones[z].reasons)

/-- R11, R16: every permit follows its set, and DOWNSTREAM is as derived. -/
abbrev Settled (t : State) : Prop :=
  ∀ z : ZoneId, t.zones[z].permit = t.zones[z].reasons.isEmpty ∧
    t.zones[z].reasons.downstream = t.heldDownstream z

/-- Zone by zone, `t` has the counts and the reasons of `u`, but for DOWNSTREAM, which is derived, and
LINK, which belongs to the link. -/
abbrev ReasonsAs (u t : State) : Prop :=
  ∀ z : ZoneId, t.zones[z].count = u.zones[z].count ∧
    { t.zones[z].reasons with
      downstream := u.zones[z].reasons.downstream, link := u.zones[z].reasons.link } =
    u.zones[z].reasons

/-- `t` and `u` are one, but for the link, the report queue, the zones and the counters. -/
abbrev SameElsewhere (u t : State) : Prop :=
  { t with link := u.link, reports := u.reports, zones := u.zones, counters := u.counters } = u

/-- All that a happening which finds `s`, has the effect `u` and posts `rs` leaves in `t`, but for the link
and the report queue. -/
abbrev LeavesElsewhere (s u t : State) (rs : List Report) : Prop :=
  SameElsewhere u t ∧ ReasonsAs u t ∧ (∀ z : ZoneId, t.zones[z].track = u.zones[z].track) ∧
  t.counters = (u.postAll (rs ++ zoneChanges s t)).counters ∧ Settled t

/-- A frame's happening that finds `s`, has the effect `u` and posts `rs` leaves `t`. Its reply goes ahead
of every report (R162), so the queue is just as the posts leave it, sent marks, outstanding count and resend
timer with it. -/
abbrev Brings (s u t : State) (rs : List Report) : Prop :=
  LeavesElsewhere s u t rs ∧ t.reports = (u.postAll (rs ++ zoneChanges s t)).reports

/-- R170, R182, R185: the frame of a report entry: the kind of Table 10-5, SEQ 0, and after the report number
and the superseded count the fields of Table 10-10. -/
def sentFrame (e : Entry) : Frame :=
  ⟨(sentReport e.report).1, 0x00#8,
    sent2 e.number ++ [BitVec.ofNat 8 e.superseded] ++ (sentReport e.report).2⟩

/-- R161, R162, R170, R171: the end of a happening finds the link `l` and the report queue `q`. A transmitter
that sends goes on, and nothing changes. A FREE one begins the reply in the slot; or else, with the link UP
and fewer reports OUTSTANDING than the window, the oldest UNSENT report, which becomes OUTSTANDING and
starts the resend timer if none was; or else nothing. -/
abbrev Transmits (l : HostLink) (q : ReportQueue) (t : State) : Prop :=
  let leaves : HostLink → ReportQueue → Prop := fun link reports => t.link = link ∧ t.reports = reports
  (l.transmitter ≠ .free → leaves l q) ∧
  (l.transmitter = .free →
    (∀ reply ∈ l.slot, leaves { l with slot := none, transmitter := .sending reply.bytes } q) ∧
    (l.slot = none → l.up = true → q.outstanding < l.settings.sendWindow →
      ∀ (sent rest : List Entry) (e : Entry), q.entries = sent ++ e :: rest →
      (∀ x ∈ sent, x.outstanding = true) → e.outstanding = false →
      leaves { l with transmitter := .sending (sentFrame e).bytes }
        ⟨sent ++ { e with outstanding := true } :: rest, q.nextNumber, q.outstanding + 1,
          if q.outstanding = 0 then some ⟨l.settings.resendTime, 0⟩ else q.resendTimer⟩) ∧
    (l.slot = none →
      (l.up = false ∨ l.settings.sendWindow ≤ q.outstanding ∨
        ∀ x ∈ q.entries, x.outstanding = true) →
      leaves l q))

/-- LINK is in zone after zone of `t` as it is of `u`, and the transmitter chooses over the link of `u` and
its queue with `rs` posted. -/
abbrev LinkAs (u t : State) (rs : List Report) : Prop :=
  (∀ z : ZoneId, t.zones[z].reasons.link = u.zones[z].reasons.link) ∧
  Transmits u.link (u.postAll rs).reports t

/-- A happening that is no frame, and finds `s`, has the effect `u` and posts `rs`, leaves `t`. -/
abbrev BringsAway (s u t : State) (rs : List Report) : Prop :=
  LeavesElsewhere s u t rs ∧ LinkAs u t (rs ++ zoneChanges s t)

/-- The command is a happening that is no frame, with the effect `u` and the reports `rs`. -/
abbrev Happens (c : Instr) (s u : State) (rs : List Report) : Prop :=
  Leads c s fun t => BringsAway s u t rs

/-! ### Requests -/

/-- The frame that a request command is the completion of. -/
def requestParts : Instr → Option Frame
  | .powerOn _ | .resetinActive | .resetinInactive _ | .encoderPulse _ | .estopChangeAtZones _
  | .estopChangeAtDiverters _ | .blockedEdge _ | .unblockedEdge _ | .homeActiveEdge _
  | .homeInactiveEdge _ | .jamTimerExpiry _ | .strokeTimerExpiry _ | .dwellTimerExpiry _
  | .returnTimerExpiry _ | .interByteTimeout | .frameDiscarded _ | .linkTimerExpiry
  | .resendTimerExpiry | .frameSent | .receivedByte _ => none
  | .badKindFrame kind seq body => some ⟨kind, seq, body⟩
  | .status seq body => some ⟨0x01#8, seq, body⟩
  | .identify seq body => some ⟨0x02#8, seq, body⟩
  | .setLink seq body => some ⟨0x03#8, seq, body⟩
  | .reportAck seq body => some ⟨0x04#8, seq, body⟩
  | .restart seq body => some ⟨0x05#8, seq, body⟩
  | .start seq body => some ⟨0x06#8, seq, body⟩
  | .stop seq body => some ⟨0x07#8, seq, body⟩
  | .defineZone seq body => some ⟨0x10#8, seq, body⟩
  | .defineEye seq body => some ⟨0x11#8, seq, body⟩
  | .defineDiverter seq body => some ⟨0x12#8, seq, body⟩
  | .defineDestination seq body => some ⟨0x13#8, seq, body⟩
  | .undefine seq body => some ⟨0x14#8, seq, body⟩
  | .setLine seq body => some ⟨0x15#8, seq, body⟩
  | .clearPending seq body => some ⟨0x16#8, seq, body⟩
  | .copyActive seq body => some ⟨0x17#8, seq, body⟩
  | .readLayout seq body => some ⟨0x18#8, seq, body⟩
  | .commitLayout seq body => some ⟨0x19#8, seq, body⟩
  | .announce seq body => some ⟨0x20#8, seq, body⟩
  | .withdraw seq body => some ⟨0x21#8, seq, body⟩
  | .queryItem seq body => some ⟨0x22#8, seq, body⟩
  | .listZone seq body => some ⟨0x23#8, seq, body⟩
  | .purge seq body => some ⟨0x24#8, seq, body⟩
  | .reroute seq body => some ⟨0x25#8, seq, body⟩
  | .haltZone seq body => some ⟨0x28#8, seq, body⟩
  | .resumeZone seq body => some ⟨0x29#8, seq, body⟩
  | .disableEye seq body => some ⟨0x2A#8, seq, body⟩
  | .enableEye seq body => some ⟨0x2B#8, seq, body⟩
  | .testDiverter seq body => some ⟨0x30#8, seq, body⟩
  | .disableDiverter seq body => some ⟨0x31#8, seq, body⟩
  | .enableDiverter seq body => some ⟨0x32#8, seq, body⟩
  | .clearDiverterFault seq body => some ⟨0x33#8, seq, body⟩

/-- Table 10-6, R183: the body has a length that its kind allows. -/
def bodyAllowed (kind : Byte) (body : List Byte) : Bool :=
  match kind.toNat with
  | 0x01 | 0x02 | 0x05 | 0x06 | 0x07 | 0x16 | 0x17 | 0x19 => body.length == 0
  | 0x28 | 0x29 | 0x2A | 0x2B | 0x30 | 0x31 | 0x32 | 0x33 => body.length == 1
  | 0x04 | 0x14 | 0x21 | 0x22 | 0x23 | 0x24 => body.length == 2
  | 0x13 | 0x18 | 0x25 => body.length == 3
  | 0x10 => body.length == 4
  | 0x03 => body.length == 5
  | 0x11 => body.length == 9
  | 0x15 => body.length == 10
  | 0x12 => body.length == 14
  | 0x20 =>
    match body[3]? with
    | some p =>
      decide (p.toNat < 4) &&
        body.length == 4 + (if p.getLsbD 1 then 2 else 0) + (if p.getLsbD 0 then 2 else 0)
    | none => false
  | _ => false

/-- R154 steps 2 and 3 let a request with this SEQ through to its execution. -/
abbrev FreshRequest (s : State) (seq : Byte) : Prop :=
  s.resetActive = false ∧ s.link.slot = none ∧ ∀ reply ∈ s.link.cache, reply.seq ≠ seq

/-- A request that has the effect `u` and posts `rs`, answered with `reply`. -/
abbrev Takes (c : Instr) (s u : State) (rs : List Report) (reply : Frame) : Prop :=
  Leads c s fun t => Brings s u t rs ∧ t.link.cache = some reply

/-- Commands executed one after another, as long as each has a next state. -/
def execAll : List Instr → State → Host.Outcome State Fault Refusal
  | [], s => .next s
  | c :: cs, s =>
    match exec c s with
    | .next t => execAll cs t
    | .fault r => .fault r
    | .refused r => .refused r

/-! ### Records, claims and positions that a happening changes -/

/-- R34: the state without the record of a tag, nor its claim nor its place in a stroke slot. POOL_LOW
follows the free count. -/
def State.without (s : State) (tag : Nat) : State :=
  { s with
    zones := Vector.ofFn fun z =>
      { s.zones[z] with
        reasons := { s.zones[z].reasons with
          poolLow := if z = 0 then
              decide (s.module ≠ .unconfigured ∧ s.freeRecords + 1 < s.activeLayout.line.poolReserve)
            else s.zones[z].reasons.poolLow }
        track := s.zones[z].track.filter fun i => i.tag != tag }
    claims := s.claims.map fun list => list.filter fun t => t != tag
    diverters := s.diverters.map fun d =>
      { d with slot := if d.slot = some tag then none else d.slot }
    freeRecords := s.freeRecords + 1 }

/-- One zone's track list written. -/
def State.withTrack (s : State) (z : ZoneId) (track : List Item) : State :=
  { s with zones := s.zones.set z { s.zones[z] with track := track } }

/-- R5: where item `i` of zone `z` stands. -/
def State.place (s : State) (z : ZoneId) (i : Item) : Nat := (s.zones[z].count - i.base).toNat

/-- R87: item `a` precedes item `b` in line order. -/
abbrev State.before (s : State) (a b : Item) : Prop :=
  b.zone < a.zone ∨ a.zone = b.zone ∧ s.place b.zone b < s.place a.zone a

/-- R87: `lists` are the claim lists of `s` with item `i` claiming `new`, in its line-order place, and
no other diverter. -/
abbrev ClaimsWith (s : State) (i : Item) (new : Option DiverterId)
    (lists : Vector (List Nat) 16) : Prop :=
  ∀ d : DiverterId,
    (new ≠ some d → lists[d] = s.claims[d].filter fun t => t != i.tag) ∧
    (new = some d → i.tag ∈ s.claims[d] → lists[d] = s.claims[d]) ∧
    (new = some d → i.tag ∉ s.claims[d] → ∃ k : Fin (s.claims[d].length + 1),
      lists[d] = s.claims[d].take k ++ i.tag :: s.claims[d].drop k ∧
      (∀ j ∈ s.lineItems, j.tag ∈ s.claims[d].take k → ¬ s.before i j) ∧
      (∀ j ∈ s.lineItems, (s.claims[d].drop k).head? = some j.tag → s.before i j))

/-- R86: claim lists are in line order, and each item of one lies upstream of the diverter's trigger
point. -/
abbrev ClaimOrder (s : State) : Prop :=
  ∀ d : DiverterId,
    s.claims[d].Pairwise (fun t u =>
      ∀ i ∈ s.lineItems, ∀ j ∈ s.lineItems, i.tag = t → j.tag = u → s.before i j) ∧
    ∀ i ∈ s.lineItems, i.tag ∈ s.claims[d] →
      ∃ v ∈ s.activeLayout.diverters[d],
        i.zone < v.zone ∨ i.zone = v.zone ∧ s.place i.zone i + v.lead < v.firePosition

/-- R4, R6, R49: the state with a pulse of zone `z` counted, and into the span if one is measured. -/
def State.pulsed (s : State) (z : ZoneId) : State :=
  { s with
    zones := s.zones.set z { s.zones[z] with count := s.zones[z].count + 1 }
    spanCount := if z = 0 ∧ s.span = .measuring then s.spanCount + 1 else s.spanCount }

/-- R6, R60: position `p` of zone `z` is one past the window of eye `e`. -/
abbrev EyeEndsAt (l : Layout) (z : ZoneId) (p : Nat) (e : EyeId) : Prop :=
  ∃ d ∈ l.eyes[e], d.zone = z ∧ p = d.position + d.tolerance + 1

/-- R6, R97: the trigger point of diverter `v` is position `p` of zone `z`. -/
abbrev TriggersAt (l : Layout) (z : ZoneId) (p : Nat) (v : DiverterId) : Prop :=
  ∃ d ∈ l.diverters[v], d.zone = z ∧ p + d.lead = d.firePosition

/-- Table 6-2, last two rows: item `i` may reach the trigger point of diverter `v` and nothing comes of
it. -/
abbrev State.passesBy (s : State) (i : Item) (v : DiverterId) : Prop :=
  i.state = .diverting ∨ i.tag ∉ s.claims[v] ∧ s.diverters[v].state.driven = false

/-- R6, R72, Table 6-2: nothing comes of item `i` at position `p` of zone `z`: that is not the zone's
length, nor the end of the window of the item's own next eye, nor a trigger point that it does not pass
by. -/
abbrev NothingAt (s : State) (z : ZoneId) (p : Nat) (i : Item) : Prop :=
  p ≠ s.activeLayout.zoneLength z ∧ (∀ e ∈ i.nextEye, ¬ EyeEndsAt s.activeLayout z p e) ∧
  ∀ v : DiverterId, TriggersAt s.activeLayout z p v → s.passesBy i v

/-- R6, R49: a pulse of zone `z` brings nothing about for these items, and does not bring the span to its
bound. -/
abbrev QuietFor (s : State) (z : ZoneId) (items : List Item) : Prop :=
  (∀ i ∈ items, NothingAt s z ((s.pulsed z).place z i) i) ∧
  (z = 0 → s.span = .measuring → s.spanCount ≠ s.activeLayout.line.maxLength)

/-! ### What becomes of an item at a point

Each relation says that item `i` of zone `z`, between `ahead` and `behind` in the zone's track list, has
come to a point in the state `s`, that `w` is what becomes of the state there, and that the reports `rs`
are posted for it. -/

/-- R98, R110 to R114, Tables 6-2 and 6-6: item `i` at the trigger point of diverter `d`. The head of the
claim list is fired for or missed. Another TRACKED item, in no claim list of `d`, is shadowed by an
extended diverter. Nothing comes of it otherwise. -/
def TriggerMet (s : State) (z : ZoneId) (ahead behind : List Item) (i : Item) (d : DiverterId)
    (v : DiverterDef) (w : State) (rs : List Report) : Prop :=
  let p := s.place z i
  let tight : Prop := ∃ j ∈ behind.head?, (p : Int) - i.length - s.place z j < (v.minimumGap : Int)
  let cause : MissCause :=
    if s.module ≠ .tracking then .notTracking else if s.inputs.estop then .estop
    else if s.diverters[d].state ≠ .idle then .busy else .tightGap
  let fires : Prop := s.module = .tracking ∧ s.inputs.estop = false ∧
    s.diverters[d].state = .idle ∧ ¬ tight
  let struck : Item → Item := fun j =>
    if (s.place z j : Int) - j.length < (v.firePosition : Int) then j.markAtRisk else j
  let left := s.claims.set d (s.claims[d].filter fun t => t != i.tag)
  let head := i.state = .tracked ∧ s.claims[d].head? = some i.tag
  (head → fires → rs = [] ∧
    w = { s.withTrack z (ahead.dropLast ++ ahead.getLast?.toList.map struck ++
              { i with state := .diverting } :: behind) with
          claims := left
          diverters := s.diverters.set d { s.diverters[d] with
            state := .extending, timer := some ⟨v.strokeTimeout, 0⟩, slot := some i.tag } }) ∧
  (head → ¬ fires →
    let new := s.assignment i (some d)
    let j := if cause = .busy then i.markAtRisk else i
    rs = [.missedDivert i.tag d cause new] ∧
    w = { s.withTrack z (ahead ++ { j with assigned := new } :: behind) with claims := w.claims } ∧
    ClaimsWith { s with claims := left } i new w.claims) ∧
  (i.state = .tracked → i.tag ∉ s.claims[d] → s.diverters[d].state.driven = true →
    rs = [] ∧ w = s.withTrack z (ahead ++ i.markAtRisk :: behind)) ∧
  (s.passesBy i d ∨ i.tag ∈ s.claims[d] ∧ s.claims[d].head? ≠ some i.tag → rs = [] ∧ w = s)

/-- R72, R73: item `i` at the end of the window of eye `e`. Only its next eye counts. A DIVERTING item and
a DISABLED eye are passed silently; otherwise the item misses, and is lost if it is AT_RISK or at the
miss limit. -/
def WindowMet (s : State) (z : ZoneId) (ahead behind : List Item) (i : Item) (e : EyeId)
    (w : State) (rs : List Report) : Prop :=
  let silent : Prop := i.state = .diverting ∨ s.eyes[e].state = .disabled
  let lost : Prop := i.flags.atRisk = true ∨ s.activeLayout.line.missLimit ≤ i.missRun + 1
  let passed : Item := { i with nextEye := s.activeLayout.eyeFollowing e }
  (i.nextEye ≠ some e → rs = [] ∧ w = s) ∧
  (i.nextEye = some e → silent → rs = [] ∧ w = s.withTrack z (ahead ++ passed :: behind)) ∧
  (i.nextEye = some e → ¬ silent → ¬ lost → rs = [] ∧
    w = s.withTrack z (ahead ++ { passed with missRun := i.missRun + 1 } :: behind)) ∧
  (i.nextEye = some e → ¬ silent → lost →
    rs = [.lost i.tag z (some e) (if i.flags.atRisk then .shadow else .misses)] ∧
    w = { s.without i.tag with counters := { s.counters with lost := s.counters.lost + 1 } })

/-- A point that an item passes: the end of an eye's window, or a diverter's trigger point. -/
inductive PassedPoint where
  | windowEnd (e : EyeId)
  | trigger (v : DiverterId)
  deriving DecidableEq, Repr

/-- R6, R60, R97: where a point of zone `z` lies. The end of a window at or beyond the zone's length is
dealt with as the item leaves the zone (R74). -/
def pointIn (l : Layout) (z : ZoneId) : PassedPoint → Option Int
  | .windowEnd e => (l.eyes[e].filter fun d =>
      decide (d.zone = z ∧ d.position + d.tolerance + 1 < l.zoneLength z)).map fun d =>
        (d.position : Int) + d.tolerance + 1
  | .trigger v => (l.diverters[v].filter fun d => decide (d.zone = z)).map fun d =>
      (d.firePosition : Int) - d.lead

/-- R7: `pts` are the points of zone `z` above `low` and at or below `high`, lowest first. Points at one
position stand in either order (R115, R186). -/
abbrev PointsBetween (l : Layout) (z : ZoneId) (low high : Int) (pts : List PassedPoint) : Prop :=
  pts.Nodup ∧
  (∀ e : EyeId,
    .windowEnd e ∈ pts ↔ ∃ q ∈ pointIn l z (.windowEnd e), low < q ∧ q ≤ high) ∧
  (∀ v : DiverterId, .trigger v ∈ pts ↔ ∃ q ∈ pointIn l z (.trigger v), low < q ∧ q ≤ high) ∧
  pts.Pairwise fun a b => ∀ p ∈ pointIn l z a, ∀ q ∈ pointIn l z b, p ≤ q

/-! ### Leaving a zone with a window still open (R10, R74) -/

/-- R61, R74: `eyes` are the eyes from `next` on, in line order, of which `P` holds, and `after` is the first
of which it does not. -/
def EyesWhile (l : Layout) (P : EyeDef → Prop) : Option EyeId → List EyeId → Option EyeId → Prop
  | next, [], after => after = next ∧ ∀ e ∈ next, ∀ d ∈ l.eyes[e], ¬ P d
  | next, e :: eyes, after => next = some e ∧ (∃ d ∈ l.eyes[e], P d) ∧
      EyesWhile l P (l.eyeFollowing e) eyes after

/-- R61, R74: `eyes` are the eyes of zone `z` from `next` on, in line order, and `after` follows them. -/
abbrev EyesStillDue (l : Layout) (z : ZoneId) (next : Option EyeId) (eyes : List EyeId)
    (after : Option EyeId) : Prop :=
  EyesWhile l (fun d => d.zone = z) next eyes after

/-- R72, R74: the eyes of these at which item `i` misses as it leaves its zone. -/
def State.openFor (s : State) (i : Item) (eyes : List EyeId) : List EyeId :=
  if i.state = .diverting then [] else eyes.filter fun e => s.eyes[e].state != .disabled

/-- R73: item `i` is still tracked after `n` misses. -/
abbrev State.outlasts (s : State) (i : Item) (n : Nat) : Prop :=
  n = 0 ∨ i.flags.atRisk = false ∧ i.missRun + n < s.activeLayout.line.missLimit

/-- R188: item `i`, which leaves zone `z` in the state `s`, was returned from a failed stroke since the pulse
before, and is transferred: its transfer meets its return (the model's choice, log entry 25). -/
abbrev MeetsReturn (s : State) (z : ZoneId) (i : Item) : Prop :=
  i.returnedAt = some (s.zones[z].count - 1) ∧
  ∃ y : ZoneId, y.val = z.val + 1 ∧ s.activeLayout.zones[y].isSome = true ∧
    s.zones[y].track.getLast?.map (s.place y) ≠ some 0

/-- R72, R188: `k` with the next eye that a transfer to position `q` of zone `y` leaves an item due at the
eye `after`. Where the transfer meets the item's return, the windows that end at or below `q` are passed,
and the item counts as returned where it is placed. -/
def CarriesOn (s : State) (y : ZoneId) (q : Nat) (meets : Prop) (after : Option EyeId) (k j : Item) : Prop :=
  (¬ meets → j = { k with nextEye := after, returnedAt := none }) ∧
  (meets → ∃ (passed : List EyeId) (beyond : Option EyeId),
    EyesWhile s.activeLayout (fun d => d.zone = y ∧ d.position + d.tolerance + 1 ≤ q) after passed beyond ∧
    j = { k with nextEye := beyond, returnedAt := some s.zones[y].count })

/-! ### Leaving the zone, and the induction of an overlength item -/

/-- R8 to R10, R31, R32, R72 to R74: item `i`, the head of zone `z` and ahead of `behind` there, leaves the
zone in the state `s`, with the reports `rs` and the state `w`. Its windows still open in the zone are ended
first, in line order, and it is lost at the first at which it does not outlast the miss. Otherwise it exits
off the last zone, or joins the tail of the next at the entry offset, or one behind the tail there with
AT_RISK, or is lost behind a tail at 0. The item whose transfer meets its return passes its windows silently
(R188). -/
def LeavesZone (s : State) (z : ZoneId) (behind : List Item) (i : Item) (w : State)
    (rs : List Report) : Prop :=
  ∃ (eyes : List EyeId) (after : Option EyeId), EyesStillDue s.activeLayout z i.nextEye eyes after ∧
  let meets := MeetsReturn s z i
  let missed := if meets then [] else s.openFor i eyes
  let lost : State := { s.without i.tag with counters := { s.counters with lost := s.counters.lost + 1 } }
  let j : Item := { i with missRun := i.missRun + missed.length }
  (∀ (before rest : List EyeId) (e : EyeId), missed = before ++ e :: rest →
    s.outlasts i before.length → ¬ s.outlasts i (before.length + 1) →
    rs = [.lost i.tag z (some e) (if i.flags.atRisk then .shadow else .misses)] ∧ w = lost) ∧
  (s.outlasts i missed.length →
    ((∀ y : ZoneId, y.val = z.val + 1 → s.activeLayout.zones[y] = none) →
      rs = [.exited i.tag
        { i.flags with unconfirmedDivert := i.flags.unconfirmedDivert || i.state == .diverting }
        i.reference] ∧
      w = { s.without i.tag with counters := { s.counters with exited := s.counters.exited + 1 } }) ∧
    ∀ (y : ZoneId) (def_ : ZoneDef), y.val = z.val + 1 → s.activeLayout.zones[y] = some def_ →
      let joins : Nat → Item → Prop := fun q k => ∃ m : Item, CarriesOn s y q meets after k m ∧
        rs = [] ∧
        w = (s.withTrack z behind).withTrack y (s.zones[y].track ++
          [{ m with zone := y, base := s.zones[y].count - BitVec.ofNat 24 q }])
      let tail := s.zones[y].track.getLast?.map (s.place y)
      ((∀ q ∈ tail, def_.entryOffset < q) → joins def_.entryOffset j) ∧
      (∀ q ∈ tail, 1 ≤ q → q ≤ def_.entryOffset → joins (q - 1) j.markAtRisk) ∧
      (tail = some 0 → rs = [.lost i.tag y none .transfer] ∧ w = lost))

/-- R36: the `n`-th anonymous tag from the next one on, round from 65,535 to 61,440. -/
def State.anonymousTag (s : State) (n : Nat) : Nat := 61440 + (s.nextAnonymous - 61440 + n) % 4096

/-- R24, R53, R55: the record of an item of a measured length at induction eye `e` with definition `d`, the
`k`-th anonymous tag its own if no announcement waits. -/
def State.inductedItem (b : State) (e : EyeId) (d : EyeDef) (length : Nat) (overlength : Bool) (k : Nat) :
    Item :=
  let line := b.activeLayout.line
  let taken := b.announcements.head?
  let differs := (taken.bind Announcement.expected).any fun x =>
    decide (x + line.lengthTolerance < length ∨ length + line.lengthTolerance < x)
  { tag := (taken.map Announcement.tag).getD (b.anonymousTag k)
    origin := if taken.isSome then .announced else .anonymous
    reference := taken.bind Announcement.reference
    destination :=
      if overlength || differs || taken.isNone then line.rejectDestination
      else taken.map Announcement.destination
    requested := taken.map Announcement.destination
    zone := 0
    base := b.zones[(0 : ZoneId)].count - BitVec.ofNat 24 (d.position + length)
    length := length
    expected := taken.bind Announcement.expected
    state := .tracked, assigned := none
    nextEye := b.activeLayout.eyeFollowing e
    missRun := 0, returnedAt := none
    flags := ⟨false, differs, overlength, false⟩ }

/-- R37, R52 to R56: `b` with `item` inducted at the tail of zone 0 and of the claim list of the diverter
assigned to it. -/
def State.withInduction (b : State) (item : Item) (k : Nat) : State :=
  let new := b.assignment item none
  let zone := b.zones[(0 : ZoneId)]
  { b with
    freeRecords := b.freeRecords - 1
    announcements := b.announcements.tail
    nextAnonymous := if b.announcements.isEmpty then b.anonymousTag (k + 1) else b.nextAnonymous
    zones := b.zones.set 0 { zone with
      reasons := { zone.reasons with
        poolLow := decide (b.freeRecords - 1 < b.activeLayout.line.poolReserve) }
      track := zone.track ++ [{ item with assigned := new }] }
    claims := Vector.ofFn fun v => if new = some v then b.claims[v] ++ [item.tag] else b.claims[v]
    counters := { b.counters with inducted := b.counters.inducted + 1 } }

/-- R56: the INDUCTED report of `item` in the state `b`. -/
def State.inductedReport (b : State) (item : Item) : Report :=
  .inducted item.tag item.origin item.destination (b.assignment item none) item.length item.flags
    item.reference

/-- R49, R52 to R56: the overlength induction that a pulse brings about in the state `s`. -/
def OverlengthMet (s w : State) (rs : List Report) : Prop :=
  let b : State := { s with span := .passed, spanCount := 0 }
  ∃ (e : EyeId) (d : EyeDef), s.activeLayout.eyes[e] = some d ∧ d.role = .induct ∧
    (s.freeRecords = 0 → rs = [.untracked e] ∧ w = b) ∧
    (1 ≤ s.freeRecords → ∃ k : Nat,
      (∀ n < k, ∃ i ∈ s.lineItems, i.tag = s.anonymousTag n) ∧
      (∀ i ∈ s.lineItems, i.tag ≠ s.anonymousTag k) ∧
      let item := b.inductedItem e d (s.activeLayout.line.maxLength + 1) true k
      rs = [b.inductedReport item] ∧ w = b.withInduction item k)

/-! ### Crossings that fall together (R6, R7, R58, R115, R186, R187) -/

/-- What a happening may bring about for an item of a zone, or for the span: an item's coming to a point, its
coming to the zone's end, or the overlength induction. -/
inductive Met where
  | point (z : ZoneId) (tag : Nat) (pt : PassedPoint)
  | zoneEnd (z : ZoneId) (tag : Nat)
  | overlength
  deriving DecidableEq, Repr

/-- What the state `s` becomes, with the reports `rs`, as one of these is taken whole. An item that has been
released comes to nothing more (R35). -/
def MetOnce (s : State) (c : Met) (w : State) (rs : List Report) : Prop :=
  match c with
  | .point z tag pt =>
    (∀ (ahead behind : List Item) (i : Item), s.zones[z].track = ahead ++ i :: behind → i.tag = tag →
      match pt with
      | .windowEnd e => WindowMet s z ahead behind i e w rs
      | .trigger d => ∀ v ∈ s.activeLayout.diverters[d], TriggerMet s z ahead behind i d v w rs) ∧
    ((∀ i ∈ s.zones[z].track, i.tag ≠ tag) → rs = [] ∧ w = s)
  | .zoneEnd z tag =>
    (∀ (behind : List Item) (i : Item), s.zones[z].track = i :: behind → i.tag = tag →
      LeavesZone s z behind i w rs) ∧
    ((∀ i ∈ s.zones[z].track.head?, i.tag ≠ tag) → rs = [] ∧ w = s)
  | .overlength => OverlengthMet s w rs

/-- These, taken one after another, make `w` of `s` and post `rs`. -/
def MetInTurn : List Met → State → State → List Report → Prop
  | [], s, w, rs => rs = [] ∧ w = s
  | c :: cs, s, w, rs => ∃ (m : State) (first later : List Report), rs = first ++ later ∧
      MetOnce s c m first ∧ MetInTurn cs m w later

/-- R7: a happening that finds `s` carries the item with this tag to its place in zone `z` in the state
`placed`, from above `low` to `high`, and leaves `t` when the item has come to the points between. The
count of free choices is the model's own (log entry 2). -/
abbrev CarriedPast (s placed t : State) (z : ZoneId) (tag : Nat) (low high : Int) : Prop :=
  ∃ (pts : List PassedPoint) (w : State) (rs : List Report),
    PointsBetween s.activeLayout z low high pts ∧
    MetInTurn (pts.map fun pt => .point z tag pt) placed w rs ∧
    BringsAway s { w with freeIndex := t.freeIndex } t rs

/-- R6: `reached` are the points at which the items of zone `z` stand in the state `s`, each once and in
any order. -/
abbrev PointsReached (s : State) (z : ZoneId) (reached : List (Nat × PassedPoint)) : Prop :=
  let standsAt : Item → PassedPoint → Prop := fun i pt =>
    pointIn s.activeLayout z pt = some (s.place z i : Int)
  reached.Nodup ∧
  (∀ r ∈ reached, ∃ i ∈ s.zones[z].track, i.tag = r.1 ∧ standsAt i r.2) ∧
  ∀ i ∈ s.zones[z].track,
    (∀ e : EyeId, standsAt i (.windowEnd e) → (i.tag, .windowEnd e) ∈ reached) ∧
    ∀ v : DiverterId, standsAt i (.trigger v) → (i.tag, .trigger v) ∈ reached

/-- R7, R8, R31: `entered` are the points of the next zone to which an item comes that leaves zone `z` in the
state `s`, lowest first. -/
abbrev PointsEntered (s : State) (z y : ZoneId) (entered : List PassedPoint) : Prop :=
  let offset := (s.activeLayout.zones[y].map ZoneDef.entryOffset).getD 0
  let tail := s.zones[y].track.getLast?.map (s.place y)
  if y.val = z.val + 1 ∧ s.activeLayout.zones[y].isSome = true ∧ tail ≠ some 0 then
    PointsBetween s.activeLayout y (-1)
      (if tail.any fun q => decide (q ≤ offset) then (tail.getD 0 : Int) - 1 else offset) entered
  else entered = []

/-- R6, R7, R49: what a pulse of zone `z`, counted in the state `u`, brings about, in an order that the
manual leaves open: the items' coming to the points at which they stand; the head's coming to the zone's
end, and then to the points of the next zone, lowest first; and the overlength induction. -/
abbrev PulseMeets (u : State) (z : ZoneId) (order : List Met) : Prop :=
  ∃ (reached : List (Nat × PassedPoint)) (leaving : List Met), PointsReached u z reached ∧
    (∀ i ∈ u.zones[z].track.head?, u.place z i = u.activeLayout.zoneLength z →
      ∃ (y : ZoneId) (entered : List PassedPoint), PointsEntered u z y entered ∧
        (z.val < 3 → y.val = z.val + 1) ∧
        leaving = .zoneEnd z i.tag :: entered.map fun pt => .point y i.tag pt) ∧
    ((∀ i ∈ u.zones[z].track.head?, u.place z i ≠ u.activeLayout.zoneLength z) → leaving = []) ∧
    leaving.Sublist order ∧
    order.Perm (leaving ++ (reached.map fun r => .point z r.1 r.2) ++
      if z = 0 ∧ u.span = .measuring ∧ u.spanCount = u.activeLayout.line.maxLength + 1 then [.overlength]
      else [])

/-! ### Diverters that leave service -/

/-- R85, R117: the assignment that an item gets when diverter `d` has gone to `state`. -/
def State.assignmentWithout (s : State) (d : DiverterId) (state : DiverterState) (i : Item) :
    Option DiverterId :=
  { s with diverters := s.diverters.set d ⟨state, none, none, false⟩ }.assignment i (some d)

/-- The reports of a diverter that leaves service: `first`, the MISSED_DIVERT of its slot's item, the
CLAIM_MOVED of its claims, head first, and the changes of permit (R108). -/
def leavingReports (s t : State) (d : DiverterId) (state : DiverterState) (cause : MissCause)
    (first : List Report) : List Report :=
  first ++
    (s.diverters[d].slot.toList.map fun tag => .missedDivert tag d cause
      ((s.findItem tag).bind (s.assignmentWithout d state))) ++
    (s.claims[d].map fun tag => .claimMoved tag d
      ((s.findItem tag).bind (s.assignmentWithout d state))) ++
    zoneChanges s t

/-- R91, R107, R117, R121: diverter `d` leaves for FAULT or DISABLED. Its slot's item is returned with
`cause` and assigned from where it stands, its claims are moved, head first, and the reports follow `first`
in that order. That the record keeps the count at which it is returned is the model's (log entry 25). -/
abbrev LeavesService (s t : State) (d : DiverterId) (state : DiverterState) (cause : MissCause)
    (first : List Report) : Prop :=
  let returned := s.diverters[d].slot.toList
  let moved := s.claims[d]
  let new : Nat → Option DiverterId := fun tag => (s.findItem tag).bind (s.assignmentWithout d state)
  { t with link := s.link, reports := s.reports, zones := s.zones, counters := s.counters,
           claims := s.claims, diverters := s.diverters } = s ∧
  t.diverters = s.diverters.set d ⟨state, none, none, false⟩ ∧
  t.claims[d] = [] ∧
  (∀ v : DiverterId, v ≠ d →
    (t.claims[v].filter fun tag => !(returned ++ moved).contains tag) = s.claims[v]) ∧
  (∀ v : DiverterId, ∀ tag ∈ returned ++ moved, (tag ∈ t.claims[v] ↔ new tag = some v)) ∧
  ReasonsAs s t ∧
  (∀ z : ZoneId, t.zones[z].track = s.zones[z].track.map fun i =>
    if returned.contains i.tag then
      { i.markAtRisk with
        state := .tracked, returnedAt := some s.zones[z].count, assigned := new i.tag }
    else if moved.contains i.tag then { i with assigned := new i.tag }
    else i) ∧
  t.counters = (s.postAll (leavingReports s t d state cause first)).counters ∧
  Settled t

/-- R107: diverter `d` enters FAULT in a happening that is no frame. -/
abbrev FaultsAway (s t : State) (d : DiverterId) (cause : DiverterCause) : Prop :=
  let first : List Report := [.diverterChange d .fault cause]
  LeavesService s t d .fault .strokeFault first ∧
  LinkAs s t (leavingReports s t d .fault .strokeFault first)

end Sys2Proof.Machine
end

