-- ==== Sys2Proof/Certificates/Slice0/Obligations.lean ====
section
/-! DEFINITION. What is claimed of the model. A statement about a command names its whole effect: the
state `u` that the command makes of `s`, the reports it posts, and by `Brings` that everything else of
the state is as it was, but for the permits that follow (R11, R12), the report queue with the reports
posted, and what the transmitter's choice makes of link and queue (R162). -/

open Sys2Proof Sys2Proof.Machine

/-! ### The step, the queue of commands, and what is no happening -/

/-- R2 read for this model: a step takes the command at the front of the queue whole. With an empty queue
and no timer that has to run out, a millisecond passes (the model's choice, log entry 7). -/
def Obligations.StepRunsFrontCommand : Prop :=
  ∀ (s : State) (c : Instr) (rest : List Instr),
    (s.pending = c :: rest → step s = exec c { s with pending := rest }) ∧
    (s.pending = [] → (∀ c τ, TimerRuns s c τ → τ.elapsed ≤ τ.duration) → step s = .next s.tick)

/-- No command stops the module or touches the queue of waiting commands; one that names no happening of
the state it finds changes nothing (the model's choice, log entry 4). -/
def Obligations.EveryCommandHasANextState : Prop :=
  ∀ (s : State) (c : Instr),
    Leads c s fun t => t.pending = s.pending ∧ (s.occurs c = false → t = s)

/-- R130. The void is the blocks' empty state and nothing is taken while it lasts (the model's choice, log
entries 4, 6 and 12). -/
def Obligations.ResetinVoidsTheModuleAndBeginsItAgain : Prop :=
  ∀ (s : State) (i : Inputs) (c : Instr),
    (Leads .resetinActive s fun t => t.resetActive = true ∧
      (∀ d : DiverterId, t.diverters[d].state.driven = false) ∧
      (∀ z : ZoneId, t.zones[z].permit = false) ∧
      t.link.transmitter = .free ∧ t.link.receiver = .hunting) ∧
    (s.resetActive = true → (∀ j, c ≠ .powerOn j) → c ≠ .resetinActive →
      (∀ j, c ≠ .resetinInactive j) → exec c s = .next s) ∧
    (s.resetActive = true → ∃ t p, exec (.resetinInactive i) s = .next t ∧
      exec (.powerOn i) s = .next p ∧
      p.reports.entries = [⟨1, .moduleState .unconfigured .powerOn, 0, false⟩] ∧
      t = { p with reports := { p.reports with
              entries := [⟨1, .moduleState .unconfigured .resetLine, 0, false⟩] } })

/-- R129. The levels of the field inputs come with the command (the model's choice, log entry 12). -/
def Obligations.PowerOnBegins : Prop :=
  ∀ (s : State) (i : Inputs),
    Leads (.powerOn i) s fun t =>
      t.module = .unconfigured ∧ t.resetActive = false ∧ t.inputs = i ∧
      (∀ z : ZoneId, t.zones[z] =
        ⟨0, ⟨true, i.estop, false, false, false, false, false⟩, false, []⟩) ∧
      t.freeRecords = 96 ∧ t.nextAnonymous = 61440 ∧ t.announcements = [] ∧ t.span = .idle ∧
      t.spanCount = 0 ∧ (∀ e : EyeId, t.eyes[e] = ⟨.undefined, 0⟩) ∧
      (∀ d : DiverterId, t.claims[d] = [] ∧ t.diverters[d] = ⟨.undefined, none, none, false⟩) ∧
      t.pendingLayout = t.activeLayout ∧
      (∀ z : ZoneId, t.activeLayout.zones[z] = none) ∧
      (∀ e : EyeId, t.activeLayout.eyes[e] = none) ∧
      (∀ d : DiverterId, t.activeLayout.diverters[d] = none) ∧
      (∀ c : DestinationCode, t.activeLayout.destinations[c] = ⟨none, none⟩) ∧
      t.activeLayout.line = ⟨50, 1500, 100, 2, 4, none, false⟩ ∧
      t.counters = ⟨0, 0, 0, 0, 0, 0, 0, 0⟩ ∧
      t.link = ⟨strappedSpeed i, .hunting, none, none, none, .free, false, none, ⟨4, 200, 0⟩⟩ ∧
      t.reports = ⟨[⟨1, .moduleState .unconfigured .powerOn, 0, false⟩], 2, 0, none⟩

/-- With the inputs of log entry 1 (the model's choice), the state after reset obeys every law that the
invariants below keep. -/
def Obligations.ResetStateObeysTheLaws : Prop :=
  LayoutLaws State.reset ∧ HaltReasonLaws State.reset ∧ ReportQueueLaws State.reset ∧
    RecordLaws State.reset ∧ TrackLaws State.reset ∧ DiverterLaws State.reset ∧
    EyeLaws State.reset ∧ LinkLaws State.reset ∧ ClaimOrder State.reset

/-! ### Laws that every step keeps -/

/-- R127, R136, R142, R143: both layout copies stay in range, and the layout in force has passed the
commit checks. -/
def Obligations.StepKeepsLayoutLaws : Prop :=
  ∀ (s t : State), LayoutLaws s → step s = .next t → LayoutLaws t

/-- R11, R13, R15 to R18. -/
def Obligations.StepKeepsHaltReasonLaws : Prop :=
  ∀ (s t : State), HaltReasonLaws s → step s = .next t → HaltReasonLaws t

/-- R164 to R177. -/
def Obligations.StepKeepsReportQueueLaws : Prop :=
  ∀ (s t : State), ReportQueueLaws s → LinkLaws s → step s = .next t → ReportQueueLaws t

/-- R23, R28, R42, R86, R91, R116. -/
def Obligations.StepKeepsRecordLaws : Prop :=
  ∀ (s t : State), RecordLaws s → step s = .next t → RecordLaws t

/-- R29, R30, R49. The layout in force gives the zones their lengths, and the records their zones. -/
def Obligations.StepKeepsTrackOrder : Prop :=
  ∀ (s t : State), LayoutLaws s → RecordLaws s → TrackLaws s → step s = .next t → TrackLaws t

/-- R97, R99 to R105, Table 6-3. -/
def Obligations.StepKeepsDiverterLaws : Prop :=
  ∀ (s t : State), DiverterLaws s → step s = .next t → DiverterLaws t

/-- R47, R60, R63, R64, R76, Table 4-2. -/
def Obligations.StepKeepsEyeLaws : Prop :=
  ∀ (s t : State), LayoutLaws s → EyeLaws s → step s = .next t → EyeLaws t

/-- R150, R157, R160, R162. -/
def Obligations.StepKeepsLinkLaws : Prop :=
  ∀ (s t : State), LinkLaws s → step s = .next t → LinkLaws t

/-! ### Rules of the whole module -/

/-- R127, R136, R141 to R143: the module state and the layout in force change only by START, STOP, RESTART
and COMMIT_LAYOUT, each from the states that it is taken in, and never by a field input or a timer of the
field. That a BAD_KIND_FRAME of a request's kind executes the request is the model's reading (log entry
11), and that FRAME_DISCARDED is taken whatever bytes the receiver held is its choice (log entry 21). -/
def Obligations.ModuleStateChangesOnlyByItsRequests : Prop :=
  ∀ (s t : State) (c : Instr), exec c s = .next t →
    (∀ i, c ≠ .powerOn i) → c ≠ .resetinActive → (∀ i, c ≠ .resetinInactive i) →
    (t.module ≠ s.module →
      s.module = .standby ∧ t.module = .tracking ∨ s.module = .tracking ∧ t.module = .standby ∨
      s.module = .unconfigured ∧ t.module = .standby) ∧
    (t.activeLayout ≠ s.activeLayout →
      s.module ≠ .tracking ∧ t.module = .standby ∧ t.activeLayout = s.pendingLayout ∧
      s.pendingLayout.validate = none ∧ s.lineItems = [] ∧ s.announcements = []) ∧
    (t.module ≠ s.module ∨ t.activeLayout ≠ s.activeLayout →
      (∃ seq body, c = .start seq body ∨ c = .stop seq body ∨ c = .restart seq body ∨
        c = .commitLayout seq body) ∨
      (∃ kind seq body, c = .badKindFrame kind seq body ∧ isRequestKind kind = true) ∨
      (∃ b, c = .receivedByte b) ∨ c = .interByteTimeout ∨ ∃ buffer, c = .frameDiscarded buffer)

/-- R4. -/
def Obligations.OnlyPulsesRaiseZoneCounts : Prop :=
  ∀ (s t : State) (c : Instr) (z : ZoneId), exec c s = .next t →
    ((∃ i, c = .powerOn i ∨ c = .resetinInactive i ∧ s.resetActive = true) ∨ c = .resetinActive →
      t.zones[z].count = 0) ∧
    (s.resetActive = false → (∀ i, c ≠ .powerOn i) → c ≠ .resetinActive →
      t.zones[z].count = if c = .encoderPulse z then s.zones[z].count + 1 else s.zones[z].count)

/-- R161: a frame begun is sent to its last byte, whatever other happenings are taken meanwhile. RESETIN
is the exception. -/
def Obligations.FrameBegunIsSentToItsEnd : Prop :=
  ∀ (s t : State) (c : Instr) (frame : List Byte), s.link.transmitter = .sending frame →
    exec c s = .next t → c ≠ .frameSent → (∀ i, c ≠ .powerOn i) → c ≠ .resetinActive →
    (∀ i, c ≠ .resetinInactive i) → t.link.transmitter = .sending frame

/-- R1, R64: a timer of t ms does not run out before it has run for t ms, and one that has run for t + 1 ms
runs out before another passes. With none such and no command waiting, each timer that runs counts one
millisecond, a jam timer only while its zone's permit is on, and nothing else changes. That time passes
with no command waiting, and which of two timers runs out first, are the model's choices (log entries
7, 8 and 24). -/
def Obligations.IdleStepCountsAMillisecond : Prop :=
  ∀ (s : State), s.resetActive = false →
    let counted : Timer → Timer := fun τ => ⟨τ.duration, τ.elapsed + 1⟩
    let late : Instr → Prop := fun c => ∃ τ, TimerRuns s c τ ∧ τ.duration < τ.elapsed
    (∀ c τ, TimerRuns s c τ → τ.elapsed < τ.duration → exec c s = .next s) ∧
    (s.pending = [] → ∀ c, late c → ∃ b n, late b ∧ step s = exec b { s with freeIndex := n } ∧
      ((∀ d, late d → d = c) → b = c ∧ n = s.freeIndex)) ∧
    (s.pending = [] → (∀ c, ¬ late c) → ∃ t, step s = .next t ∧
      (∀ e : EyeId, t.eyes[e].state = s.eyes[e].state ∧ t.eyes[e].jamElapsed =
        s.eyes[e].jamElapsed + if s.eyes[e].state = .blocked ∧ ∃ d ∈ s.activeLayout.eyes[e],
          d.jamTime ≠ 0 ∧ s.zones[d.zone].permit = true then 1 else 0) ∧
      (∀ d : DiverterId, t.diverters[d] =
        { s.diverters[d] with timer := s.diverters[d].timer.map counted }) ∧
      t.link.interByte = s.link.interByte.map counted ∧
      t.link.linkTimer = s.link.linkTimer.map counted ∧
      t.reports.resendTimer = s.reports.resendTimer.map counted ∧
      { t with
          eyes := s.eyes
          diverters := s.diverters
          link := { t.link with interByte := s.link.interByte, linkTimer := s.link.linkTimer }
          reports := { t.reports with resendTimer := s.reports.resendTimer } } = s)

/-! ### Frames received (R148 to R154) -/

/-- R150, R151, R154, R182: the bytes of a valid frame, taken one by one by a HUNTING receiver, come to
the same as the command of the frame's kind. -/
def Obligations.ReceivedFrameIsItsRequest : Prop :=
  ∀ (s : State) (c : Instr) (f : Frame),
    requestParts c = some f → WellFormed c = true → HaltReasonLaws s → LinkLaws s →
    s.link.receiver = .hunting →
    commandOf f = c ∧ execAll (f.bytes.map .receivedByte) s = exec c s

/-- R153: every discard's rescan comes to an end. The bound on a scan's steps never cuts it short. -/
def Obligations.EveryRescanComesToAnEnd : Prop :=
  ∀ (r : Receiver) (bytes : List Byte) (n : Nat),
    scanBound r bytes ≤ n → scan n r bytes = scanAll r bytes

/-- R150, R152, R153: bytes that are no SYNC are dropped while HUNTING, a SYNC begins a frame, a byte of
an unfinished frame is collected; a byte that makes a frame fail discards it as FRAME_DISCARDED does. -/
def Obligations.ReceiverTakesBytes : Prop :=
  ∀ (s : State) (b : Byte) (buffer : List Byte), s.resetActive = false →
    (s.link.receiver = .hunting → b ≠ 0xA5#8 →
      Happens (.receivedByte b) s { s with link := { s.link with interByte := none } } []) ∧
    (s.link.receiver = .hunting → b = 0xA5#8 →
      Happens (.receivedByte b) s
        { s with link := { s.link with
            receiver := .collecting [], interByte := some ⟨3, 0⟩ } } []) ∧
    (s.link.receiver = .collecting buffer → judge (buffer ++ [b]) = .incomplete →
      Happens (.receivedByte b) s
        { s with link := { s.link with
            receiver := .collecting (buffer ++ [b]), interByte := some ⟨3, 0⟩ } } []) ∧
    (s.link.receiver = .collecting buffer → judge buffer = .incomplete →
      judge (buffer ++ [b]) = .failed →
      exec (.receivedByte b) s = exec (.frameDiscarded (buffer ++ [b])) s)

/-- R152, R153: a discarded frame is counted, and its buffered bytes are taken again from HUNTING, all in
one happening. Bytes that are no SYNC are dropped. A SYNC begins a frame: one that the buffer does not
finish is collected, with the inter-byte timer started afresh; one that fails is discarded in its turn,
with what follows it; a request's whole frame is executed. A running-out needs its timer due (R1). That
FRAME_DISCARDED is taken whatever bytes the receiver holds, and leaves it as its own buffer does, is the
model's choice (log entry 21). -/
def Obligations.DiscardCountsAndRescans : Prop :=
  ∀ (s : State) (c : Instr) (buffer : List Byte), s.resetActive = false →
    (c = .interByteTimeout ∧ s.link.receiver = .collecting buffer ∧
        (∃ τ ∈ s.link.interByte, τ.duration ≤ τ.elapsed) ∨
      c = .frameDiscarded buffer ∧ frameFails buffer = true) →
    let counted : State := { s with
      counters := { s.counters with framesDiscarded := s.counters.framesDiscarded + 1 } }
    let leaves : Receiver → Option Timer → Prop := fun receiver timer =>
      Happens c s { counted with
        link := { s.link with receiver := receiver, interByte := timer } } []
    (0xA5#8 ∉ buffer → leaves .hunting none) ∧
    ∀ (noise rest : List Byte), 0xA5#8 ∉ noise →
      (buffer = noise ++ 0xA5#8 :: rest → judge rest = .incomplete →
        leaves (.collecting rest) (some ⟨3, 0⟩)) ∧
      (∀ failed later : List Byte, buffer = noise ++ 0xA5#8 :: (failed ++ later) →
        judge failed = .failed → (∀ k < failed.length, judge (failed.take k) = .incomplete) →
        exec c s = exec .interByteTimeout { counted with
          link := { s.link with receiver := .collecting (failed ++ later), interByte := some ⟨3, 3⟩ } }) ∧
      (∀ (r : Instr) (f : Frame), requestParts r = some f → WellFormed r = true →
        buffer = noise ++ f.bytes ++ rest → 0xA5#8 ∉ rest → exec c s = exec r counted)

/-! ### What every request does at the link (R154 to R157) -/

/-- R154, R156, R157, R162, and log entry 10 for the receiver: a request that is no retry and finds no
reply waiting is answered: the link is UP, the reply is cached, and it begins at once if the
transmitter is FREE, or waits in the slot. -/
def Obligations.RequestIsAnswered : Prop :=
  ∀ (s : State) (c : Instr) (f : Frame),
    requestParts c = some f → FreshRequest s f.seq →
    Leads c s fun t => ∃ (result : ResultCode) (fields : List Byte),
      let reply : Frame := ⟨f.kind ||| 0x80#8, f.seq, result.code :: fields⟩
      t.link.cache = some reply ∧
      (s.link.transmitter = .free →
        t.link.transmitter = .sending reply.bytes ∧ t.link.slot = none) ∧
      (∀ frame, s.link.transmitter = .sending frame →
        t.link.transmitter = .sending frame ∧ t.link.slot = some reply) ∧
      t.link.up = true ∧ t.zones[(0 : ZoneId)].reasons.link = false ∧
      t.link.receiver = .hunting ∧ t.link.interByte = none ∧ t.link.speed = s.link.speed ∧
      t.link.linkTimer = (if t.link.settings.linkTimeout = 0 then none
        else some ⟨t.link.settings.linkTimeout, 0⟩) ∧
      ((∀ seq body, c ≠ .setLink seq body) → f.kind ≠ 0x03#8 → t.link.settings = s.link.settings)

/-- R154 steps 1 to 3, R155: a request that finds a reply waiting behind a frame is dropped and counted;
a retry is answered from the cache. Neither is executed, and both are signs of life: nothing else of the
link changes, and nothing of the queue. The receiver is HUNTING after either (log entry 10). -/
def Obligations.RetryAndPendingReplyExecuteNothing : Prop :=
  ∀ (s : State) (c : Instr) (f : Frame),
    requestParts c = some f → s.resetActive = false →
    (∀ waiting ∈ s.link.slot, s.link.transmitter ≠ .free →
      Leads c s fun t =>
        Brings s { s with counters :=
          { s.counters with framesDiscarded := s.counters.framesDiscarded + 1 } } t [] ∧
        t.link = { s.link with
          receiver := .hunting, interByte := none, up := true
          linkTimer := s.link.settings.linkTimer }) ∧
    (s.link.slot = none → ∀ reply ∈ s.link.cache, reply.seq = f.seq →
      Leads c s fun t =>
        Brings s s t [] ∧
        t.link = { s.link with
          receiver := .hunting, interByte := none, up := true
          linkTimer := s.link.settings.linkTimer
          slot := if s.link.transmitter = .free then none else some reply
          transmitter :=
            if s.link.transmitter = .free then .sending reply.bytes else s.link.transmitter })

/-- R154 steps 4 and 5, R182, R183, R184: a KIND that is no request kind is answered BAD_KIND, and a body
of a length that its kind does not allow BAD_LENGTH, with the result code alone and nothing executed. -/
def Obligations.BadKindAndBadLengthExecuteNothing : Prop :=
  ∀ (s : State) (c : Instr) (f : Frame),
    requestParts c = some f → FreshRequest s f.seq →
    (isRequestKind f.kind = false →
      Takes c s s [] ⟨f.kind ||| 0x80#8, f.seq, [0x02#8]⟩) ∧
    (isRequestKind f.kind = true → bodyAllowed f.kind f.body = false →
      Takes c s s [] ⟨f.kind ||| 0x80#8, f.seq, [0x01#8]⟩)

/-! ### STATUS, IDENTIFY, SET_LINK, REPORT_ACK -/

/-- R145, R146, Table 10-9: STATUS and IDENTIFY change nothing. STATUS answers what the happening leaves,
whose free count and list lengths make 96; IDENTIFY answers the board's fixed facts, one revision for all
states. -/
def Obligations.StatusAndIdentifyAnswerAndChangeNothing : Prop :=
  ∃ revision : Byte, 1 ≤ revision.toNat ∧ ∀ (s : State) (seq : Byte), FreshRequest s seq →
    (Leads (.status seq []) s fun t => Brings s s t [] ∧
      (RecordLaws s → t.freeRecords + (t.zones[(0 : ZoneId)].track.length +
        t.zones[(1 : ZoneId)].track.length + t.zones[(2 : ZoneId)].track.length +
        t.zones[(3 : ZoneId)].track.length) = 96) ∧
      t.link.cache = some ⟨0x81#8, seq,
        [0x00#8, sentModuleState t.module] ++
        ([0, 1, 2, 3] : List ZoneId).flatMap (fun z =>
          [if t.activeLayout.zones[z].isSome then 1#8 else 0#8, sentReasons t.zones[z].reasons,
            if t.zones[z].permit then 1#8 else 0#8, BitVec.ofNat 8 t.zones[z].track.length]) ++
        [BitVec.ofNat 8 t.freeRecords, BitVec.ofNat 8 t.announcements.length,
          BitVec.ofNat 8 t.reports.entries.length, BitVec.ofNat 8 t.reports.outstanding, 0x01#8] ++
        sent4 t.counters.inducted ++ sent4 t.counters.diverted ++ sent4 t.counters.exited ++
        sent4 t.counters.lost ++ sent4 t.counters.phantom ++ sent4 t.counters.noiseDiscards ++
        sent4 t.counters.framesDiscarded ++ sent4 t.counters.reportsSuperseded⟩) ∧
    Takes (.identify seq []) s s [] ⟨0x82#8, seq,
      [0x00#8, 48#8, revision, 4#8, 12#8, 16#8, 96#8, 16#8, 64#8, 64#8]⟩

/-- R160, R177: SET_LINK replaces the three settings together, or none of them. A lowered window leaves the
oldest entries OUTSTANDING, and a running resend timer starts afresh. -/
def Obligations.SetLinkReplacesAllSettingsOrNone : Prop :=
  ∀ (s : State) (seq w r0 r1 t0 t1 : Byte), FreshRequest s seq → ReportQueueLaws s →
    let resend := r0.toNat + 256 * r1.toNat
    let timeout := t0.toNat + 256 * t1.toNat
    let accepted : Prop := (1 ≤ w.toNat ∧ w.toNat ≤ 8) ∧ (20 ≤ resend ∧ resend ≤ 2000) ∧
      (timeout = 0 ∨ 100 ≤ timeout ∧ timeout ≤ 60000)
    let kept := min s.reports.outstanding w.toNat
    let narrowed : ReportQueue :=
      { s.reports with
        entries := s.reports.entries.take kept ++
          (s.reports.entries.drop kept).map fun e => { e with outstanding := false }
        outstanding := kept
        resendTimer := if s.reports.resendTimer.isSome then some ⟨resend, 0⟩ else none }
    (accepted → Leads (.setLink seq [w, r0, r1, t0, t1]) s fun t =>
      Brings s { s with reports := narrowed } t [] ∧ t.link.cache = some ⟨0x83#8, seq, [0x00#8, w, r0, r1, t0, t1]⟩ ∧
      t.link.settings = ⟨w.toNat, resend, timeout⟩ ∧
      t.link.linkTimer = (if timeout = 0 then none else some ⟨timeout, 0⟩)) ∧
    (¬ accepted → Leads (.setLink seq [w, r0, r1, t0, t1]) s fun t =>
      Brings s s t [] ∧ t.link.settings = s.link.settings ∧
      t.link.cache = some ⟨0x83#8, seq, [0x03#8, BitVec.ofNat 8 s.link.settings.sendWindow] ++
        sent2 s.link.settings.resendTime ++ sent2 s.link.settings.linkTimeout⟩)

/-- R173, R174: a valid acknowledgement removes every entry up to the one it names; one of the 64 numbers
before the oldest entry is stale and answered OK; any other is BAD_ACK. Each reply shows the queue as it
then stands. -/
def Obligations.ReportAckRemovesWhatItCovers : Prop :=
  ∀ (s : State) (seq n0 n1 : Byte) (gone rest : List Entry) (named : Entry),
    FreshRequest s seq → ReportQueueLaws s →
    let n := n0.toNat + 256 * n1.toNat
    let oldest := (s.reports.entries.head?.map Entry.number).getD s.reports.nextNumber
    let before : Nat → Nat := fun m => if m = 1 then 65535 else m - 1
    let stale : Prop := ∃ k : Fin 64, n = before^[k.val + 1] oldest
    let shown : State → List Byte := fun t =>
      sent2 ((t.reports.entries.head?.map Entry.number).getD 0) ++
        [BitVec.ofNat 8 t.reports.entries.length, BitVec.ofNat 8 t.reports.outstanding]
    (s.reports.entries = gone ++ named :: rest → named.number = n → named.outstanding = true →
      Leads (.reportAck seq [n0, n1]) s fun t =>
        Brings s
          { s with reports :=
            { s.reports with
              entries := rest
              outstanding := s.reports.outstanding - (gone.length + 1)
              resendTimer := if s.reports.outstanding = gone.length + 1 then none
                else some ⟨s.link.settings.resendTime, 0⟩ } }
          t [] ∧
        t.link.cache = some ⟨0x84#8, seq,
          [0x00#8, n0, n1, BitVec.ofNat 8 (gone.length + 1)] ++ shown t⟩) ∧
    ((∀ e ∈ s.reports.entries, e.outstanding = true → e.number ≠ n) →
      Leads (.reportAck seq [n0, n1]) s fun t =>
        Brings s s t [] ∧
        (stale → t.link.cache = some ⟨0x84#8, seq, [0x00#8, n0, n1, 0#8] ++ shown t⟩) ∧
        (¬ stale → t.link.cache = some ⟨0x84#8, seq, [0x0B#8, n0, n1, 0#8] ++ shown t⟩))

/-! ### RESTART, START, STOP -/

/-- R134, R135, R179. A diverter whose actuator leaves home as the RESTART is taken (an inactive edge that
meets it: the model's choice of how that shows, log entry 23) enters SETTLING, and the edge then has no
effect. -/
def Obligations.RestartGivesUpTheAccountAndKeepsTheLayout : Prop :=
  ∀ (s : State) (seq : Byte), FreshRequest s seq →
    let state : ModuleState := if s.module = .unconfigured then .unconfigured else .standby
    let settles : DiverterId → Bool := fun d =>
      s.diverters[d].state != .undefined && s.diverters[d].state != .disabled
    let set : EyeId → Eye := fun e => ⟨if s.eyeBlocked e then .blocked else .clear, 0⟩
    let home : DiverterId → Bool := fun d => s.inputs.homes[d] && !(settles d && s.leavingHome d)
    let u : State := { s with
      module := state
      counters := ⟨0, 0, 0, 0, 0, 0, 0, 0⟩
      zones := Vector.ofFn fun z =>
        ⟨s.zones[z].count, ⟨true, s.zones[z].reasons.estop, false, false, false, false, false⟩,
          s.zones[z].permit, []⟩
      freeRecords := 96, nextAnonymous := 61440, announcements := []
      span := if s.activeLayout.inductionEye.any s.eyeBlocked then .passed else .idle
      spanCount := 0
      eyes := Vector.ofFn fun e =>
        if s.eyes[e].state = .undefined ∨ s.eyes[e].state = .disabled then s.eyes[e] else set e
      claims := Vector.replicate 16 []
      diverters := Vector.ofFn fun d =>
        if settles d then
          if home d then ⟨.idle, none, none, false⟩
          else ⟨.settling,
            some ⟨(s.activeLayout.diverters[d].map DiverterDef.returnTimeout).getD 0, 0⟩, none, false⟩
        else s.diverters[d]
      inputs := { s.inputs with homes := Vector.ofFn home }
      reports := ⟨[], 1, 0, none⟩ }
    Leads (.restart seq []) s fun t =>
      Brings s u t
        (.moduleState state .restart ::
          (allDiverters.filter fun d => settles d && home d).map
            fun d => .diverterChange d .idle .homed) ∧
      t.link.cache = some ⟨0x85#8, seq, [0x00#8, sentModuleState state]⟩ ∧
      t.reports.outstanding = 0 ∧ t.reports.resendTimer = none ∧
      (∀ e ∈ t.reports.entries, e.outstanding = false) ∧
      ∀ d : DiverterId, s.leavingHome d = true → exec (.homeInactiveEdge d) t = .next t

/-- R131, R132: START and STOP, each in the one state that it is taken in, and refused with the module
state elsewhere. -/
def Obligations.StartAndStopMoveBetweenStandbyAndTracking : Prop :=
  ∀ (s : State) (seq : Byte), FreshRequest s seq →
    let withStopped : (ZoneId → Bool) → Vector ZoneUnit 4 := fun stopped =>
      Vector.ofFn fun z =>
        { s.zones[z] with reasons := { s.zones[z].reasons with stopped := stopped z } }
    (s.module = .standby → Takes (.start seq []) s
      { s with
        module := .tracking, zones := withStopped fun z => s.activeLayout.zones[z].isNone }
      [.moduleState .tracking .start] ⟨0x86#8, seq, [0x00#8, 0x02#8]⟩) ∧
    (s.module ≠ .standby →
      Takes (.start seq []) s s [] ⟨0x86#8, seq, [0x04#8, sentModuleState s.module]⟩) ∧
    (s.module = .tracking → Takes (.stop seq []) s
      { s with module := .standby, zones := withStopped fun _ => true }
      [.moduleState .standby .stop] ⟨0x87#8, seq, [0x00#8, 0x01#8]⟩) ∧
    (s.module ≠ .tracking →
      Takes (.stop seq []) s s [] ⟨0x87#8, seq, [0x04#8, sentModuleState s.module]⟩)

/-! ### The layout copies -/

/-- R3, R138: DEFINE_ZONE, with every field in range, replaces one zone of the pending copy, and is refused
BAD_FIELD otherwise. -/
def Obligations.DefineZoneReplacesOnePendingZone : Prop :=
  ∀ (s : State) (seq z l0 l1 o : Byte), FreshRequest s seq →
    let length := l0.toNat + 256 * l1.toNat
    (∀ zone : ZoneId, z.toNat = zone.val → 64 ≤ length → o.toNat < length →
      Takes (.defineZone seq [z, l0, l1, o]) s
        { s with pendingLayout := { s.pendingLayout with
            zones := s.pendingLayout.zones.set zone (some ⟨length, o.toNat⟩) } }
        [] ⟨0x90#8, seq, [0x00#8]⟩) ∧
    (4 ≤ z.toNat ∨ length < 64 ∨ length ≤ o.toNat →
      Takes (.defineZone seq [z, l0, l1, o]) s s [] ⟨0x90#8, seq, [0x03#8]⟩)

/-- R60, R138, R181: DEFINE_EYE, with every field in range, replaces one eye of the pending copy, and is
refused BAD_FIELD otherwise. -/
def Obligations.DefineEyeReplacesOnePendingEye : Prop :=
  ∀ (s : State) (seq e z p0 p1 tolerance role sense j0 j1 : Byte), FreshRequest s seq →
    let position := p0.toNat + 256 * p1.toNat
    let jamTime := j0.toNat + 256 * j1.toNat
    let command : Instr := .defineEye seq [e, z, p0, p1, tolerance, role, sense, j0, j1]
    (∀ (eye : EyeId) (zone : ZoneId), e.toNat = eye.val → z.toNat = zone.val → position ≤ 65534 →
      1 ≤ tolerance.toNat → role.toNat ≤ 1 → sense.toNat ≤ 1 →
      (jamTime = 0 ∨ 100 ≤ jamTime ∧ jamTime ≤ 30000) →
      Takes command s
        { s with pendingLayout := { s.pendingLayout with
            eyes := s.pendingLayout.eyes.set eye (some
              ⟨zone, position, tolerance.toNat, if role = 0x00#8 then .induct else .confirm,
                if sense = 0x00#8 then .darkOn else .lightOn, jamTime⟩) } }
        [] ⟨0x91#8, seq, [0x00#8]⟩) ∧
    (12 ≤ e.toNat ∨ 4 ≤ z.toNat ∨ position = 65535 ∨ tolerance = 0x00#8 ∨ 2 ≤ role.toNat ∨
        2 ≤ sense.toNat ∨ (1 ≤ jamTime ∧ jamTime ≤ 99) ∨ 30000 < jamTime →
      Takes command s s [] ⟨0x91#8, seq, [0x03#8]⟩)

/-- R97, R138, Table 6-1: DEFINE_DIVERTER, with every field in range, replaces one diverter of the pending
copy, and is refused BAD_FIELD otherwise. -/
def Obligations.DefineDiverterReplacesOnePendingDiverter : Prop :=
  ∀ (s : State) (seq d z f0 f1 l0 l1 g0 g1 s0 s1 w0 w1 r0 r1 : Byte), FreshRequest s seq →
    let fire := f0.toNat + 256 * f1.toNat
    let lead := l0.toNat + 256 * l1.toNat
    let gap := g0.toNat + 256 * g1.toNat
    let stroke := s0.toNat + 256 * s1.toNat
    let dwell := w0.toNat + 256 * w1.toNat
    let back := r0.toNat + 256 * r1.toNat
    let command : Instr :=
      .defineDiverter seq [d, z, f0, f1, l0, l1, g0, g1, s0, s1, w0, w1, r0, r1]
    (∀ (diverter : DiverterId) (zone : ZoneId), d.toNat = diverter.val → z.toNat = zone.val →
      fire ≤ 65534 → lead ≤ 4095 → gap ≤ 4095 → 10 ≤ stroke → stroke ≤ 2000 → 10 ≤ dwell →
      dwell ≤ 5000 → 10 ≤ back → back ≤ 2000 →
      Takes command s
        { s with pendingLayout := { s.pendingLayout with
            diverters := s.pendingLayout.diverters.set diverter
              (some ⟨zone, fire, lead, gap, stroke, dwell, back⟩) } }
        [] ⟨0x92#8, seq, [0x00#8]⟩) ∧
    (16 ≤ d.toNat ∨ 4 ≤ z.toNat ∨ 65534 < fire ∨ 4095 < lead ∨ 4095 < gap ∨ stroke < 10 ∨
        2000 < stroke ∨ dwell < 10 ∨ 5000 < dwell ∨ back < 10 ∨ 2000 < back →
      Takes command s s [] ⟨0x92#8, seq, [0x03#8]⟩)

/-- R81, R138: DEFINE_DESTINATION replaces both fields of one pending entry, FFh standing for an absent
one; UNDEFINE undefines one pending zone, eye or diverter; each is refused BAD_FIELD out of range. -/
def Obligations.DefineDestinationAndUndefineEditOneEntry : Prop :=
  ∀ (s : State) (seq c p a kind number : Byte), FreshRequest s seq →
    let field : Byte → Option DiverterId := fun b => if h : b.toNat < 16 then some ⟨b.toNat, h⟩ else none
    let allowed : Byte → Prop := fun b => b.toNat < 16 ∨ b = 0xFF#8
    let l := s.pendingLayout
    (∀ code : DestinationCode, c.toNat = code.val → allowed p → allowed a →
      Takes (.defineDestination seq [c, p, a]) s
        { s with pendingLayout := { l with
            destinations := l.destinations.set code ⟨field p, field a⟩ } }
        [] ⟨0x93#8, seq, [0x00#8]⟩) ∧
    (64 ≤ c.toNat ∨ ¬ allowed p ∨ ¬ allowed a →
      Takes (.defineDestination seq [c, p, a]) s s [] ⟨0x93#8, seq, [0x03#8]⟩) ∧
    (∀ z : ZoneId, kind = 0x00#8 → number.toNat = z.val →
      Takes (.undefine seq [kind, number]) s
        { s with pendingLayout := { l with zones := l.zones.set z none } }
        [] ⟨0x94#8, seq, [0x00#8]⟩) ∧
    (∀ e : EyeId, kind = 0x01#8 → number.toNat = e.val →
      Takes (.undefine seq [kind, number]) s
        { s with pendingLayout := { l with eyes := l.eyes.set e none } }
        [] ⟨0x94#8, seq, [0x00#8]⟩) ∧
    (∀ d : DiverterId, kind = 0x02#8 → number.toNat = d.val →
      Takes (.undefine seq [kind, number]) s
        { s with pendingLayout := { l with diverters := l.diverters.set d none } }
        [] ⟨0x94#8, seq, [0x00#8]⟩) ∧
    (kind = 0x00#8 ∧ 4 ≤ number.toNat ∨ kind = 0x01#8 ∧ 12 ≤ number.toNat ∨
        kind = 0x02#8 ∧ 16 ≤ number.toNat ∨ 3 ≤ kind.toNat →
      Takes (.undefine seq [kind, number]) s s [] ⟨0x94#8, seq, [0x03#8]⟩)

/-- R137, Table 7-4: SET_LINE changes all seven pending settings or none. -/
def Obligations.SetLineChangesAllSevenOrNone : Prop :=
  ∀ (s : State) (seq a0 a1 b0 b1 t0 t1 m p r h : Byte), FreshRequest s seq →
    let minimum := a0.toNat + 256 * a1.toNat
    let maximum := b0.toNat + 256 * b1.toNat
    let tolerance := t0.toNat + 256 * t1.toNat
    let command : Instr := .setLine seq [a0, a1, b0, b1, t0, t1, m, p, r, h]
    let inRange : Prop := (8 ≤ minimum ∧ minimum ≤ 2000) ∧ (16 ≤ maximum ∧ maximum ≤ 4095) ∧
      tolerance ≤ 1000 ∧ (1 ≤ m.toNat ∧ m.toNat ≤ 3) ∧ p.toNat ≤ 16 ∧ h.toNat ≤ 1
    let written : Option DestinationCode → State := fun reject =>
      { s with pendingLayout := { s.pendingLayout with
          line := ⟨minimum, maximum, tolerance, m.toNat, p.toNat, reject, h = 0x01#8⟩ } }
    (∀ code : DestinationCode, inRange → r.toNat = code.val →
      Takes command s (written (some code)) [] ⟨0x95#8, seq, [0x00#8]⟩) ∧
    (inRange → r = 0xFF#8 → Takes command s (written none) [] ⟨0x95#8, seq, [0x00#8]⟩) ∧
    (¬ inRange ∨ 64 ≤ r.toNat ∧ r ≠ 0xFF#8 →
      Takes command s s [] ⟨0x95#8, seq, [0x03#8]⟩)

/-- R136, R139: CLEAR_PENDING empties the pending copy and COPY_ACTIVE makes it equal to the active copy,
in every module state; in UNCONFIGURED the two come to the same. -/
def Obligations.ClearPendingAndCopyActiveReplaceThePendingCopy : Prop :=
  ∀ (s : State) (seq : Byte), FreshRequest s seq →
    let empty : Layout :=
      ⟨Vector.replicate 4 none, Vector.replicate 12 none, Vector.replicate 16 none,
        Vector.replicate 64 ⟨none, none⟩, ⟨50, 1500, 100, 2, 4, none, false⟩⟩
    Takes (.clearPending seq []) s { s with pendingLayout := empty } []
      ⟨0x96#8, seq, [0x00#8]⟩ ∧
    Takes (.copyActive seq []) s { s with pendingLayout := s.activeLayout } []
      ⟨0x97#8, seq, [0x00#8]⟩ ∧
    (LayoutLaws s → s.module = .unconfigured → s.activeLayout = empty)

/-- R140, Table 10-7: READ_LAYOUT answers one entry of the copy named and changes nothing. -/
def Obligations.ReadLayoutAnswersOneEntry : Prop :=
  ∀ (s : State) (seq copy kind number : Byte), FreshRequest s seq →
    let l := if copy = 0x01#8 then s.activeLayout else s.pendingLayout
    let command : Instr := .readLayout seq [copy, kind, number]
    let reply : List Byte → Frame := fun fields => ⟨0x98#8, seq, fields⟩
    let entry : Byte → Option (List Byte) → Frame := fun n fields =>
      reply ([0x00#8, copy, kind, n] ++
        match fields with
        | some bytes => 0x01#8 :: bytes
        | none => [0x00#8])
    (∀ z : ZoneId, copy.toNat ≤ 1 → kind = 0x00#8 → number.toNat = z.val →
      Takes command s s [] (entry number (l.zones[z].map fun d =>
        sent2 d.length ++ [BitVec.ofNat 8 d.entryOffset]))) ∧
    (∀ e : EyeId, copy.toNat ≤ 1 → kind = 0x01#8 → number.toNat = e.val →
      Takes command s s [] (entry number (l.eyes[e].map fun d =>
        [BitVec.ofNat 8 d.zone.val] ++ sent2 d.position ++
          [BitVec.ofNat 8 d.tolerance, sentRole d.role, sentSense d.sense] ++ sent2 d.jamTime))) ∧
    (∀ v : DiverterId, copy.toNat ≤ 1 → kind = 0x02#8 → number.toNat = v.val →
      Takes command s s [] (entry number (l.diverters[v].map fun d =>
        [BitVec.ofNat 8 d.zone.val] ++ sent2 d.firePosition ++ sent2 d.lead ++
          sent2 d.minimumGap ++ sent2 d.strokeTimeout ++ sent2 d.dwell ++
          sent2 d.returnTimeout))) ∧
    (∀ c : DestinationCode, copy.toNat ≤ 1 → kind = 0x03#8 → number.toNat = c.val →
      Takes command s s [] (entry number (some
        [sentOr l.destinations[c].primary, sentOr l.destinations[c].alternate]))) ∧
    (copy.toNat ≤ 1 → kind = 0x04#8 →
      Takes command s s [] (entry 0xFF#8 (some (sent2 l.line.minLength ++
        sent2 l.line.maxLength ++ sent2 l.line.lengthTolerance ++
        [BitVec.ofNat 8 l.line.missLimit, BitVec.ofNat 8 l.line.poolReserve,
          sentOr l.line.rejectDestination,
          if l.line.infeedHold then 0x01#8 else 0x00#8])))) ∧
    (2 ≤ copy.toNat ∨ 5 ≤ kind.toNat ∨ kind = 0x00#8 ∧ 4 ≤ number.toNat ∨
        kind = 0x01#8 ∧ 12 ≤ number.toNat ∨ kind = 0x02#8 ∧ 16 ≤ number.toNat ∨
        kind = 0x03#8 ∧ 64 ≤ number.toNat →
      Takes command s s [] (reply [0x03#8]))

/-- R143: an accepted COMMIT_LAYOUT. The home input of a diverter whose actuator leaves home as the commit
is taken reads inactive (the model's choice of how that shows, log entry 23). -/
def Obligations.AcceptedCommitTakesUpThePendingLayout : Prop :=
  ∀ (s : State) (seq : Byte), FreshRequest s seq → s.module ≠ .tracking → s.lineItems = [] →
    s.announcements = [] → s.pendingLayout.validate = none → s.freeRecords = 96 →
    s.pendingLayout.line.poolReserve ≤ 16 →
    let l := s.pendingLayout
    let blocked : EyeId → EyeDef → Bool := fun e d =>
      if d.sense = .darkOn then s.inputs.eyes[e] else !s.inputs.eyes[e]
    let home : DiverterId → Bool := fun d =>
      s.inputs.homes[d] && !(l.diverters[d].isSome && s.leavingHome d)
    let u : State := { s with
      inputs := { s.inputs with homes := Vector.ofFn home }
      activeLayout := l
      module := .standby
      zones := Vector.ofFn fun z => { s.zones[z] with
        reasons := ⟨true, s.zones[z].reasons.estop, false,
          s.zones[z].reasons.host && l.zones[z].isSome, false, false, false⟩ }
      span := if l.inductionEye.any (fun e => l.eyes[e].any (blocked e)) then .passed else .idle
      spanCount := 0
      eyes := Vector.ofFn fun e =>
        match l.eyes[e] with
        | some d => ⟨if blocked e d then .blocked else .clear, 0⟩
        | none => ⟨.undefined, 0⟩
      diverters := Vector.ofFn fun d =>
        match l.diverters[d] with
        | some def_ =>
          if home d then ⟨.idle, none, none, false⟩
          else ⟨.settling, some ⟨def_.returnTimeout, 0⟩, none, false⟩
        | none => ⟨.undefined, none, none, false⟩ }
    Takes (.commitLayout seq []) s u
      (.moduleState .standby .commit ::
        (allDiverters.filter fun d => l.diverters[d].isSome && home d).map
          fun d => .diverterChange d .idle .homed)
      ⟨0x99#8, seq, [0x00#8, 0x01#8]⟩

/-- R141, R142: a COMMIT_LAYOUT in TRACKING, with items or announcements, or with a pending copy that
fails a check, is refused in that order and changes nothing. The last names the first check that fails and
the offending entry of Table 7-5. -/
def Obligations.RefusedCommitChangesNothing : Prop :=
  ∀ (s : State) (seq : Byte), FreshRequest s seq →
    let command : Instr := .commitLayout seq []
    let waiting := s.lineItems ≠ [] ∨ s.announcements ≠ []
    (s.module = .tracking → Takes command s s [] ⟨0x99#8, seq, [0x04#8, 0x02#8]⟩) ∧
    (s.module ≠ .tracking → waiting → Takes command s s [] ⟨0x99#8, seq,
      [0x09#8, BitVec.ofNat 8 s.lineItems.length, BitVec.ofNat 8 s.announcements.length]⟩) ∧
    (s.module ≠ .tracking → ¬ waiting →
      ∀ (n : Nat) (kind : EntryKind) (number : Byte), FirstFails s.pendingLayout n kind number →
      Takes command s s [] ⟨0x99#8, seq, [0x0A#8, BitVec.ofNat 8 n, sentEntryKind kind, number]⟩)

/-- R142, Table 7-5: a copy passes validation exactly when the conditions of the nine checks hold of it;
otherwise validation names the first check that fails, and that check's offending entry. -/
def Obligations.ValidationAcceptsExactlyTheLayoutsOfTheNineChecks : Prop :=
  ∀ (l : Layout),
    (l.validate = none ↔ ∀ n : Nat, 1 ≤ n → n ≤ 9 → CheckHolds l n) ∧
    ∀ (n : Nat) (kind : EntryKind) (number : Byte),
      l.validate = some (n, kind, number) ↔ FirstFails l n kind number

/-! ### The announce queue and the item pool -/

/-- R43, R45, Table 3-2: ANNOUNCE appends an announcement that passes the five checks, taken in their
order, and WITHDRAW removes one from any place. A refused request leaves the queue as it was. -/
def Obligations.AnnounceAndWithdrawEditTheQueue : Prop :=
  ∀ (s : State) (seq t0 t1 c : Byte) (expected reference : Option (Byte × Byte)),
    FreshRequest s seq →
    let value : Byte × Byte → Nat := fun b => b.1.toNat + 256 * b.2.toNat
    let sent : Option (Byte × Byte) → List Byte := fun b => (b.map fun x => [x.1, x.2]).getD []
    let tag := t0.toNat + 256 * t1.toNat
    let presence : Byte :=
      (if reference.isSome then 1#8 else 0#8) ||| (if expected.isSome then 2#8 else 0#8)
    let announce : Instr :=
      .announce seq ([t0, t1, c, presence] ++ sent expected ++ sent reference)
    let inRange : Prop := (1 ≤ tag ∧ tag ≤ 61439) ∧ c.toNat < 64 ∧
      ∀ b ∈ expected, 1 ≤ value b ∧ value b ≤ 4095
    let refused : Byte → Prop := fun code => Takes announce s s [] ⟨0xA0#8, seq, [code]⟩
    (s.module = .unconfigured → refused 0x04#8) ∧
    (s.module ≠ .unconfigured → ¬ inRange → refused 0x03#8) ∧
    (s.module ≠ .unconfigured → inRange → tag ∈ s.heldTags → refused 0x05#8) ∧
    (s.module ≠ .unconfigured → inRange → tag ∉ s.heldTags → 16 ≤ s.announcements.length →
      refused 0x07#8) ∧
    (∀ code : DestinationCode, c.toNat = code.val → s.module ≠ .unconfigured → inRange →
      tag ∉ s.heldTags → s.announcements.length < 16 →
      Takes announce s
        { s with announcements := s.announcements ++
            [⟨tag, code, expected.map value, reference.map fun b => b.2 ++ b.1⟩] }
        [] ⟨0xA0#8, seq, [0x00#8, BitVec.ofNat 8 (s.announcements.length + 1)]⟩) ∧
    (∀ (ahead behind : List Announcement) (a : Announcement),
      s.announcements = ahead ++ a :: behind → a.tag = tag →
      (∀ b ∈ ahead ++ behind, b.tag ≠ tag) →
      Takes (.withdraw seq [t0, t1]) s { s with announcements := ahead ++ behind } []
        ⟨0xA1#8, seq,
          0x00#8 :: sentAnnouncement a ++ [BitVec.ofNat 8 (ahead.length + behind.length)]⟩) ∧
    ((∀ a ∈ s.announcements, a.tag ≠ tag) →
      Takes (.withdraw seq [t0, t1]) s s [] ⟨0xA1#8, seq, [0x06#8]⟩)

/-- R38, R39, Tables 10-3 and 10-8: QUERY_ITEM answers what a tag is held by, with an item's position as it
stands, and LIST_ZONE up to 24 tags of a defined zone's track list. Neither changes anything. An item
record is sent as the 20 bytes of Table 10-8, and an announcement as its 8. -/
def Obligations.QueriesAnswerWhatIsHeld : Prop :=
  ∀ (s : State) (seq b0 b1 : Byte), FreshRequest s seq → RecordLaws s →
    let tag := b0.toNat + 256 * b1.toNat
    let query : Instr := .queryItem seq [b0, b1]
    let list : Instr := .listZone seq [b0, b1]
    (∀ i ∈ s.lineItems, i.tag = tag → Takes query s s []
      ⟨0xA2#8, seq, [0x00#8, 0x00#8] ++ sentItem i (s.place i.zone i)⟩) ∧
    (∀ (ahead behind : List Announcement) (a : Announcement),
      s.announcements = ahead ++ a :: behind → a.tag = tag → Takes query s s []
        ⟨0xA2#8, seq, [0x00#8, 0x01#8] ++ sentAnnouncement a ++ [BitVec.ofNat 8 (ahead.length + 1)]⟩) ∧
    (tag ∉ s.heldTags → Takes query s s [] ⟨0xA2#8, seq, [0x06#8]⟩) ∧
    (s.module = .unconfigured → Takes list s s [] ⟨0xA3#8, seq, [0x04#8]⟩) ∧
    (s.module ≠ .unconfigured →
      (4 ≤ b0.toNat ∨ ∃ z : ZoneId, b0.toNat = z.val ∧ s.activeLayout.zones[z] = none) →
      Takes list s s [] ⟨0xA3#8, seq, [0x03#8]⟩) ∧
    (∀ z : ZoneId, s.module ≠ .unconfigured → b0.toNat = z.val →
      s.activeLayout.zones[z].isSome = true →
      let tags := ((s.zones[z].track.drop b1.toNat).take 24).map Item.tag
      Takes list s s [] ⟨0xA3#8, seq,
        [0x00#8, BitVec.ofNat 8 s.zones[z].track.length, b1, BitVec.ofNat 8 tags.length] ++
          tags.flatMap sent2⟩)

/-- R34, R40, Tables 10-3 and 10-8: PURGE releases the record of a TRACKED item and answers it as it stood,
in 20 bytes. A DIVERTING item and a tag that no record carries are refused. -/
def Obligations.PurgeReleasesATrackedItem : Prop :=
  ∀ (s : State) (seq t0 t1 : Byte), FreshRequest s seq → RecordLaws s →
    let tag := t0.toNat + 256 * t1.toNat
    let purge : Instr := .purge seq [t0, t1]
    (∀ i ∈ s.lineItems, i.tag = tag → i.state = .tracked →
      Takes purge s (s.without tag) []
        ⟨0xA4#8, seq, 0x00#8 :: sentItem i (s.place i.zone i)⟩) ∧
    (∀ i ∈ s.lineItems, i.tag = tag → i.state = .diverting →
      Takes purge s s [] ⟨0xA4#8, seq, [0x08#8]⟩) ∧
    ((∀ i ∈ s.lineItems, i.tag ≠ tag) → Takes purge s s [] ⟨0xA4#8, seq, [0x06#8]⟩)

/-- R84, R85, R87, R93: REROUTE writes a TRACKED item's destination and assigns it the first of that
destination's diverters that is in service and whose trigger point lies ahead of the item. -/
def Obligations.RerouteAssignsAfresh : Prop :=
  ∀ (s : State) (seq t0 t1 c : Byte), FreshRequest s seq → RecordLaws s →
    let tag := t0.toNat + 256 * t1.toNat
    let reroute : Instr := .reroute seq [t0, t1, c]
    let refused : Byte → Prop := fun code => Takes reroute s s [] ⟨0xA5#8, seq, [code]⟩
    (64 ≤ c.toNat → refused 0x03#8) ∧
    (c.toNat < 64 → (∀ i ∈ s.lineItems, i.tag ≠ tag) → refused 0x06#8) ∧
    (c.toNat < 64 → ∀ i ∈ s.lineItems, i.tag = tag → i.state = .diverting → refused 0x08#8) ∧
    (∀ i ∈ s.lineItems, ∀ code : DestinationCode, i.tag = tag → i.state = .tracked →
      c.toNat = code.val →
      let claimable : DiverterId → Bool := fun d =>
        s.diverters[d].state.inService && s.activeLayout.diverters[d].any fun v =>
          decide (i.zone < v.zone ∨
            i.zone = v.zone ∧ s.place i.zone i + v.lead < v.firePosition)
      let entry := s.activeLayout.destinations[code]
      let new := if entry.primary.any claimable then entry.primary
        else if entry.alternate.any claimable then entry.alternate else none
      Leads reroute s fun t =>
        Brings s
          { s with
            claims := t.claims
            zones := Vector.ofFn fun z =>
              { s.zones[z] with track := s.zones[z].track.map fun j =>
                  if j.tag = tag then { j with destination := some code, assigned := new } else j } }
          t [] ∧
        ClaimsWith s i new t.claims ∧
        t.link.cache = some ⟨0xA5#8, seq,
          [0x00#8, t0, t1, c, sentOr i.assigned, sentOr new]⟩)

/-- R86, R87: every claim list stays in line order, and every item of one stays upstream of its
diverter's trigger point. -/
def Obligations.StepKeepsClaimOrder : Prop :=
  ∀ (s t : State), LayoutLaws s → RecordLaws s → TrackLaws s → ClaimOrder s → step s = .next t →
    ClaimOrder t

/-! ### Zones and eyes at the line computer's word -/

/-- R19, R20: HALT_ZONE claims HOST in a defined zone. RESUME_ZONE withdraws it and clears the zone's
JAM_HELD eyes, in ascending number, and JAM with them if no eye of the zone is JAMMED. -/
def Obligations.HaltAndResumeHoldAndFreeAZone : Prop :=
  ∀ (s : State) (seq b : Byte), FreshRequest s seq →
    let refused : Byte → Prop := fun code =>
      Takes (.haltZone seq [b]) s s [] ⟨0xA8#8, seq, [code]⟩ ∧
      Takes (.resumeZone seq [b]) s s [] ⟨0xA9#8, seq, [code]⟩
    (s.module = .unconfigured → refused 0x04#8) ∧
    (s.module ≠ .unconfigured →
      (4 ≤ b.toNat ∨ ∃ z : ZoneId, b.toNat = z.val ∧ s.activeLayout.zones[z] = none) →
      refused 0x03#8) ∧
    (∀ z : ZoneId, s.module ≠ .unconfigured → b.toNat = z.val →
      s.activeLayout.zones[z].isSome = true →
      let here : EyeState → List EyeId := fun state => allEyes.filter fun e =>
        s.eyes[e].state == state && s.activeLayout.eyes[e].any fun d => d.zone = z
      let withReasons : Reasons → Vector ZoneUnit 4 := fun r =>
        s.zones.set z { s.zones[z] with reasons := r }
      (Leads (.haltZone seq [b]) s fun t =>
        Brings s { s with zones := withReasons { s.zones[z].reasons with host := true } } t [] ∧
        t.link.cache = some ⟨0xA8#8, seq, [0x00#8, sentReasons t.zones[z].reasons]⟩) ∧
      Takes (.resumeZone seq [b]) s
        { s with
          zones := withReasons { s.zones[z].reasons with
            host := false, jam := s.zones[z].reasons.jam && !(here .jammed).isEmpty }
          eyes := Vector.ofFn fun e => if e ∈ here .jamHeld then ⟨.clear, 0⟩ else s.eyes[e] }
        ((here .jamHeld).map fun e => .jam e z false)
        ⟨0xA9#8, seq, [0x00#8, BitVec.ofNat 8 (here .jammed).length]⟩)

/-- R76, R77, R78: DISABLE_EYE and ENABLE_EYE, with their refusals in order. -/
def Obligations.EyesAreDisabledAndEnabled : Prop :=
  ∀ (s : State) (seq b : Byte), FreshRequest s seq →
    let disable : Instr := .disableEye seq [b]
    let enable : Instr := .enableEye seq [b]
    let refused : Byte → Prop := fun code =>
      Takes disable s s [] ⟨0xAA#8, seq, [code]⟩ ∧ Takes enable s s [] ⟨0xAB#8, seq, [code]⟩
    (s.module = .unconfigured → refused 0x04#8) ∧
    (s.module ≠ .unconfigured →
      (12 ≤ b.toNat ∨ ∃ e : EyeId, b.toNat = e.val ∧ s.activeLayout.eyes[e] = none) →
      refused 0x03#8) ∧
    (∀ e : EyeId, ∀ d ∈ s.activeLayout.eyes[e], s.module ≠ .unconfigured → b.toNat = e.val →
      let blocked := if d.sense = .darkOn then s.inputs.eyes[e] else !s.inputs.eyes[e]
      let became : EyeState → State := fun state => { s with eyes := s.eyes.set e ⟨state, 0⟩ }
      let disabled : Frame := ⟨0xAA#8, seq, [0x00#8, 0x04#8]⟩
      let otherJam := allEyes.any fun f => f != e && s.eyes[f].state.holdsJam &&
        s.activeLayout.eyes[f].any fun v => v.zone = d.zone
      (d.role = .induct → Takes disable s s [] ⟨0xAA#8, seq, [0x04#8]⟩) ∧
      (d.role = .confirm → s.eyes[e].state = .disabled → Takes disable s s [] disabled) ∧
      (d.role = .confirm → s.eyes[e].state ≠ .disabled → s.eyes[e].state.holdsJam = false →
        Takes disable s (became .disabled) [] disabled) ∧
      (d.role = .confirm → s.eyes[e].state.holdsJam = true →
        Takes disable s
          { became .disabled with
            zones := s.zones.set d.zone { s.zones[d.zone] with
              reasons := { s.zones[d.zone].reasons with
                jam := s.zones[d.zone].reasons.jam && otherJam } } }
          [.jam e d.zone false] disabled) ∧
      (s.eyes[e].state ≠ .disabled →
        Takes enable s s [] ⟨0xAB#8, seq, [0x00#8, sentEyeState s.eyes[e].state]⟩) ∧
      (s.eyes[e].state = .disabled →
        Takes enable s (became (if blocked then .blocked else .clear)) []
          ⟨0xAB#8, seq, [0x00#8, if blocked then 0x01#8 else 0x00#8]⟩))

/-! ### Diverters at the line computer's word -/

/-- R119 to R123, Table 6-9: the checks of the four diverter requests, and what TEST_DIVERTER,
ENABLE_DIVERTER and CLEAR_DIVERTER_FAULT do. -/
def Obligations.DivertersAreTestedEnabledAndCleared : Prop :=
  ∀ (s : State) (seq b : Byte), FreshRequest s seq →
    let requests : List (Instr × Byte) :=
      [(.testDiverter seq [b], 0xB0#8), (.disableDiverter seq [b], 0xB1#8),
        (.enableDiverter seq [b], 0xB2#8), (.clearDiverterFault seq [b], 0xB3#8)]
    (s.module = .unconfigured →
      ∀ c ∈ requests, Takes c.1 s s [] ⟨c.2, seq, [0x04#8]⟩) ∧
    (s.module ≠ .unconfigured →
      (16 ≤ b.toNat ∨ ∃ d : DiverterId, b.toNat = d.val ∧ s.activeLayout.diverters[d] = none) →
      ∀ c ∈ requests, Takes c.1 s s [] ⟨c.2, seq, [0x03#8]⟩) ∧
    (∀ d : DiverterId, ∀ v ∈ s.activeLayout.diverters[d], s.module ≠ .unconfigured →
      b.toNat = d.val →
      let becomes : Diverter → State := fun u => { s with diverters := s.diverters.set d u }
      let mayTest : Prop :=
        s.module = .standby ∧ s.diverters[d].state = .idle ∧ s.inputs.estop = false
      let settling : Diverter := ⟨.settling, some ⟨v.returnTimeout, 0⟩, none, false⟩
      let now := sentDiverterState s.diverters[d].state
      (mayTest → Takes (.testDiverter seq [b]) s
        (becomes ⟨.extending, some ⟨v.strokeTimeout, 0⟩, none, true⟩) []
        ⟨0xB0#8, seq, [0x00#8, 0x03#8]⟩) ∧
      (¬ mayTest → Takes (.testDiverter seq [b]) s s [] ⟨0xB0#8, seq, [0x04#8, now]⟩) ∧
      (s.diverters[d].state ≠ .disabled →
        Takes (.enableDiverter seq [b]) s s [] ⟨0xB2#8, seq, [0x04#8, now]⟩) ∧
      (s.diverters[d].state = .disabled → s.inputs.homes[d] = true →
        Takes (.enableDiverter seq [b]) s (becomes ⟨.idle, none, none, false⟩)
          [.diverterChange d .idle .homed] ⟨0xB2#8, seq, [0x00#8, 0x02#8]⟩) ∧
      (s.diverters[d].state = .disabled → s.inputs.homes[d] = false →
        Takes (.enableDiverter seq [b]) s (becomes settling) []
          ⟨0xB2#8, seq, [0x00#8, 0x01#8]⟩) ∧
      (s.diverters[d].state ≠ .fault →
        Takes (.clearDiverterFault seq [b]) s s [] ⟨0xB3#8, seq, [0x04#8, now]⟩) ∧
      (s.diverters[d].state = .fault → s.inputs.homes[d] = true →
        Takes (.clearDiverterFault seq [b]) s
          (becomes { s.diverters[d] with state := .idle, timer := none })
          [.diverterChange d .idle .cleared] ⟨0xB3#8, seq, [0x00#8, 0x02#8]⟩) ∧
      (s.diverters[d].state = .fault → s.inputs.homes[d] = false →
        Takes (.clearDiverterFault seq [b]) s (becomes settling) []
          ⟨0xB3#8, seq, [0x00#8, 0x01#8]⟩))

/-- R91, R117, R121: DISABLE_DIVERTER ends a diverter's stroke without a DIVERTER_CHANGE, returns the
item of its slot to tracking, and moves its claims, head first (the count that the
record of the returned item keeps is the model's, log entry 25). -/
def Obligations.DisableDiverterTakesItOutOfService : Prop :=
  ∀ (s : State) (seq b : Byte) (d : DiverterId), FreshRequest s seq → RecordLaws s →
    s.module ≠ .unconfigured → b.toNat = d.val → s.activeLayout.diverters[d].isSome = true →
    let disabled : Frame := ⟨0xB1#8, seq, [0x00#8, 0x07#8]⟩
    (s.diverters[d].state = .disabled → Takes (.disableDiverter seq [b]) s s [] disabled) ∧
    (s.diverters[d].state ≠ .disabled →
      Leads (.disableDiverter seq [b]) s fun t =>
        LeavesService s t d .disabled .disabled [] ∧
        t.reports = (s.postAll (leavingReports s t d .disabled .disabled [])).reports ∧
        t.link.cache = some disabled)

/-! ### The encoder pulse -/

/-- R4, R6, R49, R72, Table 6-2: a pulse that brings nothing about for any item of its zone, and does not
bring the span to its bound, is counted, into the span too while one is measured, and does nothing else.
An item may pass the end of a window that is not its next eye's, and a trigger point that it passes by.
So is any pulse of an undefined zone or in UNCONFIGURED, which is not counted into a span. -/
def Obligations.QuietPulseIsOnlyCounted : Prop :=
  ∀ (s : State) (z : ZoneId), RecordLaws s → s.resetActive = false →
    (s.module ≠ .unconfigured → s.activeLayout.zones[z].isSome = true →
      QuietFor s z s.zones[z].track → Happens (.encoderPulse z) s (s.pulsed z) []) ∧
    ((s.module = .unconfigured ∨ s.activeLayout.zones[z] = none) →
      Happens (.encoderPulse z) s
        { s with zones := s.zones.set z { s.zones[z] with count := s.zones[z].count + 1 } } [])

/-- R6 to R10, R49, R58, R98, R110 to R115, R186, R187, Tables 6-2, 6-6, 6-8, 11-1 and 11-2: on a pulse the
items come to the points that they then stand at, the head leaves the zone if it stands at the zone's length
and comes to the points of the next zone that its transfer takes it to, and a span at its bound is inducted:
several of these fall together on one pulse, each taken whole and one after another, in an order that the
manual leaves open. (The premise on the tail of zone 0, under which an overlength item takes the position
asked for, is what R54 says of every induction. When a transfer meets the item's return is the model's choice,
log entry 25.) Where one item comes to one diverter's trigger point and
nothing else is brought about (R72 for the item's eyes), the head of the claim list is fired for or missed.
Another TRACKED item, in no claim list of the diverter, is shadowed by an extended one. Nothing comes of it
otherwise, an item of the claim list that is not its head among these (ClaimOrder rules that out). -/
def Obligations.TriggerPointIsDecidedOrShadowed : Prop :=
  ∀ (s : State) (z : ZoneId), RecordLaws s → TrackLaws s → s.resetActive = false →
    s.module ≠ .unconfigured → s.activeLayout.zones[z].isSome = true →
    let u := s.pulsed z
    (LayoutLaws s →
      (z = 0 → s.span = .measuring → s.spanCount = s.activeLayout.line.maxLength →
        ∀ e : EyeId, ∀ d ∈ s.activeLayout.eyes[e], d.role = .induct →
        ∀ q ∈ u.zones[(0 : ZoneId)].track.getLast?.map (u.place 0),
          d.position + s.activeLayout.line.maxLength + 1 < q) →
      Leads (.encoderPulse z) s fun t => ∃ (order : List Met) (w : State) (rs : List Report),
        PulseMeets u z order ∧ MetInTurn order u w rs ∧
        BringsAway s { w with freeIndex := t.freeIndex } t rs) ∧
    ∀ (d : DiverterId) (v : DiverterDef) (ahead behind : List Item) (i : Item),
      s.zones[z].track = ahead ++ i :: behind → s.activeLayout.diverters[d] = some v → v.zone = z →
      let p := u.place z i
      p + v.lead = v.firePosition → QuietFor s z (ahead ++ behind) →
      p ≠ s.activeLayout.zoneLength z → (∀ e ∈ i.nextEye, ¬ EyeEndsAt s.activeLayout z p e) →
      (∀ w : DiverterId, w ≠ d → TriggersAt s.activeLayout z p w → s.passesBy i w) →
      Leads (.encoderPulse z) s fun t => ∃ (w : State) (rs : List Report),
        TriggerMet u z ahead behind i d v w rs ∧ BringsAway s w t rs

/-- R10, R72 to R74: a pulse brings one item to the end of its next eye's window, or the head of a zone to
the zone's length with windows still open, and brings about nothing else. A DIVERTING item or a DISABLED
eye is passed silently. Otherwise the item misses, and is lost if it is AT_RISK or at the miss limit. At
the zone's end the open windows are taken in line order, and the item is lost at the first at which it
does not outlast the miss (but for an item whose transfer meets its return: R188, log entry 25). (Check 7 of
R142 keeps the next window from ending at the same position.) The
eye following one, which becomes the item's next eye, is the nearest defined eye downstream of it, DISABLED
or not (R61). -/
def Obligations.WindowEndIsAMissOrASilentPass : Prop :=
  (∀ (s : State) (z : ZoneId) (ahead behind : List Item) (i : Item),
    RecordLaws s → s.resetActive = false → s.module ≠ .unconfigured →
    s.zones[z].track = ahead ++ i :: behind → s.activeLayout.zones[z].isSome = true →
    let l := s.activeLayout
    let u := s.pulsed z
    let p := u.place z i
    QuietFor s z (ahead ++ behind) →
    (∀ v : DiverterId, TriggersAt l z p v → s.passesBy i v) →
    (∀ e ∈ i.nextEye, EyeEndsAt l z p e → p < l.zoneLength z →
      (∀ f ∈ l.eyeFollowing e, ¬ EyeEndsAt l z p f) →
      Leads (.encoderPulse z) s fun t => ∃ (w : State) (rs : List Report),
        WindowMet u z ahead behind i e w rs ∧ BringsAway s w t rs) ∧
    (p = l.zoneLength z → ahead = [] → ¬ MeetsReturn u z i → ∀ (eyes : List EyeId) (after : Option EyeId),
      EyesStillDue l z i.nextEye eyes after →
      ∀ (before rest : List EyeId) (e : EyeId), s.openFor i eyes = before ++ e :: rest →
      s.outlasts i before.length → ¬ s.outlasts i (before.length + 1) →
      Happens (.encoderPulse z) s
        { u.without i.tag with counters := { s.counters with lost := s.counters.lost + 1 } }
        [.lost i.tag z (some e) (if i.flags.atRisk then .shadow else .misses)])) ∧
  ∀ (l : Layout) (e : EyeId) (d : EyeDef), l.eyes[e] = some d →
    let downstream : EyeDef → EyeDef → Prop := fun a b =>
      a.zone < b.zone ∨ a.zone = b.zone ∧ a.position < b.position
    (∀ f : EyeId, l.eyeFollowing e = some f → ∃ c ∈ l.eyes[f], downstream d c ∧
      ∀ g : EyeId, ∀ b ∈ l.eyes[g], downstream d b → ¬ downstream b c) ∧
    (l.eyeFollowing e = none ↔ ∀ g : EyeId, ∀ b ∈ l.eyes[g], ¬ downstream d b)

/-- R7 to R10, R31, R32, R74: a pulse brings the head of a zone to the zone's length, and brings about
nothing else. Its windows still open in the zone are ended first, each a miss or a silent pass. An item
that outlasts them exits off the last zone. Elsewhere it is transferred to the tail of the next zone, at
the entry offset, or one behind the tail there with AT_RISK, and comes to the points that lie up to
there; or it is lost. An item that a failed stroke has returned since the pulse before, whatever was taken
between, passes silently the windows that the transfer takes it past, as it would have while DIVERTING (R188;
that a return meets the transfer until the zone's next pulse is the model's choice, log entry 25). So the
transfer of a DIVERTING item gives the same result before and after a happening of its stroke: the home edge,
the stroke timer's running-out, DISABLE_DIVERTER or an emergency stop; only the mark of another item that
the stop returns in the old zone tells how that item's return and the pulse lay. (The premise on trigger points: past
one of a diverter of the item's own destination, R84 judges the assignment of the return differently from the
two places.) -/
def Obligations.ZoneEndIsATransferOrAnExit : Prop :=
  (∀ (s : State) (z : ZoneId) (behind : List Item) (i : Item) (eyes : List EyeId)
    (after : Option EyeId),
    RecordLaws s → s.resetActive = false → s.module ≠ .unconfigured →
    s.zones[z].track = i :: behind → s.activeLayout.zones[z].isSome = true →
    let u := s.pulsed z
    let p := u.place z i
    let c : Instr := .encoderPulse z
    p = s.activeLayout.zoneLength z → QuietFor s z behind →
    (∀ v : DiverterId, ¬ TriggersAt s.activeLayout z p v) →
    EyesStillDue s.activeLayout z i.nextEye eyes after →
    let meets := MeetsReturn u z i
    let missed := if meets then [] else s.openFor i eyes
    s.outlasts i missed.length →
    let j : Item := { i with missRun := i.missRun + missed.length }
    ((∀ y : ZoneId, y.val = z.val + 1 → s.activeLayout.zones[y] = none) →
      Happens c s
        { u.without i.tag with counters := { s.counters with exited := s.counters.exited + 1 } }
        [.exited i.tag
          { i.flags with
            unconfirmedDivert := i.flags.unconfirmedDivert || i.state == .diverting }
          i.reference]) ∧
    (∀ (y : ZoneId) (def_ : ZoneDef), y.val = z.val + 1 → s.activeLayout.zones[y] = some def_ →
      def_.entryOffset < 16777216 →
      let joins : Nat → Item → Prop := fun q k => Leads c s fun t =>
        ∃ m : Item, CarriesOn s y q meets after k m ∧
          CarriedPast s
            ((u.withTrack z behind).withTrack y (s.zones[y].track ++
              [{ m with zone := y, base := s.zones[y].count - BitVec.ofNat 24 q }]))
            t y i.tag (-1) q
      let tail := s.zones[y].track.getLast?.map (s.place y)
      ((∀ q ∈ tail, def_.entryOffset < q) → joins def_.entryOffset j) ∧
      (∀ q ∈ tail, 1 ≤ q → q ≤ def_.entryOffset → joins (q - 1) j.markAtRisk) ∧
      (tail = some 0 → Happens c s
        { u.without i.tag with counters := { s.counters with lost := s.counters.lost + 1 } }
        [.lost i.tag y none .transfer]))) ∧
  ∀ (s : State) (z y : ZoneId) (behind : List Item) (i : Item) (d : DiverterId) (c : Instr),
    LayoutLaws s → HaltReasonLaws s → RecordLaws s → TrackLaws s → DiverterLaws s → LinkLaws s →
    s.resetActive = false → s.module ≠ .unconfigured →
    s.zones[z].track = i :: behind → s.diverters[d].slot = some i.tag →
    s.place z i + 1 = s.activeLayout.zoneLength z →
    y.val = z.val + 1 → s.activeLayout.zones[y].isSome = true →
    (∀ j ∈ s.zones[y].track, s.place y j ≠ 0) →
    (∀ v : DiverterId, ∀ f ∈ s.activeLayout.diverters[v], f.zone = y →
      (∃ n ∈ i.destination, s.activeLayout.destinations[n].primary = some v ∨
        s.activeLayout.destinations[n].alternate = some v) →
      f.lead + (s.activeLayout.zones[y].map ZoneDef.entryOffset).getD 0 < f.firePosition) →
    (∀ j ∈ behind, ∀ e : EyeId,
      pointIn s.activeLayout z (.windowEnd e) ≠ some ((s.place z j : Int) + 1)) →
    (∀ j ∈ behind, ∀ v : DiverterId,
      pointIn s.activeLayout z (.trigger v) ≠ some ((s.place z j : Int) + 1)) →
    (z = 0 → s.span = .measuring → s.spanCount ≠ s.activeLayout.line.maxLength) →
    (c = .homeInactiveEdge d ∨ c = .strokeTimerExpiry d ∨ c = .estopChangeAtDiverters true ∨
      ∃ seq b, c = .disableDiverter seq [b]) →
    let unmarked : Item → Item := fun j => { j with returnedAt := none }
    ∃ m t n w, step { s with pending := [.encoderPulse z, c] } = .next m ∧ step m = .next t ∧
      step { s with pending := [c, .encoderPulse z] } = .next n ∧ step n = .next w ∧
      t.zones[z].track.map unmarked = w.zones[z].track.map unmarked ∧
      { t with
        freeIndex := w.freeIndex
        zones := t.zones.set z { t.zones[z] with track := w.zones[z].track } } = w

/-! ### Eye edges -/

/-- R7, R33, R63, R68 to R70: a blocked edge at a CLEAR or JAM_HELD confirmation eye is matched to the most
downstream TRACKED item due there that stands within the window, and sets its position, bounded by its
neighbours. The item then comes to the points that it has been carried past. With no such item the edge
is a phantom. A DISABLED eye, and an input whose eye is not defined (the model's choice, log entry 5),
only follow the input. -/
def Obligations.ConfirmationEyeMatchesItsBlockedEdge : Prop :=
  ∀ (s : State) (e : EyeId), RecordLaws s → s.resetActive = false →
    let level : Bool → State := fun active =>
      { s with inputs := { s.inputs with eyes := s.inputs.eyes.set e active } }
    let c : Instr := .blockedEdge e
    (s.activeLayout.eyes[e] = none →
      (s.inputs.eyes[e] = false → Happens (.blockedEdge e) s (level true) []) ∧
      (s.inputs.eyes[e] = true → Happens (.unblockedEdge e) s (level false) [])) ∧
    (∀ d ∈ s.activeLayout.eyes[e], d.role = .confirm →
      let active := d.sense == .darkOn
      let became : EyeState → Bool → State := fun state a =>
        { level a with eyes := s.eyes.set e ⟨state, 0⟩ }
      let blocked : State := became (if s.eyes[e].state = .clear then .blocked else .jammed) active
      let due : Item → Prop := fun j => j.state = .tracked ∧ j.nextEye = some e ∧
        d.position ≤ s.place d.zone j + d.tolerance ∧
        s.place d.zone j ≤ d.position + d.tolerance
      (s.inputs.eyes[e] = !active →
        (s.eyes[e].state = .disabled → Happens c s (level active) []) ∧
        (s.eyes[e].state = .clear ∨ s.eyes[e].state = .jamHeld →
          ((∀ j ∈ s.zones[d.zone].track, ¬ due j) →
            Happens c s
              { blocked with counters := { s.counters with phantom := s.counters.phantom + 1 } }
              [.phantom e d.zone]) ∧
          ∀ (ahead behind : List Item) (i : Item),
            s.zones[d.zone].track = ahead ++ i :: behind → due i → (∀ j ∈ ahead, ¬ due j) →
            let above := ahead.getLast?.map (s.place d.zone)
            let below := behind.head?.map (s.place d.zone)
            let bounded : Nat :=
              if above.any (fun q => q ≤ d.position) then above.getD 0 - 1
              else if below.any (fun q => d.position ≤ q) then below.getD 0 + 1 else d.position
            Leads c s fun t =>
              CarriedPast s
                (blocked.withTrack d.zone (ahead ++
                  { i with
                    nextEye := s.activeLayout.eyeFollowing e, missRun := 0, returnedAt := none
                    flags := { i.flags with atRisk := false }
                    base := s.zones[d.zone].count - BitVec.ofNat 24 bounded } :: behind))
                t d.zone i.tag (s.place d.zone i) bounded)) ∧
      (s.inputs.eyes[e] = active →
        (s.eyes[e].state = .blocked →
          Happens (.unblockedEdge e) s (became .clear (!active)) []) ∧
        (s.eyes[e].state = .jammed →
          Happens (.unblockedEdge e) s (became .jamHeld (!active)) []) ∧
        (s.eyes[e].state = .disabled →
          Happens (.unblockedEdge e) s (level (!active)) [])))

/-- R47, R48, R50, R63: a blocked edge at the induction eye begins a span. An unblocked edge ends it. A
span shorter than the minimum item length is counted as noise, and the edge that ends PASSED makes no
item. The span count outside MEASURING is put to 0 (the model's choice, log entry 14). -/
def Obligations.InductionEyeMeasuresASpan : Prop :=
  ∀ (s : State) (e : EyeId) (d : EyeDef), s.resetActive = false →
    s.activeLayout.eyes[e] = some d → d.role = .induct →
    let active := d.sense == .darkOn
    let became : EyeState → Bool → State := fun state a =>
      { s with
        inputs := { s.inputs with eyes := s.inputs.eyes.set e a }
        eyes := s.eyes.set e ⟨state, 0⟩ }
    let open_ := s.eyes[e].state = .clear ∨ s.eyes[e].state = .jamHeld
    let shut := s.eyes[e].state = .blocked ∨ s.eyes[e].state = .jammed
    let blocked := became (if s.eyes[e].state = .clear then .blocked else .jammed) active
    let cleared := became (if s.eyes[e].state = .blocked then .clear else .jamHeld) (!active)
    (s.inputs.eyes[e] = !active → open_ → s.span = .idle →
      Happens (.blockedEdge e) s { blocked with span := .measuring, spanCount := 0 } []) ∧
    (s.inputs.eyes[e] = active → shut → s.span = .passed →
      Happens (.unblockedEdge e) s { cleared with span := .idle, spanCount := 0 } []) ∧
    (s.inputs.eyes[e] = active → shut → s.span = .measuring →
      s.spanCount < s.activeLayout.line.minLength →
      Happens (.unblockedEdge e) s
        { cleared with
          span := .idle, spanCount := 0
          counters :=
            { s.counters with noiseDiscards := s.counters.noiseDiscards + 1 } } [])

/-- R24, R36, R37, R49 to R56: the end of a span of accepted length, or the pulse that takes a span past
the maximum length, inducts an item: it takes the oldest announcement or the next unused anonymous
tag, stands at the tail of zone 0 at the eye's position plus its length, and claims its diverter at
the tail of that claim list. With no free record it is UNTRACKED. The span count outside MEASURING is
put to 0 (the model's choice, log entry 14). -/
def Obligations.InductionMakesTheItem : Prop :=
  ∀ (s b : State) (c : Instr) (e : EyeId) (d : EyeDef) (length k : Nat) (overlength : Bool),
    LayoutLaws s → RecordLaws s → TrackLaws s → EyeLaws s → s.resetActive = false →
    s.activeLayout.eyes[e] = some d → d.role = .induct → s.span = .measuring →
    let line := s.activeLayout.line
    (c = .unblockedEdge e ∧ s.inputs.eyes[e] = (d.sense == .darkOn) ∧
        line.minLength ≤ s.spanCount ∧ length = s.spanCount ∧ overlength = false ∧
        b = { s with
              inputs := { s.inputs with eyes := s.inputs.eyes.set e (d.sense == .lightOn) }
              eyes := s.eyes.set e ⟨if s.eyes[e].state = .blocked then .clear else .jamHeld, 0⟩
              span := .idle, spanCount := 0 } ∨
      c = .encoderPulse 0 ∧ s.spanCount = line.maxLength ∧ length = line.maxLength + 1 ∧
        overlength = true ∧
        (∀ i ∈ s.zones[(0 : ZoneId)].track, NothingAt s 0 ((s.pulsed 0).place 0 i) i) ∧
        b = { s.pulsed 0 with span := .passed, spanCount := 0 }) →
    let asked := d.position + length
    (∀ q ∈ b.zones[(0 : ZoneId)].track.getLast?.map (b.place 0), asked < q) →
    (s.freeRecords = 0 → Happens c s b [.untracked e]) ∧
    (1 ≤ s.freeRecords →
      (∀ n < k, ∃ i ∈ s.lineItems, i.tag = s.anonymousTag n) →
      (∀ i ∈ s.lineItems, i.tag ≠ s.anonymousTag k) →
      let item := b.inductedItem e d length overlength k
      Happens c s (b.withInduction item k) [b.inductedReport item])

/-! ### Home edges, the field's timers and the emergency stop -/

/-- R100 to R105, R107: a home edge in every state of its diverter. At an UNDEFINED diverter it only moves
the input (the model's choice, log entry 5). -/
def Obligations.HomeEdgesMoveTheDiverter : Prop :=
  ∀ (s : State) (d : DiverterId), RecordLaws s → s.resetActive = false →
    let level : Bool → State := fun a =>
      { s with inputs := { s.inputs with homes := s.inputs.homes.set d a } }
    let becomes : Bool → Diverter → State := fun a u =>
      { level a with diverters := s.diverters.set d u }
    let faults : Instr → Bool → DiverterCause → Prop := fun c a cause =>
      Leads c s fun t =>
        FaultsAway (level a) t d cause
    let state := s.diverters[d].state
    let holding : Diverter := ⟨.holding,
      some ⟨(s.activeLayout.diverters[d].map DiverterDef.dwell).getD 0, 0⟩, none,
      s.diverters[d].testMark⟩
    (s.inputs.homes[d] = false →
      (state = .settling → Happens (.homeActiveEdge d) s
        (becomes true { s.diverters[d] with state := .idle, timer := none })
        [.diverterChange d .idle .homed]) ∧
      (state = .retracting → Happens (.homeActiveEdge d) s
        (becomes true { s.diverters[d] with state := .idle, timer := none, testMark := false })
        (if s.diverters[d].testMark then [.diverterChange d .idle .testComplete] else [])) ∧
      (state = .holding → faults (.homeActiveEdge d) true .shortStroke) ∧
      (state ≠ .settling → state ≠ .retracting → state ≠ .holding →
        Happens (.homeActiveEdge d) s (level true) [])) ∧
    (s.inputs.homes[d] = true →
      (state = .idle → faults (.homeInactiveEdge d) false .homeLost) ∧
      (state = .extending → s.diverters[d].slot = none →
        Happens (.homeInactiveEdge d) s (becomes false holding) []) ∧
      (state = .extending → ∀ i ∈ s.lineItems, s.diverters[d].slot = some i.tag →
        Happens (.homeInactiveEdge d) s
          { (becomes false holding).without i.tag with
            counters := { s.counters with diverted := s.counters.diverted + 1 } }
          [.diverted i.tag d i.reference]) ∧
      (state ≠ .idle → state ≠ .extending →
        Happens (.homeInactiveEdge d) s (level false) []))

/-- R1, R64, R65, R100, R103 to R105, R107: the running-out of a jam timer, which runs at a BLOCKED eye
whose jam time is not 0 while the permit of its zone is on, and of a diverter's timer in each state that
runs one, each when it has run for its time. The count that the record of a returned item keeps is the
model's (log entry 25). -/
def Obligations.FieldTimersJamFaultOrRetract : Prop :=
  ∀ (s : State) (e : EyeId) (d : DiverterId), s.resetActive = false →
    (∀ v ∈ s.activeLayout.eyes[e], s.eyes[e].state = .blocked → v.jamTime ≠ 0 →
      s.zones[v.zone].permit = true → v.jamTime ≤ s.eyes[e].jamElapsed →
      Happens (.jamTimerExpiry e) s
        { s with
          eyes := s.eyes.set e ⟨.jammed, 0⟩
          zones := s.zones.set v.zone { s.zones[v.zone] with
            reasons := { s.zones[v.zone].reasons with jam := true } } }
        [.jam e v.zone true]) ∧
    (RecordLaws s → DiverterLaws s → (∀ τ ∈ s.diverters[d].timer, τ.duration ≤ τ.elapsed) →
      let faults : Instr → DiverterCause → Prop := fun c cause =>
        Leads c s fun t => FaultsAway s t d cause
      let state := s.diverters[d].state
      (state = .extending → faults (.strokeTimerExpiry d) .strokeTimeout) ∧
      (state = .holding →
        Happens (.dwellTimerExpiry d) s
          { s with diverters := s.diverters.set d { s.diverters[d] with
              state := .retracting
              timer := some
                ⟨(s.activeLayout.diverters[d].map DiverterDef.returnTimeout).getD 0, 0⟩ } } []) ∧
      (state = .settling → faults (.returnTimerExpiry d) .noHome) ∧
      (state = .retracting → faults (.returnTimerExpiry d) .returnTimeout))

/-- R14, R105, R108, R117, R124, Table 6-10: the ESTOP input's change, at the zone unit and at the diverter
unit, as two commands (the model's choice, log entry 9). A stroke withdrawn before the actuator has left
home is home at once. Where the actuator leaves home just then (an inactive edge that meets the stop: the
model's choice of how that shows, log entry 23), the diverter is RETRACTING with its return timer running,
and the edge then has no effect. The count that the record of a returned item keeps is the model's (log entry
25). -/
def Obligations.EstopHoldsTheZonesAndWithdrawsTheStrokes : Prop :=
  ∀ (s : State) (active : Bool), s.resetActive = false →
    let changed : State := { s with inputs := { s.inputs with estop := active } }
    Happens (.estopChangeAtZones active) s
      { changed with zones := Vector.ofFn fun z =>
          { s.zones[z] with reasons := { s.zones[z].reasons with estop := active } } } [] ∧
    (active = false → Happens (.estopChangeAtDiverters active) s changed []) ∧
    (active = true → RecordLaws s → DiverterLaws s →
      let extending := allDiverters.filter fun d => s.diverters[d].state == .extending
      let retracting : DiverterId → Diverter := fun d =>
        ⟨.retracting, some ⟨(s.activeLayout.diverters[d].map DiverterDef.returnTimeout).getD 0, 0⟩,
          none, s.diverters[d].testMark⟩
      let returned : List (Nat × DiverterId) := extending.flatMap fun d =>
        s.diverters[d].slot.toList.map fun tag => (tag, d)
      let new : Nat × DiverterId → Option DiverterId := fun r =>
        (s.findItem r.1).bind fun i => s.assignment i (some r.2)
      Leads (.estopChangeAtDiverters active) s fun t =>
        BringsAway s
          { changed with
            inputs := { changed.inputs with
              homes := Vector.ofFn fun d => s.inputs.homes[d] && !s.leavingHome d }
            claims := t.claims
            diverters := Vector.ofFn fun d =>
              if s.leavingHome d = true ∨ s.diverters[d].state = .holding then retracting d
              else if s.diverters[d].state = .extending then ⟨.idle, none, none, false⟩
              else s.diverters[d]
            zones := Vector.ofFn fun z =>
              { s.zones[z] with track := s.zones[z].track.map fun i =>
                  match returned.find? fun r => r.1 = i.tag with
                  | some r =>
                    { i.markAtRisk with
                      state := .tracked, returnedAt := some s.zones[z].count, assigned := new r }
                  | none => i } }
          t
          ((extending.filter fun d => s.diverters[d].testMark && !s.leavingHome d).map
              (fun d => .diverterChange d .idle .testComplete) ++
            returned.map fun r => .missedDivert r.1 r.2 .estop (new r)) ∧
        (∀ v : DiverterId,
          (t.claims[v].filter fun tag => !(returned.map Prod.fst).contains tag) = s.claims[v] ∧
          ∀ r ∈ returned, (r.1 ∈ t.claims[v] ↔ new r = some v)) ∧
        ∀ d : DiverterId, s.leavingHome d = true → exec (.homeInactiveEdge d) t = .next t)

/-! ### The link's timers and the transmitter -/

/-- R1, R158, R172, R176: once its time has run, the link timer's running-out takes the link DOWN and
claims LINK in zone 0 under infeed hold, and the resend timer's makes every report UNSENT, the oldest
beginning again at once if the transmitter is FREE. -/
def Obligations.LinkAndResendTimersUnsendTheReports : Prop :=
  ∀ (s : State), s.resetActive = false → ReportQueueLaws s → LinkLaws s →
    let unsent : ReportQueue :=
      { s.reports with
        entries := s.reports.entries.map fun e => { e with outstanding := false }
        outstanding := 0, resendTimer := none }
    let due : Option Timer → Prop := fun timer => ∃ τ ∈ timer, τ.duration ≤ τ.elapsed
    (s.link.up = true → due s.link.linkTimer →
      Happens .linkTimerExpiry s
        { s with
          link := { s.link with up := false, linkTimer := none }
          reports := unsent
          zones := Vector.ofFn fun z =>
            { s.zones[z] with reasons := { s.zones[z].reasons with
                link := s.zones[z].reasons.link || decide (z = 0 ∧ s.module ≠ .unconfigured ∧
                  s.activeLayout.line.infeedHold = true) } } }
        []) ∧
    (due s.reports.resendTimer →
      Happens .resendTimerExpiry s { s with reports := unsent } []) ∧
    (due s.reports.resendTimer → s.link.transmitter = .free →
      Leads .resendTimerExpiry s fun t => ∃ (e : Entry) (rest : List Entry),
        t.reports.entries = { e with outstanding := true } :: rest ∧
        s.reports.entries.head?.map Entry.number = some e.number ∧
        (∀ f ∈ rest, f.outstanding = false) ∧ t.reports.outstanding = 1 ∧
        t.reports.resendTimer = some ⟨s.link.settings.resendTime, 0⟩ ∧
        t.link = { s.link with transmitter := .sending (sentFrame e).bytes })

/-- R161, R162, R170, R171, R181, R185: when the last byte of a frame has gone, the reply in the slot
begins, or else the oldest UNSENT report if the link is UP and the window allows it, or else the
transmitter stays FREE. A report's frame has the kind of Table 10-5, and after its number and superseded
count the fields of Table 10-10, coded as Tables 10-2 and 10-3 give. -/
def Obligations.FrameEndLetsTheNextFrameBegin : Prop :=
  ∀ (s : State) (frame : List Byte), s.resetActive = false → ReportQueueLaws s →
    s.link.transmitter = .sending frame → HaltReasonLaws s →
    let now : HostLink → ReportQueue → Prop := fun link reports =>
      exec .frameSent s = .next { s with link := link, reports := reports }
    (∀ reply ∈ s.link.slot,
      now { s.link with slot := none, transmitter := .sending reply.bytes } s.reports) ∧
    (s.link.slot = none → s.link.up = true →
      s.reports.outstanding < s.link.settings.sendWindow →
      ∀ (sent rest : List Entry) (e : Entry), s.reports.entries = sent ++ e :: rest →
      sent.length = s.reports.outstanding →
      now
        { s.link with transmitter := .sending (sentFrame e).bytes }
        ⟨sent ++ { e with outstanding := true } :: rest, s.reports.nextNumber,
          s.reports.outstanding + 1,
          if s.reports.outstanding = 0 then some ⟨s.link.settings.resendTime, 0⟩
          else s.reports.resendTimer⟩) ∧
    (s.link.slot = none →
      (s.link.up = false ∨ s.link.settings.sendWindow ≤ s.reports.outstanding ∨
        s.reports.entries.length = s.reports.outstanding) →
      now { s.link with transmitter := .free } s.reports)
end

