-- ==== Sys2Proof/Laws/State.lean ====
section
/-! SUPPORT. What each named update of the state leaves in each field: one lemma for a field and an update,
true by `rfl`. -/

namespace Sys2Proof.Machine

variable (s : State)


/-! ### State.post -/

@[simp] theorem State.post_module (r : Report) : (s.post r).module = s.module := rfl
@[simp] theorem State.post_pendingLayout (r : Report) :
    (s.post r).pendingLayout = s.pendingLayout := rfl
@[simp] theorem State.post_activeLayout (r : Report) :
    (s.post r).activeLayout = s.activeLayout := rfl
@[simp] theorem State.post_counters (r : Report) :
    (s.post r).counters = { s.counters with
      reportsSuperseded := s.counters.reportsSuperseded + if s.reports.hasRoom then 0 else 1 } := rfl
@[simp] theorem State.post_zones (r : Report) : (s.post r).zones = s.zones := rfl
@[simp] theorem State.post_freeRecords (r : Report) : (s.post r).freeRecords = s.freeRecords := rfl
@[simp] theorem State.post_nextAnonymous (r : Report) :
    (s.post r).nextAnonymous = s.nextAnonymous := rfl
@[simp] theorem State.post_announcements (r : Report) :
    (s.post r).announcements = s.announcements := rfl
@[simp] theorem State.post_span (r : Report) : (s.post r).span = s.span := rfl
@[simp] theorem State.post_spanCount (r : Report) : (s.post r).spanCount = s.spanCount := rfl
@[simp] theorem State.post_eyes (r : Report) : (s.post r).eyes = s.eyes := rfl
@[simp] theorem State.post_claims (r : Report) : (s.post r).claims = s.claims := rfl
@[simp] theorem State.post_diverters (r : Report) : (s.post r).diverters = s.diverters := rfl
@[simp] theorem State.post_link (r : Report) : (s.post r).link = s.link := rfl
@[simp] theorem State.post_reports (r : Report) : (s.post r).reports = s.reports.post r := rfl
@[simp] theorem State.post_inputs (r : Report) : (s.post r).inputs = s.inputs := rfl
@[simp] theorem State.post_resetActive (r : Report) : (s.post r).resetActive = s.resetActive := rfl
@[simp] theorem State.post_pending (r : Report) : (s.post r).pending = s.pending := rfl
@[simp] theorem State.post_freeIndex (r : Report) : (s.post r).freeIndex = s.freeIndex := rfl

/-! ### State.modifyZone -/

@[simp] theorem State.modifyZone_module (z : ZoneId) (f : ZoneUnit → ZoneUnit) :
    (s.modifyZone z f).module = s.module := rfl
@[simp] theorem State.modifyZone_pendingLayout (z : ZoneId) (f : ZoneUnit → ZoneUnit) :
    (s.modifyZone z f).pendingLayout = s.pendingLayout := rfl
@[simp] theorem State.modifyZone_activeLayout (z : ZoneId) (f : ZoneUnit → ZoneUnit) :
    (s.modifyZone z f).activeLayout = s.activeLayout := rfl
@[simp] theorem State.modifyZone_counters (z : ZoneId) (f : ZoneUnit → ZoneUnit) :
    (s.modifyZone z f).counters = s.counters := rfl
@[simp] theorem State.modifyZone_zones (z : ZoneId) (f : ZoneUnit → ZoneUnit) :
    (s.modifyZone z f).zones = s.zones.set z (f s.zones[z]) := rfl
@[simp] theorem State.modifyZone_freeRecords (z : ZoneId) (f : ZoneUnit → ZoneUnit) :
    (s.modifyZone z f).freeRecords = s.freeRecords := rfl
@[simp] theorem State.modifyZone_nextAnonymous (z : ZoneId) (f : ZoneUnit → ZoneUnit) :
    (s.modifyZone z f).nextAnonymous = s.nextAnonymous := rfl
@[simp] theorem State.modifyZone_announcements (z : ZoneId) (f : ZoneUnit → ZoneUnit) :
    (s.modifyZone z f).announcements = s.announcements := rfl
@[simp] theorem State.modifyZone_span (z : ZoneId) (f : ZoneUnit → ZoneUnit) :
    (s.modifyZone z f).span = s.span := rfl
@[simp] theorem State.modifyZone_spanCount (z : ZoneId) (f : ZoneUnit → ZoneUnit) :
    (s.modifyZone z f).spanCount = s.spanCount := rfl
@[simp] theorem State.modifyZone_eyes (z : ZoneId) (f : ZoneUnit → ZoneUnit) :
    (s.modifyZone z f).eyes = s.eyes := rfl
@[simp] theorem State.modifyZone_claims (z : ZoneId) (f : ZoneUnit → ZoneUnit) :
    (s.modifyZone z f).claims = s.claims := rfl
@[simp] theorem State.modifyZone_diverters (z : ZoneId) (f : ZoneUnit → ZoneUnit) :
    (s.modifyZone z f).diverters = s.diverters := rfl
@[simp] theorem State.modifyZone_link (z : ZoneId) (f : ZoneUnit → ZoneUnit) :
    (s.modifyZone z f).link = s.link := rfl
@[simp] theorem State.modifyZone_reports (z : ZoneId) (f : ZoneUnit → ZoneUnit) :
    (s.modifyZone z f).reports = s.reports := rfl
@[simp] theorem State.modifyZone_inputs (z : ZoneId) (f : ZoneUnit → ZoneUnit) :
    (s.modifyZone z f).inputs = s.inputs := rfl
@[simp] theorem State.modifyZone_resetActive (z : ZoneId) (f : ZoneUnit → ZoneUnit) :
    (s.modifyZone z f).resetActive = s.resetActive := rfl
@[simp] theorem State.modifyZone_pending (z : ZoneId) (f : ZoneUnit → ZoneUnit) :
    (s.modifyZone z f).pending = s.pending := rfl
@[simp] theorem State.modifyZone_freeIndex (z : ZoneId) (f : ZoneUnit → ZoneUnit) :
    (s.modifyZone z f).freeIndex = s.freeIndex := rfl

/-! ### State.mapZones -/

@[simp] theorem State.mapZones_module (f : ZoneId → ZoneUnit → ZoneUnit) :
    (s.mapZones f).module = s.module := rfl
@[simp] theorem State.mapZones_pendingLayout (f : ZoneId → ZoneUnit → ZoneUnit) :
    (s.mapZones f).pendingLayout = s.pendingLayout := rfl
@[simp] theorem State.mapZones_activeLayout (f : ZoneId → ZoneUnit → ZoneUnit) :
    (s.mapZones f).activeLayout = s.activeLayout := rfl
@[simp] theorem State.mapZones_counters (f : ZoneId → ZoneUnit → ZoneUnit) :
    (s.mapZones f).counters = s.counters := rfl
@[simp] theorem State.mapZones_zones (f : ZoneId → ZoneUnit → ZoneUnit) :
    (s.mapZones f).zones = Vector.ofFn fun z => f z s.zones[z] := rfl
@[simp] theorem State.mapZones_freeRecords (f : ZoneId → ZoneUnit → ZoneUnit) :
    (s.mapZones f).freeRecords = s.freeRecords := rfl
@[simp] theorem State.mapZones_nextAnonymous (f : ZoneId → ZoneUnit → ZoneUnit) :
    (s.mapZones f).nextAnonymous = s.nextAnonymous := rfl
@[simp] theorem State.mapZones_announcements (f : ZoneId → ZoneUnit → ZoneUnit) :
    (s.mapZones f).announcements = s.announcements := rfl
@[simp] theorem State.mapZones_span (f : ZoneId → ZoneUnit → ZoneUnit) :
    (s.mapZones f).span = s.span := rfl
@[simp] theorem State.mapZones_spanCount (f : ZoneId → ZoneUnit → ZoneUnit) :
    (s.mapZones f).spanCount = s.spanCount := rfl
@[simp] theorem State.mapZones_eyes (f : ZoneId → ZoneUnit → ZoneUnit) :
    (s.mapZones f).eyes = s.eyes := rfl
@[simp] theorem State.mapZones_claims (f : ZoneId → ZoneUnit → ZoneUnit) :
    (s.mapZones f).claims = s.claims := rfl
@[simp] theorem State.mapZones_diverters (f : ZoneId → ZoneUnit → ZoneUnit) :
    (s.mapZones f).diverters = s.diverters := rfl
@[simp] theorem State.mapZones_link (f : ZoneId → ZoneUnit → ZoneUnit) :
    (s.mapZones f).link = s.link := rfl
@[simp] theorem State.mapZones_reports (f : ZoneId → ZoneUnit → ZoneUnit) :
    (s.mapZones f).reports = s.reports := rfl
@[simp] theorem State.mapZones_inputs (f : ZoneId → ZoneUnit → ZoneUnit) :
    (s.mapZones f).inputs = s.inputs := rfl
@[simp] theorem State.mapZones_resetActive (f : ZoneId → ZoneUnit → ZoneUnit) :
    (s.mapZones f).resetActive = s.resetActive := rfl
@[simp] theorem State.mapZones_pending (f : ZoneId → ZoneUnit → ZoneUnit) :
    (s.mapZones f).pending = s.pending := rfl
@[simp] theorem State.mapZones_freeIndex (f : ZoneId → ZoneUnit → ZoneUnit) :
    (s.mapZones f).freeIndex = s.freeIndex := rfl

/-! ### State.modifyReasons -/

@[simp] theorem State.modifyReasons_module (z : ZoneId) (f : Reasons → Reasons) :
    (s.modifyReasons z f).module = s.module := rfl
@[simp] theorem State.modifyReasons_pendingLayout (z : ZoneId) (f : Reasons → Reasons) :
    (s.modifyReasons z f).pendingLayout = s.pendingLayout := rfl
@[simp] theorem State.modifyReasons_activeLayout (z : ZoneId) (f : Reasons → Reasons) :
    (s.modifyReasons z f).activeLayout = s.activeLayout := rfl
@[simp] theorem State.modifyReasons_counters (z : ZoneId) (f : Reasons → Reasons) :
    (s.modifyReasons z f).counters = s.counters := rfl
@[simp] theorem State.modifyReasons_zones (z : ZoneId) (f : Reasons → Reasons) :
    (s.modifyReasons z f).zones = s.zones.set z { s.zones[z] with reasons := f s.zones[z].reasons } := rfl
@[simp] theorem State.modifyReasons_freeRecords (z : ZoneId) (f : Reasons → Reasons) :
    (s.modifyReasons z f).freeRecords = s.freeRecords := rfl
@[simp] theorem State.modifyReasons_nextAnonymous (z : ZoneId) (f : Reasons → Reasons) :
    (s.modifyReasons z f).nextAnonymous = s.nextAnonymous := rfl
@[simp] theorem State.modifyReasons_announcements (z : ZoneId) (f : Reasons → Reasons) :
    (s.modifyReasons z f).announcements = s.announcements := rfl
@[simp] theorem State.modifyReasons_span (z : ZoneId) (f : Reasons → Reasons) :
    (s.modifyReasons z f).span = s.span := rfl
@[simp] theorem State.modifyReasons_spanCount (z : ZoneId) (f : Reasons → Reasons) :
    (s.modifyReasons z f).spanCount = s.spanCount := rfl
@[simp] theorem State.modifyReasons_eyes (z : ZoneId) (f : Reasons → Reasons) :
    (s.modifyReasons z f).eyes = s.eyes := rfl
@[simp] theorem State.modifyReasons_claims (z : ZoneId) (f : Reasons → Reasons) :
    (s.modifyReasons z f).claims = s.claims := rfl
@[simp] theorem State.modifyReasons_diverters (z : ZoneId) (f : Reasons → Reasons) :
    (s.modifyReasons z f).diverters = s.diverters := rfl
@[simp] theorem State.modifyReasons_link (z : ZoneId) (f : Reasons → Reasons) :
    (s.modifyReasons z f).link = s.link := rfl
@[simp] theorem State.modifyReasons_reports (z : ZoneId) (f : Reasons → Reasons) :
    (s.modifyReasons z f).reports = s.reports := rfl
@[simp] theorem State.modifyReasons_inputs (z : ZoneId) (f : Reasons → Reasons) :
    (s.modifyReasons z f).inputs = s.inputs := rfl
@[simp] theorem State.modifyReasons_resetActive (z : ZoneId) (f : Reasons → Reasons) :
    (s.modifyReasons z f).resetActive = s.resetActive := rfl
@[simp] theorem State.modifyReasons_pending (z : ZoneId) (f : Reasons → Reasons) :
    (s.modifyReasons z f).pending = s.pending := rfl
@[simp] theorem State.modifyReasons_freeIndex (z : ZoneId) (f : Reasons → Reasons) :
    (s.modifyReasons z f).freeIndex = s.freeIndex := rfl

/-! ### State.setEye -/

@[simp] theorem State.setEye_module (e : EyeId) (x : EyeState) :
    (s.setEye e x).module = s.module := rfl
@[simp] theorem State.setEye_pendingLayout (e : EyeId) (x : EyeState) :
    (s.setEye e x).pendingLayout = s.pendingLayout := rfl
@[simp] theorem State.setEye_activeLayout (e : EyeId) (x : EyeState) :
    (s.setEye e x).activeLayout = s.activeLayout := rfl
@[simp] theorem State.setEye_counters (e : EyeId) (x : EyeState) :
    (s.setEye e x).counters = s.counters := rfl
@[simp] theorem State.setEye_zones (e : EyeId) (x : EyeState) :
    (s.setEye e x).zones = s.zones := rfl
@[simp] theorem State.setEye_freeRecords (e : EyeId) (x : EyeState) :
    (s.setEye e x).freeRecords = s.freeRecords := rfl
@[simp] theorem State.setEye_nextAnonymous (e : EyeId) (x : EyeState) :
    (s.setEye e x).nextAnonymous = s.nextAnonymous := rfl
@[simp] theorem State.setEye_announcements (e : EyeId) (x : EyeState) :
    (s.setEye e x).announcements = s.announcements := rfl
@[simp] theorem State.setEye_span (e : EyeId) (x : EyeState) : (s.setEye e x).span = s.span := rfl
@[simp] theorem State.setEye_spanCount (e : EyeId) (x : EyeState) :
    (s.setEye e x).spanCount = s.spanCount := rfl
@[simp] theorem State.setEye_eyes (e : EyeId) (x : EyeState) :
    (s.setEye e x).eyes = s.eyes.set e ⟨x, 0⟩ := rfl
@[simp] theorem State.setEye_claims (e : EyeId) (x : EyeState) :
    (s.setEye e x).claims = s.claims := rfl
@[simp] theorem State.setEye_diverters (e : EyeId) (x : EyeState) :
    (s.setEye e x).diverters = s.diverters := rfl
@[simp] theorem State.setEye_link (e : EyeId) (x : EyeState) : (s.setEye e x).link = s.link := rfl
@[simp] theorem State.setEye_reports (e : EyeId) (x : EyeState) :
    (s.setEye e x).reports = s.reports := rfl
@[simp] theorem State.setEye_inputs (e : EyeId) (x : EyeState) :
    (s.setEye e x).inputs = s.inputs := rfl
@[simp] theorem State.setEye_resetActive (e : EyeId) (x : EyeState) :
    (s.setEye e x).resetActive = s.resetActive := rfl
@[simp] theorem State.setEye_pending (e : EyeId) (x : EyeState) :
    (s.setEye e x).pending = s.pending := rfl
@[simp] theorem State.setEye_freeIndex (e : EyeId) (x : EyeState) :
    (s.setEye e x).freeIndex = s.freeIndex := rfl

/-! ### State.modifyDiverter -/

@[simp] theorem State.modifyDiverter_module (d : DiverterId) (f : Diverter → Diverter) :
    (s.modifyDiverter d f).module = s.module := rfl
@[simp] theorem State.modifyDiverter_pendingLayout (d : DiverterId) (f : Diverter → Diverter) :
    (s.modifyDiverter d f).pendingLayout = s.pendingLayout := rfl
@[simp] theorem State.modifyDiverter_activeLayout (d : DiverterId) (f : Diverter → Diverter) :
    (s.modifyDiverter d f).activeLayout = s.activeLayout := rfl
@[simp] theorem State.modifyDiverter_counters (d : DiverterId) (f : Diverter → Diverter) :
    (s.modifyDiverter d f).counters = s.counters := rfl
@[simp] theorem State.modifyDiverter_zones (d : DiverterId) (f : Diverter → Diverter) :
    (s.modifyDiverter d f).zones = s.zones := rfl
@[simp] theorem State.modifyDiverter_freeRecords (d : DiverterId) (f : Diverter → Diverter) :
    (s.modifyDiverter d f).freeRecords = s.freeRecords := rfl
@[simp] theorem State.modifyDiverter_nextAnonymous (d : DiverterId) (f : Diverter → Diverter) :
    (s.modifyDiverter d f).nextAnonymous = s.nextAnonymous := rfl
@[simp] theorem State.modifyDiverter_announcements (d : DiverterId) (f : Diverter → Diverter) :
    (s.modifyDiverter d f).announcements = s.announcements := rfl
@[simp] theorem State.modifyDiverter_span (d : DiverterId) (f : Diverter → Diverter) :
    (s.modifyDiverter d f).span = s.span := rfl
@[simp] theorem State.modifyDiverter_spanCount (d : DiverterId) (f : Diverter → Diverter) :
    (s.modifyDiverter d f).spanCount = s.spanCount := rfl
@[simp] theorem State.modifyDiverter_eyes (d : DiverterId) (f : Diverter → Diverter) :
    (s.modifyDiverter d f).eyes = s.eyes := rfl
@[simp] theorem State.modifyDiverter_claims (d : DiverterId) (f : Diverter → Diverter) :
    (s.modifyDiverter d f).claims = s.claims := rfl
@[simp] theorem State.modifyDiverter_diverters (d : DiverterId) (f : Diverter → Diverter) :
    (s.modifyDiverter d f).diverters = s.diverters.set d (f s.diverters[d]) := rfl
@[simp] theorem State.modifyDiverter_link (d : DiverterId) (f : Diverter → Diverter) :
    (s.modifyDiverter d f).link = s.link := rfl
@[simp] theorem State.modifyDiverter_reports (d : DiverterId) (f : Diverter → Diverter) :
    (s.modifyDiverter d f).reports = s.reports := rfl
@[simp] theorem State.modifyDiverter_inputs (d : DiverterId) (f : Diverter → Diverter) :
    (s.modifyDiverter d f).inputs = s.inputs := rfl
@[simp] theorem State.modifyDiverter_resetActive (d : DiverterId) (f : Diverter → Diverter) :
    (s.modifyDiverter d f).resetActive = s.resetActive := rfl
@[simp] theorem State.modifyDiverter_pending (d : DiverterId) (f : Diverter → Diverter) :
    (s.modifyDiverter d f).pending = s.pending := rfl
@[simp] theorem State.modifyDiverter_freeIndex (d : DiverterId) (f : Diverter → Diverter) :
    (s.modifyDiverter d f).freeIndex = s.freeIndex := rfl

/-! ### State.count -/

@[simp] theorem State.count_module (f : Counters → Counters) : (s.count f).module = s.module := rfl
@[simp] theorem State.count_pendingLayout (f : Counters → Counters) :
    (s.count f).pendingLayout = s.pendingLayout := rfl
@[simp] theorem State.count_activeLayout (f : Counters → Counters) :
    (s.count f).activeLayout = s.activeLayout := rfl
@[simp] theorem State.count_counters (f : Counters → Counters) :
    (s.count f).counters = f s.counters := rfl
@[simp] theorem State.count_zones (f : Counters → Counters) : (s.count f).zones = s.zones := rfl
@[simp] theorem State.count_freeRecords (f : Counters → Counters) :
    (s.count f).freeRecords = s.freeRecords := rfl
@[simp] theorem State.count_nextAnonymous (f : Counters → Counters) :
    (s.count f).nextAnonymous = s.nextAnonymous := rfl
@[simp] theorem State.count_announcements (f : Counters → Counters) :
    (s.count f).announcements = s.announcements := rfl
@[simp] theorem State.count_span (f : Counters → Counters) : (s.count f).span = s.span := rfl
@[simp] theorem State.count_spanCount (f : Counters → Counters) :
    (s.count f).spanCount = s.spanCount := rfl
@[simp] theorem State.count_eyes (f : Counters → Counters) : (s.count f).eyes = s.eyes := rfl
@[simp] theorem State.count_claims (f : Counters → Counters) : (s.count f).claims = s.claims := rfl
@[simp] theorem State.count_diverters (f : Counters → Counters) :
    (s.count f).diverters = s.diverters := rfl
@[simp] theorem State.count_link (f : Counters → Counters) : (s.count f).link = s.link := rfl
@[simp] theorem State.count_reports (f : Counters → Counters) :
    (s.count f).reports = s.reports := rfl
@[simp] theorem State.count_inputs (f : Counters → Counters) : (s.count f).inputs = s.inputs := rfl
@[simp] theorem State.count_resetActive (f : Counters → Counters) :
    (s.count f).resetActive = s.resetActive := rfl
@[simp] theorem State.count_pending (f : Counters → Counters) :
    (s.count f).pending = s.pending := rfl
@[simp] theorem State.count_freeIndex (f : Counters → Counters) :
    (s.count f).freeIndex = s.freeIndex := rfl

/-! ### State.updateItem -/

@[simp] theorem State.updateItem_module (tag : Nat) (f : Item → Item) :
    (s.updateItem tag f).module = s.module := rfl
@[simp] theorem State.updateItem_pendingLayout (tag : Nat) (f : Item → Item) :
    (s.updateItem tag f).pendingLayout = s.pendingLayout := rfl
@[simp] theorem State.updateItem_activeLayout (tag : Nat) (f : Item → Item) :
    (s.updateItem tag f).activeLayout = s.activeLayout := rfl
@[simp] theorem State.updateItem_counters (tag : Nat) (f : Item → Item) :
    (s.updateItem tag f).counters = s.counters := rfl
@[simp] theorem State.updateItem_freeRecords (tag : Nat) (f : Item → Item) :
    (s.updateItem tag f).freeRecords = s.freeRecords := rfl
@[simp] theorem State.updateItem_nextAnonymous (tag : Nat) (f : Item → Item) :
    (s.updateItem tag f).nextAnonymous = s.nextAnonymous := rfl
@[simp] theorem State.updateItem_announcements (tag : Nat) (f : Item → Item) :
    (s.updateItem tag f).announcements = s.announcements := rfl
@[simp] theorem State.updateItem_span (tag : Nat) (f : Item → Item) :
    (s.updateItem tag f).span = s.span := rfl
@[simp] theorem State.updateItem_spanCount (tag : Nat) (f : Item → Item) :
    (s.updateItem tag f).spanCount = s.spanCount := rfl
@[simp] theorem State.updateItem_eyes (tag : Nat) (f : Item → Item) :
    (s.updateItem tag f).eyes = s.eyes := rfl
@[simp] theorem State.updateItem_claims (tag : Nat) (f : Item → Item) :
    (s.updateItem tag f).claims = s.claims := rfl
@[simp] theorem State.updateItem_diverters (tag : Nat) (f : Item → Item) :
    (s.updateItem tag f).diverters = s.diverters := rfl
@[simp] theorem State.updateItem_link (tag : Nat) (f : Item → Item) :
    (s.updateItem tag f).link = s.link := rfl
@[simp] theorem State.updateItem_reports (tag : Nat) (f : Item → Item) :
    (s.updateItem tag f).reports = s.reports := rfl
@[simp] theorem State.updateItem_inputs (tag : Nat) (f : Item → Item) :
    (s.updateItem tag f).inputs = s.inputs := rfl
@[simp] theorem State.updateItem_resetActive (tag : Nat) (f : Item → Item) :
    (s.updateItem tag f).resetActive = s.resetActive := rfl
@[simp] theorem State.updateItem_pending (tag : Nat) (f : Item → Item) :
    (s.updateItem tag f).pending = s.pending := rfl
@[simp] theorem State.updateItem_freeIndex (tag : Nat) (f : Item → Item) :
    (s.updateItem tag f).freeIndex = s.freeIndex := rfl

/-! ### State.removeItem -/

@[simp] theorem State.removeItem_module (tag : Nat) : (s.removeItem tag).module = s.module := rfl
@[simp] theorem State.removeItem_pendingLayout (tag : Nat) :
    (s.removeItem tag).pendingLayout = s.pendingLayout := rfl
@[simp] theorem State.removeItem_activeLayout (tag : Nat) :
    (s.removeItem tag).activeLayout = s.activeLayout := rfl
@[simp] theorem State.removeItem_counters (tag : Nat) :
    (s.removeItem tag).counters = s.counters := rfl
@[simp] theorem State.removeItem_freeRecords (tag : Nat) :
    (s.removeItem tag).freeRecords = s.freeRecords := rfl
@[simp] theorem State.removeItem_nextAnonymous (tag : Nat) :
    (s.removeItem tag).nextAnonymous = s.nextAnonymous := rfl
@[simp] theorem State.removeItem_announcements (tag : Nat) :
    (s.removeItem tag).announcements = s.announcements := rfl
@[simp] theorem State.removeItem_span (tag : Nat) : (s.removeItem tag).span = s.span := rfl
@[simp] theorem State.removeItem_spanCount (tag : Nat) :
    (s.removeItem tag).spanCount = s.spanCount := rfl
@[simp] theorem State.removeItem_eyes (tag : Nat) : (s.removeItem tag).eyes = s.eyes := rfl
@[simp] theorem State.removeItem_claims (tag : Nat) : (s.removeItem tag).claims = s.claims := rfl
@[simp] theorem State.removeItem_diverters (tag : Nat) :
    (s.removeItem tag).diverters = s.diverters := rfl
@[simp] theorem State.removeItem_link (tag : Nat) : (s.removeItem tag).link = s.link := rfl
@[simp] theorem State.removeItem_reports (tag : Nat) : (s.removeItem tag).reports = s.reports := rfl
@[simp] theorem State.removeItem_inputs (tag : Nat) : (s.removeItem tag).inputs = s.inputs := rfl
@[simp] theorem State.removeItem_resetActive (tag : Nat) :
    (s.removeItem tag).resetActive = s.resetActive := rfl
@[simp] theorem State.removeItem_pending (tag : Nat) : (s.removeItem tag).pending = s.pending := rfl
@[simp] theorem State.removeItem_freeIndex (tag : Nat) :
    (s.removeItem tag).freeIndex = s.freeIndex := rfl

/-! ### State.deriveDownstream -/

@[simp] theorem State.deriveDownstream_module : (s.deriveDownstream).module = s.module := rfl
@[simp] theorem State.deriveDownstream_pendingLayout :
    (s.deriveDownstream).pendingLayout = s.pendingLayout := rfl
@[simp] theorem State.deriveDownstream_activeLayout :
    (s.deriveDownstream).activeLayout = s.activeLayout := rfl
@[simp] theorem State.deriveDownstream_counters : (s.deriveDownstream).counters = s.counters := rfl
@[simp] theorem State.deriveDownstream_freeRecords :
    (s.deriveDownstream).freeRecords = s.freeRecords := rfl
@[simp] theorem State.deriveDownstream_nextAnonymous :
    (s.deriveDownstream).nextAnonymous = s.nextAnonymous := rfl
@[simp] theorem State.deriveDownstream_announcements :
    (s.deriveDownstream).announcements = s.announcements := rfl
@[simp] theorem State.deriveDownstream_span : (s.deriveDownstream).span = s.span := rfl
@[simp] theorem State.deriveDownstream_spanCount :
    (s.deriveDownstream).spanCount = s.spanCount := rfl
@[simp] theorem State.deriveDownstream_eyes : (s.deriveDownstream).eyes = s.eyes := rfl
@[simp] theorem State.deriveDownstream_claims : (s.deriveDownstream).claims = s.claims := rfl
@[simp] theorem State.deriveDownstream_diverters :
    (s.deriveDownstream).diverters = s.diverters := rfl
@[simp] theorem State.deriveDownstream_link : (s.deriveDownstream).link = s.link := rfl
@[simp] theorem State.deriveDownstream_reports : (s.deriveDownstream).reports = s.reports := rfl
@[simp] theorem State.deriveDownstream_inputs : (s.deriveDownstream).inputs = s.inputs := rfl
@[simp] theorem State.deriveDownstream_resetActive :
    (s.deriveDownstream).resetActive = s.resetActive := rfl
@[simp] theorem State.deriveDownstream_pending : (s.deriveDownstream).pending = s.pending := rfl
@[simp] theorem State.deriveDownstream_freeIndex :
    (s.deriveDownstream).freeIndex = s.freeIndex := rfl

/-! ### State.evaluatePoolLow -/

@[simp] theorem State.evaluatePoolLow_module : (s.evaluatePoolLow).module = s.module := rfl
@[simp] theorem State.evaluatePoolLow_pendingLayout :
    (s.evaluatePoolLow).pendingLayout = s.pendingLayout := rfl
@[simp] theorem State.evaluatePoolLow_activeLayout :
    (s.evaluatePoolLow).activeLayout = s.activeLayout := rfl
@[simp] theorem State.evaluatePoolLow_counters : (s.evaluatePoolLow).counters = s.counters := rfl
@[simp] theorem State.evaluatePoolLow_freeRecords :
    (s.evaluatePoolLow).freeRecords = s.freeRecords := rfl
@[simp] theorem State.evaluatePoolLow_nextAnonymous :
    (s.evaluatePoolLow).nextAnonymous = s.nextAnonymous := rfl
@[simp] theorem State.evaluatePoolLow_announcements :
    (s.evaluatePoolLow).announcements = s.announcements := rfl
@[simp] theorem State.evaluatePoolLow_span : (s.evaluatePoolLow).span = s.span := rfl
@[simp] theorem State.evaluatePoolLow_spanCount : (s.evaluatePoolLow).spanCount = s.spanCount := rfl
@[simp] theorem State.evaluatePoolLow_eyes : (s.evaluatePoolLow).eyes = s.eyes := rfl
@[simp] theorem State.evaluatePoolLow_claims : (s.evaluatePoolLow).claims = s.claims := rfl
@[simp] theorem State.evaluatePoolLow_diverters : (s.evaluatePoolLow).diverters = s.diverters := rfl
@[simp] theorem State.evaluatePoolLow_link : (s.evaluatePoolLow).link = s.link := rfl
@[simp] theorem State.evaluatePoolLow_reports : (s.evaluatePoolLow).reports = s.reports := rfl
@[simp] theorem State.evaluatePoolLow_inputs : (s.evaluatePoolLow).inputs = s.inputs := rfl
@[simp] theorem State.evaluatePoolLow_resetActive :
    (s.evaluatePoolLow).resetActive = s.resetActive := rfl
@[simp] theorem State.evaluatePoolLow_pending : (s.evaluatePoolLow).pending = s.pending := rfl
@[simp] theorem State.evaluatePoolLow_freeIndex : (s.evaluatePoolLow).freeIndex = s.freeIndex := rfl

/-! ### State.release -/

@[simp] theorem State.release_module (tag : Nat) : (s.release tag).module = s.module := rfl
@[simp] theorem State.release_pendingLayout (tag : Nat) :
    (s.release tag).pendingLayout = s.pendingLayout := rfl
@[simp] theorem State.release_activeLayout (tag : Nat) :
    (s.release tag).activeLayout = s.activeLayout := rfl
@[simp] theorem State.release_counters (tag : Nat) : (s.release tag).counters = s.counters := rfl
@[simp] theorem State.release_freeRecords (tag : Nat) :
    (s.release tag).freeRecords = s.freeRecords + 1 := rfl
@[simp] theorem State.release_nextAnonymous (tag : Nat) :
    (s.release tag).nextAnonymous = s.nextAnonymous := rfl
@[simp] theorem State.release_announcements (tag : Nat) :
    (s.release tag).announcements = s.announcements := rfl
@[simp] theorem State.release_span (tag : Nat) : (s.release tag).span = s.span := rfl
@[simp] theorem State.release_spanCount (tag : Nat) : (s.release tag).spanCount = s.spanCount := rfl
@[simp] theorem State.release_eyes (tag : Nat) : (s.release tag).eyes = s.eyes := rfl
@[simp] theorem State.release_claims (tag : Nat) :
    (s.release tag).claims = Vector.ofFn fun d => s.claims[d].filter fun t => t != tag := rfl
@[simp] theorem State.release_link (tag : Nat) : (s.release tag).link = s.link := rfl
@[simp] theorem State.release_reports (tag : Nat) : (s.release tag).reports = s.reports := rfl
@[simp] theorem State.release_inputs (tag : Nat) : (s.release tag).inputs = s.inputs := rfl
@[simp] theorem State.release_resetActive (tag : Nat) :
    (s.release tag).resetActive = s.resetActive := rfl
@[simp] theorem State.release_pending (tag : Nat) : (s.release tag).pending = s.pending := rfl
@[simp] theorem State.release_freeIndex (tag : Nat) : (s.release tag).freeIndex = s.freeIndex := rfl

/-! ### State.writeClaim -/

@[simp] theorem State.writeClaim_module (i : Item) (new : Option DiverterId) :
    (s.writeClaim i new).module = s.module := rfl
@[simp] theorem State.writeClaim_pendingLayout (i : Item) (new : Option DiverterId) :
    (s.writeClaim i new).pendingLayout = s.pendingLayout := rfl
@[simp] theorem State.writeClaim_activeLayout (i : Item) (new : Option DiverterId) :
    (s.writeClaim i new).activeLayout = s.activeLayout := rfl
@[simp] theorem State.writeClaim_counters (i : Item) (new : Option DiverterId) :
    (s.writeClaim i new).counters = s.counters := rfl
@[simp] theorem State.writeClaim_freeRecords (i : Item) (new : Option DiverterId) :
    (s.writeClaim i new).freeRecords = s.freeRecords := rfl
@[simp] theorem State.writeClaim_nextAnonymous (i : Item) (new : Option DiverterId) :
    (s.writeClaim i new).nextAnonymous = s.nextAnonymous := rfl
@[simp] theorem State.writeClaim_announcements (i : Item) (new : Option DiverterId) :
    (s.writeClaim i new).announcements = s.announcements := rfl
@[simp] theorem State.writeClaim_span (i : Item) (new : Option DiverterId) :
    (s.writeClaim i new).span = s.span := rfl
@[simp] theorem State.writeClaim_spanCount (i : Item) (new : Option DiverterId) :
    (s.writeClaim i new).spanCount = s.spanCount := rfl
@[simp] theorem State.writeClaim_eyes (i : Item) (new : Option DiverterId) :
    (s.writeClaim i new).eyes = s.eyes := rfl
@[simp] theorem State.writeClaim_claims (i : Item) (new : Option DiverterId) :
    (s.writeClaim i new).claims = s.claimLists i new := rfl
@[simp] theorem State.writeClaim_diverters (i : Item) (new : Option DiverterId) :
    (s.writeClaim i new).diverters = s.diverters := rfl
@[simp] theorem State.writeClaim_link (i : Item) (new : Option DiverterId) :
    (s.writeClaim i new).link = s.link := rfl
@[simp] theorem State.writeClaim_reports (i : Item) (new : Option DiverterId) :
    (s.writeClaim i new).reports = s.reports := rfl
@[simp] theorem State.writeClaim_inputs (i : Item) (new : Option DiverterId) :
    (s.writeClaim i new).inputs = s.inputs := rfl
@[simp] theorem State.writeClaim_resetActive (i : Item) (new : Option DiverterId) :
    (s.writeClaim i new).resetActive = s.resetActive := rfl
@[simp] theorem State.writeClaim_pending (i : Item) (new : Option DiverterId) :
    (s.writeClaim i new).pending = s.pending := rfl
@[simp] theorem State.writeClaim_freeIndex (i : Item) (new : Option DiverterId) :
    (s.writeClaim i new).freeIndex = s.freeIndex := rfl

/-! ### State.leaveClaim -/

@[simp] theorem State.leaveClaim_module (tag : Nat) (d : DiverterId) :
    (s.leaveClaim tag d).module = s.module := rfl
@[simp] theorem State.leaveClaim_pendingLayout (tag : Nat) (d : DiverterId) :
    (s.leaveClaim tag d).pendingLayout = s.pendingLayout := rfl
@[simp] theorem State.leaveClaim_activeLayout (tag : Nat) (d : DiverterId) :
    (s.leaveClaim tag d).activeLayout = s.activeLayout := rfl
@[simp] theorem State.leaveClaim_counters (tag : Nat) (d : DiverterId) :
    (s.leaveClaim tag d).counters = s.counters := rfl
@[simp] theorem State.leaveClaim_zones (tag : Nat) (d : DiverterId) :
    (s.leaveClaim tag d).zones = s.zones := rfl
@[simp] theorem State.leaveClaim_freeRecords (tag : Nat) (d : DiverterId) :
    (s.leaveClaim tag d).freeRecords = s.freeRecords := rfl
@[simp] theorem State.leaveClaim_nextAnonymous (tag : Nat) (d : DiverterId) :
    (s.leaveClaim tag d).nextAnonymous = s.nextAnonymous := rfl
@[simp] theorem State.leaveClaim_announcements (tag : Nat) (d : DiverterId) :
    (s.leaveClaim tag d).announcements = s.announcements := rfl
@[simp] theorem State.leaveClaim_span (tag : Nat) (d : DiverterId) :
    (s.leaveClaim tag d).span = s.span := rfl
@[simp] theorem State.leaveClaim_spanCount (tag : Nat) (d : DiverterId) :
    (s.leaveClaim tag d).spanCount = s.spanCount := rfl
@[simp] theorem State.leaveClaim_eyes (tag : Nat) (d : DiverterId) :
    (s.leaveClaim tag d).eyes = s.eyes := rfl
@[simp] theorem State.leaveClaim_claims (tag : Nat) (d : DiverterId) :
    (s.leaveClaim tag d).claims = s.claims.set d (s.claims[d].filter fun t => t != tag) := rfl
@[simp] theorem State.leaveClaim_diverters (tag : Nat) (d : DiverterId) :
    (s.leaveClaim tag d).diverters = s.diverters := rfl
@[simp] theorem State.leaveClaim_link (tag : Nat) (d : DiverterId) :
    (s.leaveClaim tag d).link = s.link := rfl
@[simp] theorem State.leaveClaim_reports (tag : Nat) (d : DiverterId) :
    (s.leaveClaim tag d).reports = s.reports := rfl
@[simp] theorem State.leaveClaim_inputs (tag : Nat) (d : DiverterId) :
    (s.leaveClaim tag d).inputs = s.inputs := rfl
@[simp] theorem State.leaveClaim_resetActive (tag : Nat) (d : DiverterId) :
    (s.leaveClaim tag d).resetActive = s.resetActive := rfl
@[simp] theorem State.leaveClaim_pending (tag : Nat) (d : DiverterId) :
    (s.leaveClaim tag d).pending = s.pending := rfl
@[simp] theorem State.leaveClaim_freeIndex (tag : Nat) (d : DiverterId) :
    (s.leaveClaim tag d).freeIndex = s.freeIndex := rfl

/-! ### State.appendItem -/

@[simp] theorem State.appendItem_module (z : ZoneId) (p : Nat) (i : Item) :
    (s.appendItem z p i).module = s.module := rfl
@[simp] theorem State.appendItem_pendingLayout (z : ZoneId) (p : Nat) (i : Item) :
    (s.appendItem z p i).pendingLayout = s.pendingLayout := rfl
@[simp] theorem State.appendItem_activeLayout (z : ZoneId) (p : Nat) (i : Item) :
    (s.appendItem z p i).activeLayout = s.activeLayout := rfl
@[simp] theorem State.appendItem_counters (z : ZoneId) (p : Nat) (i : Item) :
    (s.appendItem z p i).counters = s.counters := rfl
@[simp] theorem State.appendItem_freeRecords (z : ZoneId) (p : Nat) (i : Item) :
    (s.appendItem z p i).freeRecords = s.freeRecords := rfl
@[simp] theorem State.appendItem_nextAnonymous (z : ZoneId) (p : Nat) (i : Item) :
    (s.appendItem z p i).nextAnonymous = s.nextAnonymous := rfl
@[simp] theorem State.appendItem_announcements (z : ZoneId) (p : Nat) (i : Item) :
    (s.appendItem z p i).announcements = s.announcements := rfl
@[simp] theorem State.appendItem_span (z : ZoneId) (p : Nat) (i : Item) :
    (s.appendItem z p i).span = s.span := rfl
@[simp] theorem State.appendItem_spanCount (z : ZoneId) (p : Nat) (i : Item) :
    (s.appendItem z p i).spanCount = s.spanCount := rfl
@[simp] theorem State.appendItem_eyes (z : ZoneId) (p : Nat) (i : Item) :
    (s.appendItem z p i).eyes = s.eyes := rfl
@[simp] theorem State.appendItem_claims (z : ZoneId) (p : Nat) (i : Item) :
    (s.appendItem z p i).claims = s.claims := rfl
@[simp] theorem State.appendItem_diverters (z : ZoneId) (p : Nat) (i : Item) :
    (s.appendItem z p i).diverters = s.diverters := rfl
@[simp] theorem State.appendItem_link (z : ZoneId) (p : Nat) (i : Item) :
    (s.appendItem z p i).link = s.link := rfl
@[simp] theorem State.appendItem_reports (z : ZoneId) (p : Nat) (i : Item) :
    (s.appendItem z p i).reports = s.reports := rfl
@[simp] theorem State.appendItem_inputs (z : ZoneId) (p : Nat) (i : Item) :
    (s.appendItem z p i).inputs = s.inputs := rfl
@[simp] theorem State.appendItem_resetActive (z : ZoneId) (p : Nat) (i : Item) :
    (s.appendItem z p i).resetActive = s.resetActive := rfl
@[simp] theorem State.appendItem_pending (z : ZoneId) (p : Nat) (i : Item) :
    (s.appendItem z p i).pending = s.pending := rfl
@[simp] theorem State.appendItem_freeIndex (z : ZoneId) (p : Nat) (i : Item) :
    (s.appendItem z p i).freeIndex = s.freeIndex := rfl

/-! ### State.raiseCount -/

@[simp] theorem State.raiseCount_module (z : ZoneId) : (s.raiseCount z).module = s.module := rfl
@[simp] theorem State.raiseCount_pendingLayout (z : ZoneId) :
    (s.raiseCount z).pendingLayout = s.pendingLayout := rfl
@[simp] theorem State.raiseCount_activeLayout (z : ZoneId) :
    (s.raiseCount z).activeLayout = s.activeLayout := rfl
@[simp] theorem State.raiseCount_counters (z : ZoneId) :
    (s.raiseCount z).counters = s.counters := rfl
@[simp] theorem State.raiseCount_zones (z : ZoneId) :
    (s.raiseCount z).zones = s.zones.set z { s.zones[z] with count := s.zones[z].count + 1 } := rfl
@[simp] theorem State.raiseCount_freeRecords (z : ZoneId) :
    (s.raiseCount z).freeRecords = s.freeRecords := rfl
@[simp] theorem State.raiseCount_nextAnonymous (z : ZoneId) :
    (s.raiseCount z).nextAnonymous = s.nextAnonymous := rfl
@[simp] theorem State.raiseCount_announcements (z : ZoneId) :
    (s.raiseCount z).announcements = s.announcements := rfl
@[simp] theorem State.raiseCount_span (z : ZoneId) : (s.raiseCount z).span = s.span := rfl
@[simp] theorem State.raiseCount_spanCount (z : ZoneId) :
    (s.raiseCount z).spanCount = s.spanCount := rfl
@[simp] theorem State.raiseCount_eyes (z : ZoneId) : (s.raiseCount z).eyes = s.eyes := rfl
@[simp] theorem State.raiseCount_claims (z : ZoneId) : (s.raiseCount z).claims = s.claims := rfl
@[simp] theorem State.raiseCount_diverters (z : ZoneId) :
    (s.raiseCount z).diverters = s.diverters := rfl
@[simp] theorem State.raiseCount_link (z : ZoneId) : (s.raiseCount z).link = s.link := rfl
@[simp] theorem State.raiseCount_reports (z : ZoneId) : (s.raiseCount z).reports = s.reports := rfl
@[simp] theorem State.raiseCount_inputs (z : ZoneId) : (s.raiseCount z).inputs = s.inputs := rfl
@[simp] theorem State.raiseCount_resetActive (z : ZoneId) :
    (s.raiseCount z).resetActive = s.resetActive := rfl
@[simp] theorem State.raiseCount_pending (z : ZoneId) : (s.raiseCount z).pending = s.pending := rfl
@[simp] theorem State.raiseCount_freeIndex (z : ZoneId) :
    (s.raiseCount z).freeIndex = s.freeIndex := rfl

/-! ### State.setReceiver -/

@[simp] theorem State.setReceiver_module (r : Receiver) : (s.setReceiver r).module = s.module := rfl
@[simp] theorem State.setReceiver_pendingLayout (r : Receiver) :
    (s.setReceiver r).pendingLayout = s.pendingLayout := rfl
@[simp] theorem State.setReceiver_activeLayout (r : Receiver) :
    (s.setReceiver r).activeLayout = s.activeLayout := rfl
@[simp] theorem State.setReceiver_counters (r : Receiver) :
    (s.setReceiver r).counters = s.counters := rfl
@[simp] theorem State.setReceiver_zones (r : Receiver) : (s.setReceiver r).zones = s.zones := rfl
@[simp] theorem State.setReceiver_freeRecords (r : Receiver) :
    (s.setReceiver r).freeRecords = s.freeRecords := rfl
@[simp] theorem State.setReceiver_nextAnonymous (r : Receiver) :
    (s.setReceiver r).nextAnonymous = s.nextAnonymous := rfl
@[simp] theorem State.setReceiver_announcements (r : Receiver) :
    (s.setReceiver r).announcements = s.announcements := rfl
@[simp] theorem State.setReceiver_span (r : Receiver) : (s.setReceiver r).span = s.span := rfl
@[simp] theorem State.setReceiver_spanCount (r : Receiver) :
    (s.setReceiver r).spanCount = s.spanCount := rfl
@[simp] theorem State.setReceiver_eyes (r : Receiver) : (s.setReceiver r).eyes = s.eyes := rfl
@[simp] theorem State.setReceiver_claims (r : Receiver) : (s.setReceiver r).claims = s.claims := rfl
@[simp] theorem State.setReceiver_diverters (r : Receiver) :
    (s.setReceiver r).diverters = s.diverters := rfl
@[simp] theorem State.setReceiver_reports (r : Receiver) :
    (s.setReceiver r).reports = s.reports := rfl
@[simp] theorem State.setReceiver_inputs (r : Receiver) : (s.setReceiver r).inputs = s.inputs := rfl
@[simp] theorem State.setReceiver_resetActive (r : Receiver) :
    (s.setReceiver r).resetActive = s.resetActive := rfl
@[simp] theorem State.setReceiver_pending (r : Receiver) :
    (s.setReceiver r).pending = s.pending := rfl
@[simp] theorem State.setReceiver_freeIndex (r : Receiver) :
    (s.setReceiver r).freeIndex = s.freeIndex := rfl

/-! ### State.rest -/

@[simp] theorem State.rest_module : (s.rest).module = s.module := rfl
@[simp] theorem State.rest_pendingLayout : (s.rest).pendingLayout = s.pendingLayout := rfl
@[simp] theorem State.rest_activeLayout : (s.rest).activeLayout = s.activeLayout := rfl
@[simp] theorem State.rest_counters : (s.rest).counters = s.counters := rfl
@[simp] theorem State.rest_zones : (s.rest).zones = s.zones := rfl
@[simp] theorem State.rest_freeRecords : (s.rest).freeRecords = s.freeRecords := rfl
@[simp] theorem State.rest_nextAnonymous : (s.rest).nextAnonymous = s.nextAnonymous := rfl
@[simp] theorem State.rest_announcements : (s.rest).announcements = s.announcements := rfl
@[simp] theorem State.rest_span : (s.rest).span = s.span := rfl
@[simp] theorem State.rest_spanCount : (s.rest).spanCount = s.spanCount := rfl
@[simp] theorem State.rest_eyes : (s.rest).eyes = s.eyes := rfl
@[simp] theorem State.rest_claims : (s.rest).claims = s.claims := rfl
@[simp] theorem State.rest_diverters : (s.rest).diverters = s.diverters := rfl
@[simp] theorem State.rest_link :
    (s.rest).link = { s.link with receiver := .hunting, interByte := none } := rfl
@[simp] theorem State.rest_reports : (s.rest).reports = s.reports := rfl
@[simp] theorem State.rest_inputs : (s.rest).inputs = s.inputs := rfl
@[simp] theorem State.rest_resetActive : (s.rest).resetActive = s.resetActive := rfl
@[simp] theorem State.rest_pending : (s.rest).pending = s.pending := rfl
@[simp] theorem State.rest_freeIndex : (s.rest).freeIndex = s.freeIndex := rfl

/-! ### State.supervise -/

@[simp] theorem State.supervise_module : (s.supervise).module = s.module := rfl
@[simp] theorem State.supervise_pendingLayout : (s.supervise).pendingLayout = s.pendingLayout := rfl
@[simp] theorem State.supervise_activeLayout : (s.supervise).activeLayout = s.activeLayout := rfl
@[simp] theorem State.supervise_counters : (s.supervise).counters = s.counters := rfl
@[simp] theorem State.supervise_freeRecords : (s.supervise).freeRecords = s.freeRecords := rfl
@[simp] theorem State.supervise_nextAnonymous : (s.supervise).nextAnonymous = s.nextAnonymous := rfl
@[simp] theorem State.supervise_announcements : (s.supervise).announcements = s.announcements := rfl
@[simp] theorem State.supervise_span : (s.supervise).span = s.span := rfl
@[simp] theorem State.supervise_spanCount : (s.supervise).spanCount = s.spanCount := rfl
@[simp] theorem State.supervise_eyes : (s.supervise).eyes = s.eyes := rfl
@[simp] theorem State.supervise_claims : (s.supervise).claims = s.claims := rfl
@[simp] theorem State.supervise_diverters : (s.supervise).diverters = s.diverters := rfl
@[simp] theorem State.supervise_link :
    (s.supervise).link = { s.link with up := true, linkTimer := s.link.settings.linkTimer } := rfl
@[simp] theorem State.supervise_reports : (s.supervise).reports = s.reports := rfl
@[simp] theorem State.supervise_inputs : (s.supervise).inputs = s.inputs := rfl
@[simp] theorem State.supervise_resetActive : (s.supervise).resetActive = s.resetActive := rfl
@[simp] theorem State.supervise_pending : (s.supervise).pending = s.pending := rfl
@[simp] theorem State.supervise_freeIndex : (s.supervise).freeIndex = s.freeIndex := rfl

/-! ### State.linkDown -/

@[simp] theorem State.linkDown_module : (s.linkDown).module = s.module := rfl
@[simp] theorem State.linkDown_pendingLayout : (s.linkDown).pendingLayout = s.pendingLayout := rfl
@[simp] theorem State.linkDown_activeLayout : (s.linkDown).activeLayout = s.activeLayout := rfl
@[simp] theorem State.linkDown_counters : (s.linkDown).counters = s.counters := rfl
@[simp] theorem State.linkDown_freeRecords : (s.linkDown).freeRecords = s.freeRecords := rfl
@[simp] theorem State.linkDown_nextAnonymous : (s.linkDown).nextAnonymous = s.nextAnonymous := rfl
@[simp] theorem State.linkDown_announcements : (s.linkDown).announcements = s.announcements := rfl
@[simp] theorem State.linkDown_span : (s.linkDown).span = s.span := rfl
@[simp] theorem State.linkDown_spanCount : (s.linkDown).spanCount = s.spanCount := rfl
@[simp] theorem State.linkDown_eyes : (s.linkDown).eyes = s.eyes := rfl
@[simp] theorem State.linkDown_claims : (s.linkDown).claims = s.claims := rfl
@[simp] theorem State.linkDown_diverters : (s.linkDown).diverters = s.diverters := rfl
@[simp] theorem State.linkDown_link :
    (s.linkDown).link = { s.link with up := false, linkTimer := none } := rfl
@[simp] theorem State.linkDown_reports : (s.linkDown).reports = s.reports.unsendAll := rfl
@[simp] theorem State.linkDown_inputs : (s.linkDown).inputs = s.inputs := rfl
@[simp] theorem State.linkDown_resetActive : (s.linkDown).resetActive = s.resetActive := rfl
@[simp] theorem State.linkDown_pending : (s.linkDown).pending = s.pending := rfl
@[simp] theorem State.linkDown_freeIndex : (s.linkDown).freeIndex = s.freeIndex := rfl

/-! ### State.placeReply -/

@[simp] theorem State.placeReply_module (kind seq : Byte) (a : Answer) :
    (s.placeReply kind seq a).module = s.module := rfl
@[simp] theorem State.placeReply_pendingLayout (kind seq : Byte) (a : Answer) :
    (s.placeReply kind seq a).pendingLayout = s.pendingLayout := rfl
@[simp] theorem State.placeReply_activeLayout (kind seq : Byte) (a : Answer) :
    (s.placeReply kind seq a).activeLayout = s.activeLayout := rfl
@[simp] theorem State.placeReply_counters (kind seq : Byte) (a : Answer) :
    (s.placeReply kind seq a).counters = s.counters := rfl
@[simp] theorem State.placeReply_zones (kind seq : Byte) (a : Answer) :
    (s.placeReply kind seq a).zones = s.zones := rfl
@[simp] theorem State.placeReply_freeRecords (kind seq : Byte) (a : Answer) :
    (s.placeReply kind seq a).freeRecords = s.freeRecords := rfl
@[simp] theorem State.placeReply_nextAnonymous (kind seq : Byte) (a : Answer) :
    (s.placeReply kind seq a).nextAnonymous = s.nextAnonymous := rfl
@[simp] theorem State.placeReply_announcements (kind seq : Byte) (a : Answer) :
    (s.placeReply kind seq a).announcements = s.announcements := rfl
@[simp] theorem State.placeReply_span (kind seq : Byte) (a : Answer) :
    (s.placeReply kind seq a).span = s.span := rfl
@[simp] theorem State.placeReply_spanCount (kind seq : Byte) (a : Answer) :
    (s.placeReply kind seq a).spanCount = s.spanCount := rfl
@[simp] theorem State.placeReply_eyes (kind seq : Byte) (a : Answer) :
    (s.placeReply kind seq a).eyes = s.eyes := rfl
@[simp] theorem State.placeReply_claims (kind seq : Byte) (a : Answer) :
    (s.placeReply kind seq a).claims = s.claims := rfl
@[simp] theorem State.placeReply_diverters (kind seq : Byte) (a : Answer) :
    (s.placeReply kind seq a).diverters = s.diverters := rfl
@[simp] theorem State.placeReply_reports (kind seq : Byte) (a : Answer) :
    (s.placeReply kind seq a).reports = s.reports := rfl
@[simp] theorem State.placeReply_inputs (kind seq : Byte) (a : Answer) :
    (s.placeReply kind seq a).inputs = s.inputs := rfl
@[simp] theorem State.placeReply_resetActive (kind seq : Byte) (a : Answer) :
    (s.placeReply kind seq a).resetActive = s.resetActive := rfl
@[simp] theorem State.placeReply_pending (kind seq : Byte) (a : Answer) :
    (s.placeReply kind seq a).pending = s.pending := rfl
@[simp] theorem State.placeReply_freeIndex (kind seq : Byte) (a : Answer) :
    (s.placeReply kind seq a).freeIndex = s.freeIndex := rfl

end Sys2Proof.Machine
end

