-- ==== Sys2Proof/Laws/Posting.lean ====
section
/-! SUPPORT. Posting reports, and the settling of the zones at the end of a happening: what each can do,
said once (R11, R12, R16, R166, R167). -/

namespace Sys2Proof.Machine

/-! ### Posting -/

@[simp] theorem postAll_nil (s : State) : s.postAll [] = s := rfl

@[simp] theorem postAll_cons (s : State) (r : Report) (rs : List Report) :
    s.postAll (r :: rs) = (s.post r).postAll rs := rfl

theorem postAll_append (s : State) (rs qs : List Report) :
    s.postAll (rs ++ qs) = (s.postAll rs).postAll qs := by
  simp [State.postAll]

/-- Posting writes the report queue and the counters. -/
theorem postAll_frame (rs : List Report) (s : State) :
    s.postAll rs =
      { s with reports := (s.postAll rs).reports, counters := (s.postAll rs).counters } := by
  induction rs generalizing s with
  | nil => rfl
  | cons r rs ih => rw [postAll_cons, ih]; rfl

@[simp] theorem postAll_zones (s : State) (rs : List Report) : (s.postAll rs).zones = s.zones := by
  rw [postAll_frame]

/-- Posting does not read the zones. -/
theorem postAll_withZones (rs : List Report) (s : State) (zones : Vector ZoneUnit 4) :
    ({ s with zones := zones } : State).postAll rs = { s.postAll rs with zones := zones } := by
  induction rs generalizing s with
  | nil => rfl
  | cons r rs ih => exact ih (s.post r)

/-! ### One permit -/

/-- R12: the report that a zone's permit owes. -/
def permitChange (z : ZoneId) (u : ZoneUnit) : List Report :=
  if u.permit = u.reasons.isEmpty then [] else [.zoneChange z u.reasons.isEmpty u.reasons]

/-- R11: a zone with its permit set from its reasons. -/
def ZoneUnit.settled (u : ZoneUnit) : ZoneUnit := { u with permit := u.reasons.isEmpty }

/-- R11, R12: settling one permit sets it and posts the change, if it is one. -/
theorem settlePermit_eq (z : ZoneId) (s : State) :
    s.settlePermit z =
      { s.postAll (permitChange z s.zones[z]) with zones := s.zones.set z s.zones[z].settled } := by
  unfold State.settlePermit permitChange
  by_cases h : s.zones[z].permit = s.zones[z].reasons.isEmpty
  · have hz : s.zones[z].settled = s.zones[z] := by unfold ZoneUnit.settled; rw [← h]
    have hs : s.zones.set z s.zones[z] = s.zones := by ext i hi; simp
    simp only [h, if_true, hz, postAll_nil, hs]
  · simp only [h, if_false]
    rfl

/-! ### All permits -/

/-- R11: the zones after every permit is set. -/
theorem settlePermits_zones (s : State) :
    ((((s.settlePermit 3).settlePermit 2).settlePermit 1).settlePermit 0).zones =
      Vector.ofFn fun z => s.zones[z].settled := by
  simp only [settlePermit_eq]
  ext i hi
  obtain rfl | rfl | rfl | rfl : i = 0 ∨ i = 1 ∨ i = 2 ∨ i = 3 := by omega
  all_goals simp

/-- R12: the reports of every permit that changes, most downstream zone first. -/
theorem settlePermits_eq (s : State) :
    (((s.settlePermit 3).settlePermit 2).settlePermit 1).settlePermit 0 =
      { s.postAll (permitChange 3 s.zones[(3 : ZoneId)] ++ permitChange 2 s.zones[(2 : ZoneId)] ++
          permitChange 1 s.zones[(1 : ZoneId)] ++ permitChange 0 s.zones[(0 : ZoneId)]) with
        zones := Vector.ofFn fun z => s.zones[z].settled } := by
  have hz := settlePermits_zones s
  have other (zs : Vector ZoneUnit 4) (u : ZoneUnit) (i j : ZoneId) (h : i ≠ j) :
      (zs.set i u)[j] = zs[j] := by
    have h' : (i : Nat) ≠ j := fun e => h (Fin.ext e)
    simp [h']
  simp only [settlePermit_eq, postAll_withZones, postAll_append] at hz ⊢
  rw [hz]
  rw [other _ _ 1 0 (by decide), other _ _ 2 0 (by decide), other _ _ 3 0 (by decide),
    other _ _ 2 1 (by decide), other _ _ 3 1 (by decide), other _ _ 3 2 (by decide)]

end Sys2Proof.Machine
end

