-- ==== Sys2Proof/Laws/Finish.lean ====
section
/-! SUPPORT. The end of a happening, said once: what the settling of the zones and the transmitter's
choice can change (R11, R12, R16, R162, R170). -/

namespace Sys2Proof.Machine

/-! ### The zones -/

/-- R11, R16: a zone at the end of a happening: DOWNSTREAM as derived, and the permit after its set. -/
def State.settledZone (s : State) (z : ZoneId) : ZoneUnit :=
  ZoneUnit.settled { s.zones[z] with
    reasons := { s.zones[z].reasons with downstream := s.heldDownstream z } }

/-- R12: the ZONE_CHANGE reports that the settling owes. -/
def State.settleReports (s : State) : List Report :=
  permitChange 3 s.deriveDownstream.zones[(3 : ZoneId)] ++
    permitChange 2 s.deriveDownstream.zones[(2 : ZoneId)] ++
    permitChange 1 s.deriveDownstream.zones[(1 : ZoneId)] ++
    permitChange 0 s.deriveDownstream.zones[(0 : ZoneId)]

/-- R11, R12, R16: the settling posts the changes and writes the zones. -/
theorem settleZones_eq (s : State) :
    s.settleZones =
      { s.postAll s.settleReports with zones := Vector.ofFn fun z => s.settledZone z } := by
  have hd : s.deriveDownstream = { s with zones := s.deriveDownstream.zones } := rfl
  unfold State.settleZones
  rw [settlePermits_eq]
  have hz (z : ZoneId) : s.deriveDownstream.zones[z].settled = s.settledZone z := by
    simp [State.deriveDownstream, State.mapZones, State.settledZone]
  simp only [hz]
  rw [hd, postAll_withZones]
  rfl

/-- Settling writes the zones, the report queue and the counters. -/
theorem settleZones_frame (s : State) :
    s.settleZones =
      { s with zones := s.settleZones.zones, reports := s.settleZones.reports,
               counters := s.settleZones.counters } := by
  rw [settleZones_eq, postAll_frame]

/-! ### The transmitter's choice -/

/-- R162, R170: all that the choice can do. -/
theorem chooseFrame_cases (s : State) :
    (s.chooseFrame = s ∧
      (s.link.transmitter = .free → s.link.slot = none ∧ s.sendable = none)) ∨
    (∃ reply, s.link.transmitter = .free ∧ s.link.slot = some reply ∧
      s.chooseFrame =
        { s with link := { s.link with slot := none, transmitter := .sending reply.bytes } }) ∨
    (∃ e, s.link.transmitter = .free ∧ s.link.slot = none ∧ s.sendable = some e ∧
      s.chooseFrame =
        { s with link := { s.link with transmitter := .sending e.frame.bytes }
                 reports := s.reports.begin s.link.settings.resendTime }) := by
  unfold State.chooseFrame
  cases ht : s.link.transmitter with
  | sending frame => exact .inl ⟨rfl, fun h => nomatch h⟩
  | free =>
    cases hs : s.link.slot with
    | some reply => exact .inr (.inl ⟨reply, rfl, rfl, rfl⟩)
    | none =>
      cases he : s.sendable with
      | some e => exact .inr (.inr ⟨e, rfl, rfl, rfl, rfl⟩)
      | none => exact .inl ⟨rfl, fun _ => ⟨rfl, rfl⟩⟩

/-- The choice writes the link and the queue. -/
theorem chooseFrame_frame (s : State) :
    s.chooseFrame =
      { s with
        link := { s.link with
          slot := s.chooseFrame.link.slot, transmitter := s.chooseFrame.link.transmitter }
        reports := s.chooseFrame.reports } := by
  rcases chooseFrame_cases s with ⟨h, -⟩ | ⟨r, -, -, h⟩ | ⟨e, -, -, -, h⟩ <;> rw [h]

/-- R162: with a reply waiting, the choice leaves the queue alone. -/
theorem chooseFrame_reports_of_slot (s : State) (reply : Frame) (h : s.link.slot = some reply) :
    s.chooseFrame.reports = s.reports := by
  unfold State.chooseFrame
  rw [h]
  split <;> rfl

/-- R185: a report frame's bytes are those of Tables 10-5 and 10-10. -/
theorem entry_frame (e : Entry) : e.frame = sentFrame e := by
  have h1 {n : Nat} (f : Option (Fin n)) : optionalByte f = sentOr f := by cases f <;> rfl
  have h2 (r : Option (BitVec 16)) : referenceBytes r = sentReference r := by cases r <;> rfl
  have h3 (b : Bool) : presenceByte b false = sentSet [b] := by cases b <;> rfl
  have h4 (f : Flags) : f.byte = sentFlags f := by
    obtain ⟨a, b, c, d⟩ := f
    cases a <;> cases b <;> cases c <;> cases d <;> rfl
  have h5 (r : Reasons) : r.byte = sentReasons r := by
    obtain ⟨a, b, c, d, e, f, g⟩ := r
    cases a <;> cases b <;> cases c <;> cases d <;> cases e <;> cases f <;> cases g <;> rfl
  unfold Entry.frame sentFrame
  cases e.report <;> simp only [Report.kind, Report.fields, sentReport, h1, h2, h3, h4, h5] <;> rfl

/-- R170: the oldest UNSENT entry, behind the OUTSTANDING ones. -/
theorem markOldest_append (sent rest : List Entry) (e : Entry)
    (hs : ∀ x ∈ sent, x.outstanding = true) (he : e.outstanding = false) :
    markOldest (sent ++ e :: rest) = sent ++ { e with outstanding := true } :: rest ∧
    (sent ++ e :: rest).find? (fun x => !x.outstanding) = some e := by
  induction sent with
  | nil => simp [markOldest, he]
  | cons x sent ih =>
    have hx := hs x (by simp)
    have := ih fun y hy => hs y (by simp [hy])
    simp [markOldest, hx, this]

/-- R162, R170, R171: what the choice makes of the link and the queue. -/
theorem chooseFrame_transmits (s : State) : Transmits s.link s.reports s.chooseFrame := by
  refine ⟨fun h => ?_, fun hf => ⟨fun reply hr => ?_, fun hs hu hw sent rest e hq ho he => ?_,
    fun hs hn => ?_⟩⟩
  · unfold State.chooseFrame
    split
    · exact ⟨rfl, rfl⟩
    · contradiction
  · unfold State.chooseFrame
    rw [hf, show s.link.slot = some reply from hr]
    exact ⟨rfl, rfl⟩
  · have hm := markOldest_append sent rest e ho he
    have : s.sendable = some e := by
      simp [State.sendable, hu, hw, ReportQueue.oldestUnsent, hq, hm.2]
    unfold State.chooseFrame
    rw [hf, hs, this]
    refine ⟨by simp [entry_frame, hs], ?_⟩
    simp [ReportQueue.begin, hq, hm.1, startTimer]
  · have : s.sendable = none := by
      unfold State.sendable ReportQueue.oldestUnsent
      rcases hn with h | h | h
      · simp [h]
      · simp [Nat.not_lt.mpr h]
      · simpa using fun _ _ x hx => h x hx
    unfold State.chooseFrame
    rw [hf, hs, this]
    exact ⟨rfl, rfl⟩

/-! ### The end of a happening -/

/-- A state that a happening leaves: `w` settled, and then the link and the queue. -/
def EndsAs (w t : State) : Prop := t = { w.settleZones with link := t.link, reports := t.reports }

/-- The choice after the settling. -/
theorem chooseFrame_endsAs (w s : State) (h : ∃ link, s = { w.settleZones with link := link }) :
    EndsAs w s.chooseFrame := by
  obtain ⟨link, h⟩ := h
  have hc := chooseFrame_frame s
  unfold EndsAs
  generalize s.chooseFrame = t at hc ⊢
  rw [hc, h]

theorem finish_endsAs (s : State) : EndsAs s s.finish := by
  unfold State.finish
  exact chooseFrame_endsAs s s.settleZones ⟨s.settleZones.link, by generalize s.settleZones = u; rfl⟩

variable {w t : State}

theorem EndsAs.zones (h : EndsAs w t) (z : ZoneId) : t.zones[z] = w.settledZone z := by
  rw [h, settleZones_eq]
  simp

/-- R16: DOWNSTREAM is derived from reasons that the settling leaves alone. -/
theorem EndsAs.heldDownstream (h : EndsAs w t) (z : ZoneId) :
    t.heldDownstream z = w.heldDownstream z := by
  have hl : t.activeLayout = w.activeLayout := by
    rw [h, settleZones_frame]
  unfold State.heldDownstream State.zoneDefined
  simp only [hl, h.zones]
  rfl

/-- R11, R16: what every happening leaves. -/
theorem EndsAs.settled (h : EndsAs w t) : Settled t := fun z => by
  rw [h.heldDownstream, h.zones]
  exact ⟨rfl, rfl⟩

/-- R12: the settling's reports are the changes of permit. -/
theorem EndsAs.reports (h : EndsAs w t) (s : State)
    (hp : ∀ z : ZoneId, w.zones[z].permit = s.zones[z].permit) :
    w.settleReports = zoneChanges s t := by
  have one (z : ZoneId) : permitChange z w.deriveDownstream.zones[z] =
      if s.zones[z].permit = t.zones[z].permit then []
      else [.zoneChange z t.zones[z].permit t.zones[z].reasons] := by
    have hd : w.deriveDownstream.zones[z] = { w.zones[z] with
        reasons := { w.zones[z].reasons with downstream := w.heldDownstream z } } := by
      simp [State.deriveDownstream, State.mapZones]
    rw [h.zones, hd, ← hp z]
    rfl
  unfold State.settleReports zoneChanges
  simp only [one, List.filterMap_cons, List.filterMap_nil]
  split_ifs <;> rfl

/-- R11, R12: a happening whose effect is `u`, reached as `v` with another link and LINK, that keeps the
permits and posts `rs`, leaves just that, and the settled queue has the posts and the permits' changes. -/
theorem EndsAs.leaves {s u v : State} {rs : List Report} (h : EndsAs (v.postAll rs) t)
    (hv : { v with link := u.link, zones := u.zones } = u)
    (hz : ∀ z : ZoneId, { v.zones[z] with
      reasons := { v.zones[z].reasons with link := u.zones[z].reasons.link } } = u.zones[z])
    (hp : ∀ z : ZoneId, u.zones[z].permit = s.zones[z].permit) :
    LeavesElsewhere s u t rs ∧
      (v.postAll rs).settleZones.reports = (u.postAll (rs ++ zoneChanges s t)).reports := by
  have hw (z : ZoneId) : (v.postAll rs).zones[z] = v.zones[z] := by rw [postAll_zones]
  have hpv (z : ZoneId) : (v.postAll rs).zones[z].permit = s.zones[z].permit := by
    rw [hw, ← hp z, ← hz z]
  have hq : u.reports = v.reports ∧ u.counters = v.counters := by rw [← hv]; exact ⟨rfl, rfl⟩
  have hu (qs : List Report) : (u.postAll qs).reports = (v.postAll qs).reports ∧
      (u.postAll qs).counters = (v.postAll qs).counters := by
    clear hv hz hp hw hpv h
    induction qs generalizing u v with
    | nil => exact hq
    | cons r qs ih => exact ih (by simp [State.post, hq.1, hq.2])
  have hr : (v.postAll rs).settleZones.reports = (u.postAll (rs ++ zoneChanges s t)).reports ∧
      (v.postAll rs).settleZones.counters = (u.postAll (rs ++ zoneChanges s t)).counters := by
    rw [(hu _).1, (hu _).2, ← h.reports s hpv, postAll_append, settleZones_eq]
    exact ⟨rfl, rfl⟩
  refine ⟨⟨?_, fun z => ?_, fun z => ?_, ?_, h.settled⟩, hr.1⟩
  · unfold SameElsewhere
    rw [h, settleZones_frame, postAll_frame]
    refine Eq.trans ?_ hv
    rw [hq.1, hq.2]
  · rw [h.zones, ← hz z]
    unfold State.settledZone ZoneUnit.settled
    rw [hw]
    exact ⟨rfl, rfl⟩
  · rw [h.zones, ← hz z]
    unfold State.settledZone ZoneUnit.settled
    rw [hw]
  · rw [← hr.2, h]

/-- R11, R12, R162: a happening that has the effect `u`, keeps the permits and posts `rs`, once finished,
brings just that. -/
theorem finish_brings (s u : State) (rs : List Report)
    (h : ∀ z : ZoneId, u.zones[z].permit = s.zones[z].permit) :
    BringsAway s u (u.postAll rs).finish rs := by
  have he := finish_endsAs (u.postAll rs)
  obtain ⟨hl, hr⟩ := he.leaves (s := s) (u := u) (v := u) rfl (fun _ => rfl) h
  refine ⟨hl, fun z => ?_, ?_⟩
  · rw [he.zones]
    unfold State.settledZone ZoneUnit.settled
    rw [postAll_zones]
  · rw [← hr]
    have : (u.postAll rs).settleZones.link = u.link := by rw [settleZones_frame, postAll_frame]
    rw [← this]
    exact chooseFrame_transmits _

/-- R2: a happening of a state that keeps the permits, has the effect `u` and posts `rs`. -/
theorem happening_brings (s u : State) (rs : List Report) (effect : State → State) (occurs : Bool)
    (ha : s.resetActive = false) (ho : occurs = true) (he : effect s = u.postAll rs)
    (h : ∀ z : ZoneId, u.zones[z].permit = s.zones[z].permit) :
    ∃ t, happening occurs effect s = .next t ∧ BringsAway s u t rs :=
  ⟨(u.postAll rs).finish, by simp [happening, ha, ho, he], finish_brings s u rs h⟩

end Sys2Proof.Machine
end

