-- ==== Sys2Proof/Laws/Idle.lean ====
section
/-! SUPPORT. The timers that run, and what a step with no command waiting can do (R1). -/

namespace Sys2Proof.Machine

/-! ### A home input read as a stroke is ended (R100, R105) -/

@[simp] theorem State.setHome_homes (s : State) (d : DiverterId) (level : Bool) :
    (s.setHome d level).inputs.homes = s.inputs.homes.set d level := rfl

theorem State.setHome_frame (s : State) (d : DiverterId) (level : Bool) :
    s.setHome d level = { s with inputs := (s.setHome d level).inputs } := rfl

/-- Reading a home input changes that input alone, and it only ever makes it inactive. -/
theorem State.readHome_frame (s : State) (d : DiverterId) :
    s.readHome d = { s with inputs := { s.inputs with
      homes := s.inputs.homes.set d (s.inputs.homes[d] && !s.leavingHome d) } } := by
  unfold State.readHome
  split
  · next h => simp [State.setHome, h]
  · next h => simp [h]

/-! ### The timers -/

theorem State.jamTimer_eq_some (s : State) (e : EyeId) (τ : Timer) :
    s.jamTimer e = some τ ↔ s.eyes[e].state = .blocked ∧ ∃ d ∈ s.activeLayout.eyes[e],
      d.jamTime ≠ 0 ∧ s.zones[d.zone].permit = true ∧ τ = ⟨d.jamTime, s.eyes[e].jamElapsed⟩ := by
  unfold State.jamTimer State.jamTimerRuns
  cases h : s.activeLayout.eyes[e] <;> simp [and_assoc, eq_comm (a := τ)]

theorem State.strokeTimer_eq_some (s : State) (d : DiverterId) (τ : Timer) :
    s.strokeTimer d = some τ ↔ s.diverters[d].timer = some τ ∧ s.diverters[d].state = .extending := by
  unfold State.strokeTimer
  cases h : s.diverters[d].state <;> simp

theorem State.dwellTimer_eq_some (s : State) (d : DiverterId) (τ : Timer) :
    s.dwellTimer d = some τ ↔ s.diverters[d].timer = some τ ∧ s.diverters[d].state = .holding := by
  unfold State.dwellTimer
  cases h : s.diverters[d].state <;> simp

theorem State.returnTimer_eq_some (s : State) (d : DiverterId) (τ : Timer) :
    s.returnTimer d = some τ ↔ s.diverters[d].timer = some τ ∧
      (s.diverters[d].state = .settling ∨ s.diverters[d].state = .retracting) := by
  unfold State.returnTimer
  cases h : s.diverters[d].state <;> simp

/-- The running timer of a command's running-out is the one that `TimerRuns` names. -/
theorem State.timerOf_eq_some (s : State) (c : Instr) (τ : Timer) :
    s.timerOf c = some τ ↔ TimerRuns s c τ := by
  cases c with
  | jamTimerExpiry e => simpa [TimerRuns, State.timerOf] using s.jamTimer_eq_some e τ
  | strokeTimerExpiry d => simpa [TimerRuns, State.timerOf] using s.strokeTimer_eq_some d τ
  | dwellTimerExpiry d => simpa [TimerRuns, State.timerOf] using s.dwellTimer_eq_some d τ
  | returnTimerExpiry d => simpa [TimerRuns, State.timerOf] using s.returnTimer_eq_some d τ
  | interByteTimeout =>
    cases h : s.link.receiver <;> simp [TimerRuns, State.timerOf, HostLink.gapTimer, h]
  | linkTimerExpiry => simp [TimerRuns, State.timerOf, HostLink.supervisionTimer]
  | _ => simp [TimerRuns, State.timerOf]

/-- Every command that stands for a timer is among the running-outs. -/
theorem State.mem_expiries_of_timerOf (s : State) (c : Instr) (τ : Timer)
    (h : s.timerOf c = some τ) : c ∈ expiries := by
  have he : ∀ e : EyeId, e ∈ allEyes := by decide
  have hd : ∀ d : DiverterId, d ∈ allDiverters := by decide
  cases c <;> first | cases h | simp [expiries, he, hd]

/-- R1: the running-outs that an idle step has to take. -/
theorem State.mem_overdue (s : State) (c : Instr) :
    c ∈ s.overdue ↔ s.resetActive = false ∧ ∃ τ, TimerRuns s c τ ∧ τ.duration < τ.elapsed := by
  simp only [← s.timerOf_eq_some]
  unfold State.overdue
  cases s.resetActive
  · have := s.mem_expiries_of_timerOf c
    cases h : s.timerOf c <;> simp_all [Timer.overdue]
  · simp

/-- Everything that a step with no command waiting can do. -/
theorem idleStep_cases (s : State) :
    s.overdue = [] ∧ idleStep s = .next s.tick ∨
    (∃ c, s.overdue = [c] ∧ idleStep s = exec c s) ∨
    2 ≤ s.overdue.length ∧ ∃ c ∈ s.overdue,
      idleStep s = exec c { s with freeIndex := s.freeIndex + 1 } := by
  unfold idleStep
  split
  · next h => exact .inl ⟨h, rfl⟩
  · next c h => exact .inr (.inl ⟨c, h, rfl⟩)
  · next c b cs h =>
    refine .inr (.inr ⟨by simp [h], _, ?_, rfl⟩)
    rw [h, List.getD_eq_getElem _ _ (by simpa using Nat.mod_lt _ (Nat.succ_pos _))]
    exact List.getElem_mem _

end Sys2Proof.Machine
end

