-- ==== Sys2Proof/Laws/PerInstr.lean ====
section
/-! SUPPORT. One law for each command, by its constructor: the frame of a well-formed request is one that
the link carries (R148). -/

namespace Sys2Proof.Laws.RequestBodyFits

open Machine

/-- R148: a well-formed request's frame has a BODY of at most 248 bytes, and so 254 bytes at most. -/
def Statement (c : Instr) : Prop :=
  WellFormed c = true → ∀ f, requestParts c = some f → f.bytes.length ≤ 254

/-- A command that is no request carries no frame. -/
theorem of_none {c : Instr} (h : requestParts c = none) : Statement c :=
  fun _ f hf => by rw [h] at hf; cases hf

/-- R148: SYNC, LENGTH, KIND, SEQ and two bytes of CHECK stand about the BODY. -/
theorem bytes_length (f : Frame) : f.bytes.length = f.body.length + 6 := by
  simp [Frame.bytes, Frame.afterSync, Frame.covered, checkBytes]

theorem of_some {c : Instr} {f : Frame} (h : requestParts c = some f)
    (hb : WellFormed c = true → f.body.length ≤ 248) : Statement c :=
  fun hw g hg => by
    rw [h] at hg
    cases hg
    rw [bytes_length]
    have := hb hw
    omega

theorem powerOn (inputs : Inputs) : Statement (.powerOn inputs) :=
  of_none rfl

theorem resetinActive : Statement .resetinActive :=
  of_none rfl

theorem resetinInactive (inputs : Inputs) : Statement (.resetinInactive inputs) :=
  of_none rfl

theorem encoderPulse (z : ZoneId) : Statement (.encoderPulse z) :=
  of_none rfl

theorem estopChangeAtZones (active : Bool) : Statement (.estopChangeAtZones active) :=
  of_none rfl

theorem estopChangeAtDiverters (active : Bool) : Statement (.estopChangeAtDiverters active) :=
  of_none rfl

theorem blockedEdge (e : EyeId) : Statement (.blockedEdge e) :=
  of_none rfl

theorem unblockedEdge (e : EyeId) : Statement (.unblockedEdge e) :=
  of_none rfl

theorem homeActiveEdge (d : DiverterId) : Statement (.homeActiveEdge d) :=
  of_none rfl

theorem homeInactiveEdge (d : DiverterId) : Statement (.homeInactiveEdge d) :=
  of_none rfl

theorem jamTimerExpiry (e : EyeId) : Statement (.jamTimerExpiry e) :=
  of_none rfl

theorem strokeTimerExpiry (d : DiverterId) : Statement (.strokeTimerExpiry d) :=
  of_none rfl

theorem dwellTimerExpiry (d : DiverterId) : Statement (.dwellTimerExpiry d) :=
  of_none rfl

theorem returnTimerExpiry (d : DiverterId) : Statement (.returnTimerExpiry d) :=
  of_none rfl

theorem interByteTimeout : Statement .interByteTimeout :=
  of_none rfl

theorem frameDiscarded (buffer : List Byte) : Statement (.frameDiscarded buffer) :=
  of_none rfl

theorem linkTimerExpiry : Statement .linkTimerExpiry :=
  of_none rfl

theorem resendTimerExpiry : Statement .resendTimerExpiry :=
  of_none rfl

theorem frameSent : Statement .frameSent :=
  of_none rfl

theorem badKindFrame (kind : Byte) (seq : Byte) (body : List Byte) : Statement (.badKindFrame kind seq body) :=
  of_some rfl fun h => by
    simp only [WellFormed, Bool.and_eq_true, decide_eq_true_eq] at h
    exact h.2

theorem status (seq : Byte) (body : List Byte) : Statement (.status seq body) :=
  of_some rfl of_decide_eq_true

theorem identify (seq : Byte) (body : List Byte) : Statement (.identify seq body) :=
  of_some rfl of_decide_eq_true

theorem setLink (seq : Byte) (body : List Byte) : Statement (.setLink seq body) :=
  of_some rfl of_decide_eq_true

theorem reportAck (seq : Byte) (body : List Byte) : Statement (.reportAck seq body) :=
  of_some rfl of_decide_eq_true

theorem restart (seq : Byte) (body : List Byte) : Statement (.restart seq body) :=
  of_some rfl of_decide_eq_true

theorem start (seq : Byte) (body : List Byte) : Statement (.start seq body) :=
  of_some rfl of_decide_eq_true

theorem stop (seq : Byte) (body : List Byte) : Statement (.stop seq body) :=
  of_some rfl of_decide_eq_true

theorem defineZone (seq : Byte) (body : List Byte) : Statement (.defineZone seq body) :=
  of_some rfl of_decide_eq_true

theorem defineEye (seq : Byte) (body : List Byte) : Statement (.defineEye seq body) :=
  of_some rfl of_decide_eq_true

theorem defineDiverter (seq : Byte) (body : List Byte) : Statement (.defineDiverter seq body) :=
  of_some rfl of_decide_eq_true

theorem defineDestination (seq : Byte) (body : List Byte) : Statement (.defineDestination seq body) :=
  of_some rfl of_decide_eq_true

theorem undefine (seq : Byte) (body : List Byte) : Statement (.undefine seq body) :=
  of_some rfl of_decide_eq_true

theorem setLine (seq : Byte) (body : List Byte) : Statement (.setLine seq body) :=
  of_some rfl of_decide_eq_true

theorem clearPending (seq : Byte) (body : List Byte) : Statement (.clearPending seq body) :=
  of_some rfl of_decide_eq_true

theorem copyActive (seq : Byte) (body : List Byte) : Statement (.copyActive seq body) :=
  of_some rfl of_decide_eq_true

theorem readLayout (seq : Byte) (body : List Byte) : Statement (.readLayout seq body) :=
  of_some rfl of_decide_eq_true

theorem commitLayout (seq : Byte) (body : List Byte) : Statement (.commitLayout seq body) :=
  of_some rfl of_decide_eq_true

theorem announce (seq : Byte) (body : List Byte) : Statement (.announce seq body) :=
  of_some rfl of_decide_eq_true

theorem withdraw (seq : Byte) (body : List Byte) : Statement (.withdraw seq body) :=
  of_some rfl of_decide_eq_true

theorem queryItem (seq : Byte) (body : List Byte) : Statement (.queryItem seq body) :=
  of_some rfl of_decide_eq_true

theorem listZone (seq : Byte) (body : List Byte) : Statement (.listZone seq body) :=
  of_some rfl of_decide_eq_true

theorem purge (seq : Byte) (body : List Byte) : Statement (.purge seq body) :=
  of_some rfl of_decide_eq_true

theorem reroute (seq : Byte) (body : List Byte) : Statement (.reroute seq body) :=
  of_some rfl of_decide_eq_true

theorem haltZone (seq : Byte) (body : List Byte) : Statement (.haltZone seq body) :=
  of_some rfl of_decide_eq_true

theorem resumeZone (seq : Byte) (body : List Byte) : Statement (.resumeZone seq body) :=
  of_some rfl of_decide_eq_true

theorem disableEye (seq : Byte) (body : List Byte) : Statement (.disableEye seq body) :=
  of_some rfl of_decide_eq_true

theorem enableEye (seq : Byte) (body : List Byte) : Statement (.enableEye seq body) :=
  of_some rfl of_decide_eq_true

theorem testDiverter (seq : Byte) (body : List Byte) : Statement (.testDiverter seq body) :=
  of_some rfl of_decide_eq_true

theorem disableDiverter (seq : Byte) (body : List Byte) : Statement (.disableDiverter seq body) :=
  of_some rfl of_decide_eq_true

theorem enableDiverter (seq : Byte) (body : List Byte) : Statement (.enableDiverter seq body) :=
  of_some rfl of_decide_eq_true

theorem clearDiverterFault (seq : Byte) (body : List Byte) : Statement (.clearDiverterFault seq body) :=
  of_some rfl of_decide_eq_true

theorem receivedByte (b : Byte) : Statement (.receivedByte b) :=
  of_none rfl

end Sys2Proof.Laws.RequestBodyFits
end

