-- ==== Sys2Proof/Laws/Pool.lean ====
section
/-! SUPPORT. The item pool's shared operations, said once (R34, R37, R85, R87). -/

namespace Sys2Proof.Machine

/-- R34, R37: a release gives the record back, and its claims and its stroke slot with it. -/
theorem release_eq_without (s : State) (tag : Nat) : s.release tag = s.without tag := by
  have hz : (s.release tag).zones = (s.without tag).zones := by
    ext i hi
    obtain rfl | hi0 := Nat.eq_zero_or_pos i
    · simp [State.release, State.without, State.removeItem, State.evaluatePoolLow,
        State.modifyReasons, State.modifyZone, State.mapZones, State.configured, Bool.decide_and,
        bne, decide_not]
      rfl
    · have h0 : ¬ (0 = i) := by omega
      have h1 : ¬ ((⟨i, hi⟩ : ZoneId) = 0) := by
        intro h; exact h0 (congrArg Fin.val h).symm
      simp [State.release, State.without, State.removeItem, State.evaluatePoolLow,
        State.modifyReasons, State.modifyZone, State.mapZones, h0, h1]
  have hc : (s.release tag).claims = (s.without tag).claims := by
    ext i hi
    all_goals simp [State.release, State.without, State.removeItem, State.evaluatePoolLow,
        State.modifyReasons, State.modifyZone, State.mapZones]
  have hd : (s.release tag).diverters = (s.without tag).diverters := by
    ext i hi
    all_goals simp [State.release, State.without, State.removeItem, State.evaluatePoolLow,
        State.modifyReasons, State.modifyZone, State.mapZones]
  calc s.release tag
      = { s with zones := (s.release tag).zones, claims := (s.release tag).claims
                 diverters := (s.release tag).diverters, freeRecords := s.freeRecords + 1 } := rfl
    _ = s.without tag := by rw [hz, hc, hd]; rfl

/-- R85, R87: an assignment written changes only the record's assignment and the claim lists. -/
theorem writeClaim_frame (i : Item) (new : Option DiverterId) (s : State) :
    s.writeClaim i new =
      { s with zones := (s.writeClaim i new).zones, claims := s.claimLists i new } := rfl

/-- R85, R87: all that an assignment can do. -/
theorem reassign_cases (s : State) (tag : Nat) (excluded : Option DiverterId) :
    (s.findItem tag = none ∧ s.reassign tag excluded = (s, none)) ∨
    (∃ i, s.findItem tag = some i ∧ s.reassign tag excluded =
      (s.writeClaim i (s.assignment i excluded), s.assignment i excluded)) := by
  unfold State.reassign
  cases h : s.findItem tag with
  | none => exact .inl ⟨rfl, rfl⟩
  | some i => exact .inr ⟨i, rfl, rfl⟩

theorem reassign_frame (s : State) (tag : Nat) (excluded : Option DiverterId) :
    (s.reassign tag excluded).1 =
      { s with zones := (s.reassign tag excluded).1.zones
               claims := (s.reassign tag excluded).1.claims } := by
  rcases reassign_cases s tag excluded with ⟨-, h⟩ | ⟨i, -, h⟩
  · rw [h]
  · rw [h, writeClaim_frame]

/-- R85: an assigned diverter is claimable and is not the excluded one. -/
theorem assignment_claimable {s : State} {i : Item} {excluded : Option DiverterId} {d : DiverterId}
    (h : s.assignment i excluded = some d) : excluded ≠ some d ∧ s.claimable i d = true := by
  unfold State.assignment at h
  have ht {field : Option DiverterId} (hf : s.takes i excluded field = true) (he : field = some d) :
      excluded ≠ some d ∧ s.claimable i d = true := by
    subst he
    simpa [State.takes] using hf
  split at h
  · cases h
  · simp only at h
    split_ifs at h with hp ha
    · exact ht hp h
    · exact ht ha h

/-- R91: re-evaluating a claim list writes the zones, the claim lists, the report queue and the
counters. -/
theorem reevaluate_frame (d : DiverterId) (s : State) :
    s.reevaluate d =
      { s with zones := (s.reevaluate d).zones, claims := (s.reevaluate d).claims
               reports := (s.reevaluate d).reports, counters := (s.reevaluate d).counters } := by
  unfold State.reevaluate
  generalize s.claims[d] = tags
  induction tags generalizing s with
  | nil => rfl
  | cons tag tags ih =>
    have h := reassign_frame s tag (some d)
    rw [List.foldl_cons, ih]
    unfold State.moveClaim
    generalize s.reassign tag (some d) = r at h ⊢
    obtain ⟨t, new⟩ := r
    simp only at h
    rw [h]
    rfl

/-- R117: the item in a stroke slot taken out of it and TRACKED again, before it is assigned. -/
def State.slotEmptied (s : State) (d : DiverterId) (tag : Nat) : State :=
  (s.modifyDiverter d fun u => { u with slot := none }).updateItem tag s.backOnLine

/-- R117: all that a return from a stroke slot can do. -/
theorem returnItem_cases (d : DiverterId) (cause : MissCause) (s : State) :
    (s.diverters[d].slot = none ∧ s.returnItem d cause = s) ∨
    (∃ tag, s.diverters[d].slot = some tag ∧ s.returnItem d cause =
      ((s.slotEmptied d tag).reassign tag (some d)).1.post
        (.missedDivert tag d cause ((s.slotEmptied d tag).reassign tag (some d)).2)) := by
  unfold State.returnItem
  cases s.diverters[d].slot with
  | none => exact .inl ⟨rfl, rfl⟩
  | some tag => exact .inr ⟨tag, rfl, rfl⟩

/-! ### A transfer that meets a return (R188) -/

/-- Only an item whose transfer meets its return passes a window as it is carried on. -/
theorem carriedOn_cases (s : State) (i : Item) (y : ZoneId) (p : Nat) :
    (s.justReturned i = true ∧ s.carriedOn i y p =
      { i with
        nextEye := s.activeLayout.eyePast i.zone y p 12 i.nextEye
        returnedAt := some s.zones[y].count }) ∨
    (s.justReturned i = false ∧ s.carriedOn i y p = { i with returnedAt := none }) := by
  unfold State.carriedOn
  cases h : s.justReturned i with
  | true => exact .inl ⟨rfl, if_pos rfl⟩
  | false => exact .inr ⟨rfl, if_neg (by simp)⟩

end Sys2Proof.Machine
end

