-- ==== Sys2Proof/Laws/Requests.lean ====
section
/-! SUPPORT. A request that is answered, said once: what its effect and its answer come to at the end of
its happening (R154, R156, R162). -/

namespace Sys2Proof.Machine

/-- R154: a request that is no retry and finds no reply waiting is executed after the frame's signs of
life, and answered. -/
theorem request_fresh (kind seq : Byte) (op : State → State × Answer) (s : State)
    (h : FreshRequest s seq) :
    request kind seq op s =
      .next ((op s.rest.supervise).1.settleZones.placeReply kind seq
        (op s.rest.supervise).2).chooseFrame := by
  obtain ⟨ha, hs, hc⟩ := h
  have hr : s.rest.retryReply seq = none := by
    simpa [State.retryReply, State.rest, Option.filter_eq_none_iff] using hc
  have hl : s.rest.link.slot.isSome = false := by rw [show s.rest.link.slot = none from hs]; rfl
  unfold request State.handle
  rw [if_neg (by simp [ha]), if_neg (by rw [hl]; decide), hr]
  rfl

/-- R154: a frame's signs of life write the link and LINK. -/
theorem supervise_frame (s : State) :
    s.rest.supervise =
      { s with
        zones := s.zones.set 0
          { s.zones[(0 : ZoneId)] with
            reasons := { s.zones[(0 : ZoneId)].reasons with link := false } }
        link := { s.link with
          receiver := .hunting, interByte := none, up := true
          linkTimer := s.link.settings.linkTimer } } := rfl

/-- R162: a reply placed goes ahead of every report. -/
theorem placeReply_reports (kind seq : Byte) (a : Answer) (s : State) :
    (s.placeReply kind seq a).chooseFrame.reports = s.reports :=
  chooseFrame_reports_of_slot _ _ rfl

/-- R154, R156, R162: a fresh request whose effect on the supervised state is `v` and the reports `rs`,
where `v` is `u` but for the link and LINK, has the effect `u`, and its reply is cached. -/
theorem request_takes (kind seq : Byte) (op : State → State × Answer) (s u v : State)
    (rs : List Report) (body : List Byte) (h : FreshRequest s seq)
    (he : op s.rest.supervise = (v.postAll rs, .fixed body))
    (hv : { v with link := u.link, zones := u.zones } = u)
    (hz : ∀ z : ZoneId, { v.zones[z] with
      reasons := { v.zones[z].reasons with link := u.zones[z].reasons.link } } = u.zones[z])
    (hp : ∀ z : ZoneId, u.zones[z].permit = s.zones[z].permit) :
    ∃ t, request kind seq op s = .next t ∧ Brings s u t rs ∧
      t.link.cache = some ⟨replyKind kind, seq, body⟩ := by
  have hr := request_fresh kind seq op s h
  rw [he] at hr
  generalize ht : ((v.postAll rs).settleZones.placeReply kind seq (.fixed body)).chooseFrame = t at hr
  have hw : EndsAs (v.postAll rs) t := by
    rw [← ht]
    refine chooseFrame_endsAs _ _ ?_
    unfold State.placeReply
    generalize (v.postAll rs).settleZones = w
    exact ⟨_, rfl⟩
  have hq : t.reports = (v.postAll rs).settleZones.reports := by rw [← ht, placeReply_reports]
  obtain ⟨hl, hs⟩ := hw.leaves hv hz hp
  refine ⟨t, hr, ⟨hl, hq.trans hs⟩, ?_⟩
  rw [← ht, chooseFrame_frame]
  rfl

end Sys2Proof.Machine
end

