-- ==== Sys2Proof/Tests/Slice0.lean ====
section
/-! SUPPORT. Smoke tests of the model, one step each, and a witness for the hypotheses of every statement.
Expected results are worked by hand from the rules that the docstrings cite. -/

namespace Sys2Proof.Tests

open Machine

set_option Elab.async false

/-! ### A small line -/

/-- Zone 0 of 400 pulses with the induction eye at 10 and a confirmation eye at 300; zone 1 of 100 pulses
with a light-on confirmation eye at 60. Diverter 0 triggers at 200 in zone 0, diverters 1 and 2 at 70 and
90 in zone 1. -/
def plan : Layout where
  zones := #v[some ⟨400, 0⟩, some ⟨100, 10⟩, none, none]
  eyes := ((Vector.replicate 12 none).set 0 (some ⟨0, 10, 4, .induct, .darkOn, 1000⟩)
    |>.set 1 (some ⟨0, 300, 5, .confirm, .darkOn, 1000⟩)
    |>.set 2 (some ⟨1, 60, 5, .confirm, .lightOn, 0⟩))
  diverters := ((Vector.replicate 16 none).set 0 (some ⟨0, 210, 10, 5, 300, 200, 400⟩)
    |>.set 1 (some ⟨1, 80, 10, 5, 300, 200, 400⟩)
    |>.set 2 (some ⟨1, 90, 0, 5, 300, 200, 400⟩))
  destinations := (Vector.replicate 64 ⟨none, none⟩).set 0 ⟨some 0, some 1⟩ |>.set 63 ⟨some 1, none⟩
  line := ⟨8, 20, 10, 2, 4, some 63, true⟩

/-- The field as the line at rest shows it: the light-on eye lit, the paddles of diverters 0 and 1 home. -/
def field : Inputs :=
  { inactiveInputs with
    eyes := inactiveInputs.eyes.set 2 true
    homes := (inactiveInputs.homes.set 0 true).set 1 true |>.set 2 true }

/-- The link UP, with a send window of 2 and a link timeout of 500 ms, all run. -/
def upLink : HostLink :=
  { HostLink.powerOn .baud57600 with
    up := true, linkTimer := some ⟨500, 500⟩, settings := ⟨2, 200, 500⟩ }

/-- The line in STANDBY with nothing on it. -/
def standby : State :=
  { State.reset with
    module := .standby, pendingLayout := plan, activeLayout := plan, inputs := field, link := upLink
    eyes := (State.reset.eyes.set 0 ⟨.clear, 0⟩).set 1 ⟨.clear, 0⟩ |>.set 2 ⟨.clear, 0⟩
    diverters := (State.reset.diverters.set 0 ⟨.idle, none, none, false⟩).set 1
      ⟨.idle, none, none, false⟩ |>.set 2 ⟨.idle, none, none, false⟩
    reports := ⟨[], 2, 0, none⟩ }

/-- A TRACKED record. -/
def item (tag : Nat) (z : ZoneId) (p : Nat) (destination : Option DestinationCode)
    (assigned : Option DiverterId) (nextEye : Option EyeId) : Item where
  tag := tag
  origin := .announced
  reference := none
  destination := destination
  requested := destination
  zone := z
  base := 1000 - BitVec.ofNat 24 p
  length := 10
  expected := none
  state := .tracked
  assigned := assigned
  nextEye := nextEye
  missRun := 0
  flags := ⟨false, false, false, false⟩
  returnedAt := none

/-- The line in TRACKING with every count at 1000. -/
def running : State :=
  { standby with
    module := .tracking
    zones := Vector.ofFn fun z =>
      ⟨1000, { Reasons.none with stopped := decide (2 ≤ z.val) }, decide (z.val < 2), []⟩ }

/-- Items on the line, head first in each zone, and the claims of those assigned. -/
def loaded (zone0 zone1 : List Item) (s : State := running) : State :=
  { s with
    zones := (s.zones.set 0 { s.zones[(0 : ZoneId)] with track := zone0 }).set 1
      { s.zones[(1 : ZoneId)] with track := zone1 }
    freeRecords := 96 - (zone0.length + zone1.length)
    claims := Vector.ofFn fun d =>
      ((zone1 ++ zone0).filter fun i => decide (i.state = .tracked ∧ i.assigned = some d)).map Item.tag }

/-- Three items: tag 5 in zone 1, tag 6 just short of diverter 0's trigger point, tag 7 behind it. -/
def demo : State :=
  loaded [item 6 0 199 (some 0) (some 0) (some 1), item 7 0 100 none none (some 1)]
    [item 5 1 30 (some 63) (some 1) (some 2)]

/-! ### Reading an outcome -/

/-- The command has a next state, and `p` holds of it. -/
def after (c : Instr) (s : State) (p : State → Bool) : Bool :=
  match exec c s with
  | .next t => p t
  | _ => false

/-- The body of the reply that the command leaves in the last-reply cache. -/
def answers (c : Instr) (s : State) : Option (List Byte) :=
  match exec c s with
  | .next t => t.link.cache.map Frame.body
  | _ => none

/-- The reports that the command leaves in the queue. -/
def reported (c : Instr) (s : State) : List Report :=
  match exec c s with
  | .next t => t.reports.entries.map Entry.report
  | _ => []

/-- A test that a command passes is a next state of it. -/
theorem next_of_after {c : Instr} {s : State} {p : State → Bool} (h : after c s p = true) :
    ∃ t, exec c s = .next t ∧ p t = true := by
  unfold after at h
  split at h
  · next t ht => exact ⟨t, ht, h⟩
  · cases h

/-! ### WellFormed refuses what the link cannot carry -/

/-- R148: a BODY of 249 bytes is too long, one of 248 is not. -/
theorem test_wellFormed_body :
    WellFormed (.status 0 (List.replicate 249 0)) = false ∧
    WellFormed (.status 0 (List.replicate 248 0)) = true ∧
    WellFormed (.announce 0 (List.replicate 249 0)) = false ∧
    WellFormed (.clearDiverterFault 0 (List.replicate 249 0)) = false ∧
    WellFormed (.badKindFrame 0x7F 0 (List.replicate 249 0)) = false := by decide +kernel

/-- R182: a frame answered BAD_KIND has no request kind. -/
theorem test_wellFormed_kind :
    WellFormed (.badKindFrame 0x06 0 []) = false ∧ WellFormed (.badKindFrame 0x08 0 []) = true := by
  decide +kernel

/-- R150, R151: a discarded frame has a bad LENGTH or a CHECK that differs. -/
theorem test_wellFormed_discard :
    WellFormed (.frameDiscarded []) = false ∧ WellFormed (.frameDiscarded [0x02]) = false ∧
    WellFormed (.frameDiscarded [0x01]) = true ∧ WellFormed (.frameDiscarded [0xFB]) = true ∧
    WellFormed (.frameDiscarded [0x02, 0x06, 0x01, 0x00, 0x00]) = true ∧
    WellFormed (.frameDiscarded (Frame.afterSync ⟨0x06, 0x01, []⟩)) = false := by decide +kernel

/-! ### Frames -/

/-- R149: the check of the nine characters "123456789". -/
theorem test_crc : crc [0x31, 0x32, 0x33, 0x34, 0x35, 0x36, 0x37, 0x38, 0x39] = 0x29B1 := by
  decide +kernel

/-- Table 10-11: the bytes before the CHECK. -/
theorem test_table_10_11 :
    (Entry.frame ⟨12, .inducted 1001 .announced (some 5) (some 2) 420 ⟨false, false, false, false⟩
      (some 77), 0, true⟩).bytes.take 18 =
      [0xA5, 0x10, 0x63, 0x00, 0x0C, 0x00, 0x00, 0xE9, 0x03, 0x00, 0x01, 0x05, 0x02, 0xA4, 0x01,
        0x00, 0x4D, 0x00] := by decide +kernel

/-! ### One step of each command: supply, reset and field inputs -/

/-- R129. -/
theorem test_powerOn : after (.powerOn field) demo (fun t =>
    t.module = .unconfigured && t.inputs = field && t.activeLayout = .empty &&
      t.reports.nextNumber = 2) = true := by decide +kernel

/-- R130. -/
theorem test_resetinActive : after .resetinActive demo (fun t =>
    t.resetActive && !t.zones[(0 : ZoneId)].permit && t.link.transmitter = .free) = true := by
  decide +kernel

/-- R129, R130: the cause is RESET_LINE. -/
theorem test_resetinInactive :
    reported (.resetinInactive field) { demo with resetActive := true } =
      [.moduleState .unconfigured .resetLine] := by decide +kernel

/-- R110, R112: the pulse brings tag 6 to 200, where diverter 0 fires. -/
theorem test_encoderPulse_fires : after (.encoderPulse 0) demo (fun t =>
    t.diverters[(0 : DiverterId)] = ⟨.extending, some ⟨300, 0⟩, some 6, false⟩ &&
      t.claims[(0 : DiverterId)] = []) = true := by decide +kernel

/-- R4: the count after 16,777,215 is 0. -/
theorem test_encoderPulse_wraps :
    after (.encoderPulse 3)
      { standby with zones := standby.zones.set 3 ⟨0xFFFFFF, Reasons.none, true, []⟩ }
      (fun t => t.zones[(3 : ZoneId)].count = 0) = true := by decide +kernel

/-- R12, R14: the permits go off, most downstream zone first. -/
theorem test_estopChangeAtZones : reported (.estopChangeAtZones true) running =
    [.zoneChange 1 false { Reasons.none with estop := true },
      .zoneChange 0 false { Reasons.none with estop := true }] := by decide +kernel

/-- Diverter 2 EXTENDING with tag 8 in its slot, its stroke timeout of 300 ms all run. -/
def striking : State :=
  let s := loaded [] [{ item 8 1 90 (some 0) (some 2) none with state := .diverting }]
  { s with diverters := s.diverters.set 2 ⟨.extending, some ⟨300, 300⟩, some 8, false⟩ }

/-- R117, R124: the stroke is withdrawn and its item is returned with cause ESTOP. -/
theorem test_estopChangeAtDiverters :
    after (.estopChangeAtDiverters true) striking (fun t =>
      t.diverters[(2 : DiverterId)] = ⟨.idle, none, none, false⟩ &&
        t.zones[(1 : ZoneId)].track.map Item.state = [.tracked]) = true ∧
    reported (.estopChangeAtDiverters true) striking = [.missedDivert 8 2 .estop none] := by
  decide +kernel

/-- Diverter 2's actuator leaves home, one pulse on, as the next command is taken. -/
def leaving (s : State := striking) : State :=
  { s with pending := [.encoderPulse 1, .homeInactiveEdge 2] }

/-- Tag 8, in diverter 0's stroke slot, one pulse short of the end of zone 0, eye 1 still its next eye. -/
def parting : State :=
  let s := loaded [{ item 8 0 399 (some 0) (some 0) (some 1) with state := .diverting }] []
  { s with diverters := s.diverters.set 0 ⟨.extending, some ⟨300, 300⟩, some 8, false⟩ }

/-- R188: an item returned before the pulse that transfers it passes eye 1 silently, as it would have while
DIVERTING, whatever is taken between. R74: one more pulse back, it is lost there. -/
theorem test_disable_meets_transfer :
    after (.disableDiverter 1 [0]) parting (fun t =>
      after (.encoderPulse 1) t (fun v => after (.encoderPulse 0) v (fun u =>
        u.zones[(1 : ZoneId)].track.map (fun i => (i.tag, i.state, i.nextEye, i.missRun)) =
          [(8, .tracked, some 2, 0)]))) = true ∧
    (let s := loaded [{ item 8 0 399 none none (some 1) with
        flags := ⟨true, false, false, false⟩, returnedAt := some 999 }] []
     reported (.encoderPulse 0) s = [.lost 8 0 (some 1) .shadow]) := by decide +kernel

/-- R105, Table 6-10: the stop finds the actuator leaving home, and the edge then has no effect. -/
theorem test_estop_meets_edge :
    after (.estopChangeAtDiverters true) leaving (fun t =>
      t.diverters[(2 : DiverterId)] = ⟨.retracting, some ⟨400, 0⟩, none, false⟩ &&
        after (.homeInactiveEdge 2) t (fun u => u = t)) = true := by decide +kernel

/-- R7: the transfer carries the head of diverter 1's claim list to 10, past its trigger point at 5. -/
theorem test_transfer_past_trigger :
    after (.encoderPulse 0)
      { loaded [item 9 0 399 (some 63) (some 1) (some 2)] [] with
        activeLayout := { plan with
          diverters := plan.diverters.set 1 (some ⟨1, 15, 10, 5, 300, 200, 400⟩) } } (fun t =>
      t.zones[(1 : ZoneId)].track.map t.position = [10] &&
        t.diverters[(1 : DiverterId)].slot = some 9) = true := by decide +kernel

/-- Tag 9 stands three pulses short of eye 1. -/
def nearEye : State := loaded [item 9 0 297 none none (some 1)] []

/-- R69: the item is put at the eye's position and waits for no further eye of zone 0. -/
theorem test_blockedEdge_matches : after (.blockedEdge 1) nearEye (fun t =>
    t.zones[(0 : ZoneId)].track.map (fun i => (t.position i, i.nextEye)) = [(300, some 2)] &&
      t.eyes[(1 : EyeId)].state = .blocked) = true := by decide +kernel

/-- R70: with nothing due there, the edge is a phantom. -/
theorem test_blockedEdge_phantom : reported (.blockedEdge 1) demo = [.phantom 1 0] := by
  decide +kernel

/-- A span of some pulses at the induction eye. -/
def measuring (n : Nat) (s : State := running) : State :=
  { s with
    span := .measuring, spanCount := n, eyes := s.eyes.set 0 ⟨.blocked, 0⟩
    inputs := { s.inputs with eyes := s.inputs.eyes.set 0 true } }

/-- R50: 7 pulses are noise at a minimum length of 8. -/
theorem test_unblockedEdge_noise : after (.unblockedEdge 0) (measuring 7) (fun t =>
    t.counters.noiseDiscards = 1 && t.span = .idle && t.zones[(0 : ZoneId)].track = []) = true := by
  decide +kernel

/-- R36, R53, R54, R56: 8 pulses induct an anonymous item at 18, for the reject destination. -/
theorem test_unblockedEdge_inducts :
    reported (.unblockedEdge 0) (measuring 8) =
      [.inducted 61440 .anonymous (some 63) (some 1) 8 ⟨false, false, false, false⟩ none] ∧
    after (.unblockedEdge 0) (measuring 8) (fun t =>
      t.zones[(0 : ZoneId)].track.map t.position = [18] && t.freeRecords = 95) = true := by
  decide +kernel

/-- Diverter 1 in a state, its home sensor at a level. -/
def diverter1 (state : DiverterState) (timer : Option Timer) (home : Bool) (s : State := running) :
    State :=
  { s with
    diverters := s.diverters.set 1 ⟨state, timer, none, false⟩
    inputs := { s.inputs with homes := s.inputs.homes.set 1 home } }

/-- R100. -/
theorem test_homeActiveEdge :
    reported (.homeActiveEdge 1) (diverter1 .settling (some ⟨400, 9⟩) false) =
      [.diverterChange 1 .idle .homed] := by decide +kernel

/-- R34, R102: the item is delivered and its record released. -/
theorem test_homeInactiveEdge :
    reported (.homeInactiveEdge 2) striking = [.diverted 8 2 none] ∧
    after (.homeInactiveEdge 2) striking (fun t =>
      t.diverters[(2 : DiverterId)] = ⟨.holding, some ⟨200, 0⟩, none, false⟩ &&
        t.freeRecords = 96 && t.counters.diverted = 1) = true := by decide +kernel

/-! ### Timers -/

/-- Eye 1 BLOCKED. -/
def shut (s : State := running) : State :=
  { s with
    eyes := s.eyes.set 1 ⟨.blocked, 1000⟩
    inputs := { s.inputs with eyes := s.inputs.eyes.set 1 true } }

/-- R12, R65: JAM stops the eye's zone. -/
theorem test_jamTimerExpiry : reported (.jamTimerExpiry 1) shut =
    [.jam 1 0 true, .zoneChange 0 false { Reasons.none with jam := true }] := by decide +kernel

/-- R103, R107, R117. -/
theorem test_strokeTimerExpiry : reported (.strokeTimerExpiry 2) striking =
    [.diverterChange 2 .fault .strokeTimeout, .missedDivert 8 2 .strokeFault none] := by
  decide +kernel

/-- R1: at 299 of 300 ms nothing runs out. At 300 a millisecond may pass yet, and at 301 none. -/
theorem test_stroke_timer_bounds :
    let at_ : Nat → State := fun ms =>
      { striking with diverters := striking.diverters.set 2 ⟨.extending, some ⟨300, ms⟩, some 8, false⟩ }
    after (.strokeTimerExpiry 2) (at_ 299) (fun t => t = at_ 299) = true ∧
    (match step { at_ 300 with link := State.reset.link } with
      | .next t => decide (t.diverters[(2 : DiverterId)].timer = some ⟨300, 301⟩)
      | _ => false) = true ∧
    (match step { at_ 301 with link := State.reset.link } with
      | .next t => decide (t.diverters[(2 : DiverterId)] = ⟨.fault, none, none, false⟩)
      | _ => false) = true := by decide +kernel

/-- R104. -/
theorem test_dwellTimerExpiry :
    after (.dwellTimerExpiry 1) (diverter1 .holding (some ⟨200, 200⟩) false) (fun t =>
      t.diverters[(1 : DiverterId)] = ⟨.retracting, some ⟨400, 0⟩, none, false⟩) = true := by
  decide +kernel

/-- R100, R107. -/
theorem test_returnTimerExpiry :
    reported (.returnTimerExpiry 1) (diverter1 .settling (some ⟨400, 400⟩) false) =
      [.diverterChange 1 .fault .noHome] := by decide +kernel

/-- The receiver with bytes collected, and no byte for 3 ms. -/
def collecting (buffer : List Byte) (s : State := demo) : State :=
  { s with link := { s.link with receiver := .collecting buffer, interByte := some ⟨3, 3⟩ } }

/-- R152, R153. -/
theorem test_interByteTimeout : after .interByteTimeout (collecting [0x05, 0x01]) (fun t =>
    t.counters.framesDiscarded = 1 && t.link.receiver = .hunting && t.link.interByte = none) =
      true := by decide +kernel

/-! ### The host link -/

/-- R150, R153: a LENGTH of 1. -/
theorem test_frameDiscarded : after (.frameDiscarded [0x01]) demo (fun t =>
    t.counters.framesDiscarded = 1) = true := by decide +kernel

/-- R18, R158: LINK joins zone 0 under infeed hold. -/
theorem test_linkTimerExpiry : after .linkTimerExpiry running (fun t =>
    !t.link.up && t.zones[(0 : ZoneId)].reasons.link && !t.zones[(0 : ZoneId)].permit) = true := by
  decide +kernel

/-- Three reports held, the first two OUTSTANDING for 200 ms, their numbers running through 65,535. -/
def reporting (s : State := demo) : State :=
  { s with reports :=
    ⟨[⟨65535, .untracked 0, 0, true⟩, ⟨1, .untracked 0, 2, true⟩, ⟨2, .untracked 0, 0, false⟩], 3, 2,
      some ⟨200, 200⟩⟩ }

/-- R172: both are UNSENT, and the oldest begins again. -/
theorem test_resendTimerExpiry : after .resendTimerExpiry (reporting running) (fun t =>
    t.reports.entries.map Entry.outstanding = [true, false, false] && t.reports.outstanding = 1 &&
      t.reports.resendTimer = some ⟨200, 0⟩) = true := by decide +kernel

/-- The transmitter busy. -/
def sending (s : State := demo) : State :=
  { s with link := { s.link with transmitter := .sending [0xA5, 0x02] } }

/-- R161. -/
theorem test_frameSent : after .frameSent sending (fun t => t.link.transmitter = .free) = true := by
  decide +kernel

/-- R154 step 4, R182. -/
theorem test_badKindFrame : answers (.badKindFrame 0x08 1 [0x00]) demo = some [0x02] := by
  decide +kernel

/-- R150, R151, R154: the CHECK's last byte completes a frame, and START in TRACKING is refused with
the module state. -/
theorem test_receivedByte :
    answers (.receivedByte (Frame.bytes ⟨0x06, 0x01, []⟩).getLast!)
      (collecting (Frame.bytes ⟨0x06, 0x01, []⟩).tail.dropLast) = some [0x04, 0x02] := by
  decide +kernel

/-! ### Requests -/

/-- R145, Table 10-9: 55 bytes, from the module state and zone 0's block on. -/
theorem test_status :
    (answers (.status 1 []) demo).map (fun b => (b.length, b.take 6)) =
      some (55, [0x00, 0x02, 0x01, 0x00, 0x01, 0x02]) := by decide +kernel

/-- R146. -/
theorem test_identify :
    (answers (.identify 1 []) demo).map (fun b => (b.take 2, b.drop 3)) =
      some ([0x00, 0x30], [0x04, 0x0C, 0x10, 0x60, 0x10, 0x40, 0x40]) := by decide +kernel

/-- R160: a resend time of 19 ms is out of range, and the old settings are answered. -/
theorem test_setLink : answers (.setLink 1 [0x04, 0x13, 0x00, 0x00, 0x00]) demo =
    some [0x03, 0x02, 0xC8, 0x00, 0xF4, 0x01] := by decide +kernel

/-- R173: number 1 removes two entries. -/
theorem test_reportAck : answers (.reportAck 1 [0x01, 0x00]) (reporting (sending running)) =
    some [0x00, 0x01, 0x00, 0x02, 0x02, 0x00, 0x01, 0x00] := by decide +kernel

/-- R135: the account is given up and the line stands. -/
theorem test_restart : after (.restart 1 []) demo (fun t =>
    t.module = .standby && t.freeRecords = 96 && t.zones[(0 : ZoneId)].count = 1000 &&
      t.reports.entries.map Entry.number = [1, 2, 3, 4, 5, 6]) = true := by decide +kernel

/-- R126, R135: diverter 2 is not home as its completing stroke meets the RESTART. -/
theorem test_restart_meets_edge : after (.restart 1 []) leaving (fun t =>
    t.diverters[(2 : DiverterId)] = ⟨.settling, some ⟨400, 0⟩, none, false⟩ &&
      after (.homeInactiveEdge 2) t (fun u => u = t)) = true := by decide +kernel

/-- R131, and R154 step 5 for a body that START does not have. -/
theorem test_start : answers (.start 1 []) standby = some [0x00, 0x02] ∧
    answers (.start 1 [0x00]) standby = some [0x01] := by decide +kernel

/-- R132. -/
theorem test_stop : answers (.stop 1 []) demo = some [0x00, 0x01] := by decide +kernel

/-- R3, R138: zone 2 of 300 pulses. -/
theorem test_defineZone : after (.defineZone 1 [0x02, 0x2C, 0x01, 0x05]) demo (fun t =>
    t.pendingLayout.zones[(2 : ZoneId)] = some ⟨300, 5⟩) = true := by decide +kernel

/-- R60, R138. -/
theorem test_defineEye :
    after (.defineEye 1 [0x03, 0x01, 0x2C, 0x01, 0x07, 0x01, 0x01, 0x64, 0x00]) demo (fun t =>
      t.pendingLayout.eyes[(3 : EyeId)] = some ⟨1, 300, 7, .confirm, .lightOn, 100⟩) = true := by
  decide +kernel

/-- R97, R138. -/
theorem test_defineDiverter :
    after (.defineDiverter 1 [0x0F, 0x01, 0x2C, 0x01, 0x0A, 0x00, 0x05, 0x00, 0x0A, 0x00, 0xD0, 0x07,
        0x14, 0x00]) demo (fun t =>
      t.pendingLayout.diverters[(15 : DiverterId)] = some ⟨1, 300, 10, 5, 10, 2000, 20⟩) = true := by
  decide +kernel

/-- R81, R138. -/
theorem test_defineDestination : after (.defineDestination 1 [0x3F, 0x0F, 0xFF]) demo (fun t =>
    t.pendingLayout.destinations[(63 : DestinationCode)] = ⟨some 15, none⟩) = true := by
  decide +kernel

/-- R138. -/
theorem test_undefine : after (.undefine 1 [0x02, 0x01]) demo (fun t =>
    t.pendingLayout.diverters[(1 : DiverterId)] = none) = true := by decide +kernel

/-- R137: a maximum length of 300. -/
theorem test_setLine :
    after (.setLine 1 [0x08, 0x00, 0x2C, 0x01, 0x00, 0x00, 0x03, 0x10, 0xFF, 0x01]) demo (fun t =>
      t.pendingLayout.line = ⟨8, 300, 0, 3, 16, none, true⟩) = true := by decide +kernel

/-- R139. -/
theorem test_clearPending : after (.clearPending 1 []) demo (fun t =>
    t.pendingLayout.line.maxLength = 1500 && t.pendingLayout.zones[(0 : ZoneId)] = none) = true := by
  decide +kernel

/-- R139. -/
theorem test_copyActive : after (.copyActive 1 []) { demo with pendingLayout := .empty } (fun t =>
    t.pendingLayout = plan) = true := by decide +kernel

/-- R140: zone 1 of the active copy. -/
theorem test_readLayout : answers (.readLayout 1 [0x01, 0x00, 0x01]) demo =
    some [0x00, 0x01, 0x00, 0x01, 0x01, 0x64, 0x00, 0x0A] := by decide +kernel

/-- R141 to R143: an empty copy fails check 1, which names zone 0; the plan is taken up. -/
theorem test_commitLayout :
    answers (.commitLayout 1 []) { standby with pendingLayout := .empty } =
      some [0x0A, 0x01, 0x00, 0x00] ∧
    answers (.commitLayout 1 []) standby = some [0x00, 0x01] := by decide +kernel

/-- R43: tag 1000 for destination 0, expected 300, reference 77. -/
theorem test_announce :
    after (.announce 1 [0xE8, 0x03, 0x00, 0x03, 0x2C, 0x01, 0x4D, 0x00]) demo (fun t =>
      t.announcements = [⟨1000, 0, some 300, some 77⟩]) = true ∧
    answers (.announce 1 [0x05, 0x00, 0x00, 0x00]) demo = some [0x05] := by decide +kernel

/-- Announcements waiting. -/
def waiting (n : Nat) (s : State := demo) : State :=
  { s with announcements := (List.range n).map fun k => ⟨1000 + k, 0, none, none⟩ }

/-- R45. -/
theorem test_withdraw : answers (.withdraw 1 [0xE9, 0x03]) (waiting 3) =
    some [0x00, 0xE9, 0x03, 0x00, 0x00, 0xFF, 0xFF, 0xFF, 0xFF, 0x02] := by decide +kernel

/-- R38, Table 10-8: tag 6 stands at 199, claims diverter 0 and waits for eye 1. -/
theorem test_queryItem : answers (.queryItem 1 [0x06, 0x00]) demo =
    some [0x00, 0x00, 0x06, 0x00, 0x00, 0x00, 0xFF, 0xFF, 0x00, 0x00, 0x00, 0xC7, 0x00, 0x0A, 0x00,
      0xFF, 0xFF, 0x00, 0x00, 0x01, 0x00, 0x00] := by decide +kernel

/-- R39. -/
theorem test_listZone : answers (.listZone 1 [0x00, 0x01]) demo =
    some [0x00, 0x02, 0x01, 0x01, 0x07, 0x00] := by decide +kernel

/-- R34, R40. -/
theorem test_purge : after (.purge 1 [0x06, 0x00]) demo (fun t =>
    t.lineItems.map Item.tag = [5, 7] && t.claims[(0 : DiverterId)] = [] && t.freeRecords = 94) =
      true := by decide +kernel

/-- R87, R93: tag 7 goes behind tag 6 in the claim list of diverter 0. -/
theorem test_reroute :
    after (.reroute 1 [0x07, 0x00, 0x00]) demo (fun t => t.claims[(0 : DiverterId)] = [6, 7]) = true ∧
    answers (.reroute 1 [0x07, 0x00, 0x00]) demo = some [0x00, 0x07, 0x00, 0x00, 0xFF, 0x00] := by
  decide +kernel

/-- R16, R19: HOST in zone 1 holds zone 0 as DOWNSTREAM. -/
theorem test_haltZone : answers (.haltZone 1 [0x01]) running = some [0x00, 0x08] ∧
    after (.haltZone 1 [0x01]) running (fun t => t.zones[(0 : ZoneId)].reasons.byte = 0x10) = true := by
  decide +kernel

/-- Eye 1 JAM_HELD, holding JAM in zone 0. -/
def jamHeld : State :=
  { running with
    eyes := running.eyes.set 1 ⟨.jamHeld, 0⟩
    zones := running.zones.set 0
      { running.zones[(0 : ZoneId)] with reasons := { Reasons.none with jam := true }, permit := false } }

/-- R20. -/
theorem test_resumeZone : reported (.resumeZone 1 [0x00]) jamHeld =
    [.jam 1 0 false, .zoneChange 0 true Reasons.none] := by decide +kernel

/-- R76: the induction eye is not disabled. -/
theorem test_disableEye : answers (.disableEye 1 [0x01]) demo = some [0x00, 0x04] ∧
    answers (.disableEye 1 [0x00]) demo = some [0x04] := by decide +kernel

/-- R78: the eye's input stands dark. -/
theorem test_enableEye :
    answers (.enableEye 1 [0x01])
      { shut with eyes := running.eyes.set 1 ⟨.disabled, 0⟩ } = some [0x00, 0x01] := by decide +kernel

/-- R119, R120. -/
theorem test_testDiverter : answers (.testDiverter 1 [0x01]) standby = some [0x00, 0x03] ∧
    answers (.testDiverter 1 [0x01]) demo = some [0x04, 0x02] := by decide +kernel

/-- R91, R121: tag 6 has no other diverter to go to but its alternate. -/
theorem test_disableDiverter : reported (.disableDiverter 1 [0x00]) demo =
    [.claimMoved 6 0 (some 1)] := by decide +kernel

/-- R122: the sensor is active, so the diverter is IDLE at once. -/
theorem test_enableDiverter :
    answers (.enableDiverter 1 [0x01]) (diverter1 .disabled none true) = some [0x00, 0x02] := by
  decide +kernel

/-- R123. -/
theorem test_clearDiverterFault :
    answers (.clearDiverterFault 1 [0x01]) (diverter1 .fault none false) = some [0x00, 0x01] := by
  decide +kernel

/-! ### The queue of commands -/

/-- The front command is taken and the rest wait. -/
theorem test_step_takes_front :
    (match step { demo with pending := [.frameSent, .resetinActive] } with
      | .next t => decide (t.pending = [.resetinActive])
      | _ => false) = true := by decide +kernel

/-- Log entry 16: no word spells a command. -/
theorem test_no_word_spells_a_command : decodeTableWord 32 0xA5020601 = none := by decide

/-! ### Witnesses: states and operands that meet the hypotheses of each statement

Each theorem is named after its statement and goes through its clauses in order, at boundary values. -/

/-- No timer of a state has run for longer than its time. -/
theorem none_late {s : State}
    (eyes : ∀ e : EyeId, ∀ d ∈ s.activeLayout.eyes[e], s.eyes[e].jamElapsed ≤ d.jamTime)
    (diverters : ∀ d : DiverterId, ∀ τ ∈ s.diverters[d].timer, τ.elapsed ≤ τ.duration)
    (interByte : ∀ τ ∈ s.link.interByte, τ.elapsed ≤ τ.duration)
    (linkTimer : ∀ τ ∈ s.link.linkTimer, τ.elapsed ≤ τ.duration)
    (resendTimer : ∀ τ ∈ s.reports.resendTimer, τ.elapsed ≤ τ.duration) :
    ∀ c τ, TimerRuns s c τ → τ.elapsed ≤ τ.duration := by
  rintro c τ (⟨e, -, -, d, hd, -, -, rfl⟩ | ⟨d, hd, -⟩ | ⟨-, -, h⟩ | ⟨-, -, h⟩ | ⟨-, h⟩)
  · exact eyes e d hd
  · exact diverters d τ hd
  · exact interByte τ h
  · exact linkTimer τ h
  · exact resendTimer τ h

/-- Timers that run, none of them late: a stroke and the link's, each at its time. -/
theorem striking_in_time : ∀ c τ, TimerRuns striking c τ → τ.elapsed ≤ τ.duration :=
  none_late (by decide +kernel) (by decide +kernel) (by decide +kernel) (by decide +kernel)
    (by decide +kernel)

/-- Both queues: one with a command in front, one empty. -/
theorem witness_StepRunsFrontCommand :
    ({ demo with pending := [.frameSent, .resetinActive] } : State).pending =
      .frameSent :: [.resetinActive] ∧ striking.pending = [] ∧
    ∀ c τ, TimerRuns striking c τ → τ.elapsed ≤ τ.duration := ⟨rfl, rfl, striking_in_time⟩

/-- A running-out of a timer that does not run. -/
theorem witness_EveryCommandHasANextState : demo.occurs (.dwellTimerExpiry 15) = false := by
  decide +kernel

theorem witness_ResetinVoidsTheModuleAndBeginsItAgain :
    ({ demo with resetActive := true } : State).resetActive = true ∧
    (∀ j, Instr.frameSent ≠ .powerOn j) ∧ Instr.frameSent ≠ .resetinActive ∧
    ∀ j, Instr.frameSent ≠ .resetinInactive j := ⟨rfl, nofun, nofun, nofun⟩

/-- A pulse waits, which will make diverter 0 fire for tag 6. -/
def busy : State := { demo with pending := [.encoderPulse 0] }

theorem busy_steps : ∃ t, step busy = .next t := by
  obtain ⟨t, h, -⟩ := next_of_after (c := .encoderPulse 0) (s := demo) (p := fun _ => true)
    (by decide +kernel)
  exact ⟨t, h⟩

theorem witness_StepKeepsLayoutLaws : LayoutLaws busy ∧ ∃ t, step busy = .next t :=
  ⟨by and_intros <;> decide +kernel, busy_steps⟩

theorem witness_StepKeepsHaltReasonLaws : HaltReasonLaws busy ∧ ∃ t, step busy = .next t :=
  ⟨by and_intros <;> decide +kernel, busy_steps⟩

theorem witness_StepKeepsRecordLaws : RecordLaws busy ∧ ∃ t, step busy = .next t :=
  ⟨by and_intros <;> decide +kernel, busy_steps⟩

theorem witness_StepKeepsTrackOrder :
    LayoutLaws busy ∧ RecordLaws busy ∧ TrackLaws busy ∧ ∃ t, step busy = .next t :=
  ⟨witness_StepKeepsLayoutLaws.1, witness_StepKeepsRecordLaws.1, by and_intros <;> decide +kernel,
    busy_steps⟩

theorem witness_StepKeepsDiverterLaws : DiverterLaws busy ∧ ∃ t, step busy = .next t :=
  ⟨by decide +kernel, busy_steps⟩

theorem witness_StepKeepsEyeLaws :
    LayoutLaws busy ∧ EyeLaws busy ∧ ∃ t, step busy = .next t :=
  ⟨witness_StepKeepsLayoutLaws.1, by and_intros <;> decide +kernel, busy_steps⟩

theorem witness_StepKeepsLinkLaws : LinkLaws busy ∧ ∃ t, step busy = .next t :=
  ⟨by and_intros <;> decide +kernel, busy_steps⟩

theorem witness_StepKeepsReportQueueLaws :
    ReportQueueLaws busy ∧ LinkLaws busy ∧ ∃ t, step busy = .next t :=
  ⟨by and_intros <;> decide +kernel, witness_StepKeepsLinkLaws.1, busy_steps⟩

theorem witness_StepKeepsClaimOrder :
    LayoutLaws busy ∧ RecordLaws busy ∧ TrackLaws busy ∧ ClaimOrder busy ∧
      ∃ t, step busy = .next t :=
  ⟨witness_StepKeepsLayoutLaws.1, witness_StepKeepsRecordLaws.1, witness_StepKeepsTrackOrder.2.2.1,
    by decide +kernel, busy_steps⟩

/-- A START that changes the module state, and a commit that changes the layout in force. -/
theorem witness_ModuleStateChangesOnlyByItsRequests :
    after (.start 1 []) standby (fun t => t.module != standby.module) = true ∧
    after (.commitLayout 1 []) { standby with activeLayout := .empty, module := .unconfigured }
      (fun t => t.activeLayout = plan) = true := by decide +kernel

/-- The three commands of reset, a pulse of the zone and a pulse of another zone. -/
theorem witness_OnlyPulsesRaiseZoneCounts :
    after (.powerOn field) demo (fun _ => true) = true ∧
    after .resetinActive demo (fun _ => true) = true ∧
    after (.resetinInactive field) { demo with resetActive := true } (fun _ => true) = true ∧
    demo.resetActive = false ∧
    after (.encoderPulse 0) demo (fun t => t.zones[(0 : ZoneId)].count = 1001) = true ∧
    after (.encoderPulse 0) demo (fun t => t.zones[(3 : ZoneId)].count = 1000) = true := by
  decide +kernel

/-- A pulse while a frame is being sent. -/
theorem witness_FrameBegunIsSentToItsEnd :
    sending.link.transmitter = .sending [0xA5, 0x02] ∧
    after (.encoderPulse 0) sending (fun _ => true) = true ∧ Instr.encoderPulse 0 ≠ .frameSent ∧
    Instr.encoderPulse 0 ≠ .resetinActive := by decide +kernel

/-- A stroke timer a millisecond before its time, two past it, and at its time. -/
theorem witness_IdleStepCountsAMillisecond :
    let at_ : Nat → State := fun ms =>
      { striking with diverters := striking.diverters.set 2 ⟨.extending, some ⟨300, ms⟩, some 8, false⟩ }
    (striking.resetActive = false ∧ striking.pending = []) ∧
    (TimerRuns (at_ 299) (.strokeTimerExpiry 2) ⟨300, 299⟩ ∧ 299 < 300) ∧
    (TimerRuns (at_ 301) (.strokeTimerExpiry 2) ⟨300, 301⟩ ∧ 300 < 301) ∧
    ∀ c, ¬ ∃ τ, TimerRuns striking c τ ∧ τ.duration < τ.elapsed :=
  ⟨⟨rfl, rfl⟩, ⟨.inr (.inl ⟨2, rfl, .inl ⟨rfl, rfl⟩⟩), by decide⟩,
    ⟨.inr (.inl ⟨2, rfl, .inl ⟨rfl, rfl⟩⟩), by decide⟩,
    fun c ⟨τ, h, hlate⟩ => Nat.not_lt.mpr (striking_in_time c τ h) hlate⟩

/-- A HALT_ZONE, and a frame of no request kind with the longest BODY. -/
theorem witness_ReceivedFrameIsItsRequest :
    (requestParts (.haltZone 3 [0x01]) = some ⟨0x28, 3, [0x01]⟩ ∧
      WellFormed (.haltZone 3 [0x01]) = true) ∧
    (requestParts (.badKindFrame 0x00 0xFF (List.replicate 248 0xA5)) =
        some ⟨0x00, 0xFF, List.replicate 248 0xA5⟩ ∧
      WellFormed (.badKindFrame 0x00 0xFF (List.replicate 248 0xA5)) = true) ∧
    HaltReasonLaws demo ∧ LinkLaws demo ∧ demo.link.receiver = .hunting := by
  and_intros <;> decide +kernel

/-- The bound itself, for a SYNC that follows a SYNC. -/
theorem witness_EveryRescanComesToAnEnd :
    scanBound (.collecting []) [0xA5] ≤ 9 := by decide

/-- Bytes either side of the SYNC's value; the second LENGTH byte that goes on and one that fails. -/
theorem witness_ReceiverTakesBytes :
    demo.resetActive = false ∧
    (demo.link.receiver = .hunting ∧ 0xA4#8 ≠ 0xA5#8 ∧ 0xA6#8 ≠ 0xA5#8) ∧
    ((collecting []).link.receiver = .collecting [] ∧ judge ([] ++ [0x02]) = .incomplete ∧
      judge ([] ++ [0xFA]) = .incomplete) ∧
    (judge [] = .incomplete ∧ judge ([] ++ [0x01]) = .failed ∧ judge ([] ++ [0xFB]) = .failed) := by
  decide +kernel

/-- A bad LENGTH and a frame cut short, with no SYNC in either; and behind noise, a SYNC with nothing after
it, one with a bad LENGTH and more, and a START's frame. -/
theorem witness_DiscardCountsAndRescans :
    demo.resetActive = false ∧ (0xA5#8 ∉ [0xFB#8] ∧ frameFails [0xFB] = true) ∧
    (0xA5#8 ∉ [0x05#8, 0x01#8] ∧
      (collecting [0x05, 0x01]).link.receiver = .collecting [0x05, 0x01] ∧
      (collecting [0x05, 0x01]).link.interByte = some ⟨3, 3⟩) ∧
    0xA5#8 ∉ [0xFA#8] ∧
    ([0xFA, 0xA5] = [0xFA#8] ++ 0xA5#8 :: [] ∧ judge [] = .incomplete) ∧
    ([0xFA, 0xA5, 0x01, 0xA5] = [0xFA#8] ++ 0xA5#8 :: ([0x01] ++ [0xA5]) ∧ judge [0x01] = .failed ∧
      ∀ k < [0x01#8].length, judge ([0x01].take k) = .incomplete) ∧
    (requestParts (.start 1 []) = some ⟨0x06, 1, []⟩ ∧ WellFormed (.start 1 []) = true ∧
      (collecting ([0xFA] ++ Frame.bytes ⟨0x06, 1, []⟩ ++ [0x00])).link.receiver =
        .collecting ([0xFA] ++ Frame.bytes ⟨0x06, 1, []⟩ ++ [0x00])) := by
  and_intros <;> decide +kernel

/-- The transmitter free and busy; and the SET_LINK and the KIND that the settings' clause leaves out. -/
theorem witness_RequestIsAnswered :
    requestParts (.stop 1 []) = some ⟨0x07, 1, []⟩ ∧ FreshRequest demo 1 ∧
    demo.link.transmitter = .free ∧ FreshRequest sending 1 ∧
    sending.link.transmitter = .sending [0xA5, 0x02] ∧
    (∀ seq body, Instr.stop 1 [] ≠ .setLink seq body) ∧ (0x07#8 : Byte) ≠ 0x03 :=
  ⟨rfl, by decide +kernel, rfl, by decide +kernel, rfl, nofun, by decide⟩

/-- A reply that waits in the slot behind a frame. -/
def slotFull : State :=
  { sending with link := { sending.link with slot := some ⟨0x81, 1, []⟩ } }

/-- The reply to SEQ 1 in the last-reply cache. -/
def retried (s : State) : State :=
  { s with link := { s.link with cache := some ⟨0x87, 1, [0x00, 0x01]⟩ } }

theorem witness_RetryAndPendingReplyExecuteNothing :
    requestParts (.stop 1 []) = some ⟨0x07, 1, []⟩ ∧ slotFull.resetActive = false ∧
    (slotFull.link.slot = some ⟨0x81, 1, []⟩ ∧ slotFull.link.transmitter ≠ .free) ∧
    ((retried demo).link.slot = none ∧ (retried demo).link.cache = some ⟨0x87, 1, [0x00, 0x01]⟩ ∧
      (retried demo).link.transmitter = .free) ∧
    (retried sending).link.transmitter ≠ .free := by decide +kernel

/-- KINDs beside the table's codes, and an ANNOUNCE whose presence byte is 4. -/
theorem witness_BadKindAndBadLengthExecuteNothing :
    FreshRequest demo 1 ∧ isRequestKind 0x00 = false ∧ isRequestKind 0x34 = false ∧
    isRequestKind 0x20 = true ∧ bodyAllowed 0x20 [0x01, 0x00, 0x00, 0x04] = false ∧
    isRequestKind 0x06 = true ∧ bodyAllowed 0x06 [0x00] = false := by decide +kernel

theorem witness_StatusAndIdentifyAnswerAndChangeNothing :
    FreshRequest demo 0xFF ∧ RecordLaws demo := by and_intros <;> decide +kernel

/-- The least and the greatest settings that are accepted, and the values next to them. -/
theorem witness_SetLinkReplacesAllSettingsOrNone :
    FreshRequest reporting 1 ∧ ReportQueueLaws reporting ∧
    (1 ≤ (0x01#8).toNat ∧ 20 ≤ (0x14#8).toNat + 256 * (0x00#8).toNat ∧
      (0x00#8).toNat + 256 * (0x00#8).toNat = 0) ∧
    ((0x08#8).toNat ≤ 8 ∧ (0xD0#8).toNat + 256 * (0x07#8).toNat ≤ 2000 ∧
      (0x60#8).toNat + 256 * (0xEA#8).toNat ≤ 60000) ∧
    ¬ (0x09#8).toNat ≤ 8 := by and_intros <;> decide +kernel

/-- Number 1 with two entries sent; 65,534 and 65,471, the first and the last of the 64 numbers before
the oldest; 65,470 and the unsent 2, which are neither. -/
theorem witness_ReportAckRemovesWhatItCovers :
    FreshRequest reporting 1 ∧ ReportQueueLaws reporting ∧
    reporting.reports.entries =
      [⟨65535, .untracked 0, 0, true⟩] ++ ⟨1, .untracked 0, 2, true⟩ :: [⟨2, .untracked 0, 0, false⟩] ∧
    (∀ n ∈ [65534, 65471, 65470, 2], ∀ e ∈ reporting.reports.entries, e.outstanding = true →
      e.number ≠ n) ∧
    (let before : Nat → Nat := fun m => if m = 1 then 65535 else m - 1
     before^[1] 65535 = 65534 ∧ before^[64] 65535 = 65471) := by and_intros <;> decide +kernel

theorem witness_RestartGivesUpTheAccountAndKeepsTheLayout :
    FreshRequest demo 1 ∧ FreshRequest leaving 1 ∧ leaving.leavingHome 2 = true := by decide +kernel

theorem witness_StartAndStopMoveBetweenStandbyAndTracking :
    FreshRequest standby 1 ∧ standby.module = .standby ∧ FreshRequest demo 1 ∧
    demo.module ≠ .standby ∧ demo.module = .tracking ∧ standby.module ≠ .tracking := by
  decide +kernel

/-- A length of 64 with an entry offset of 63, and each field one past its range. -/
theorem witness_DefineZoneReplacesOnePendingZone :
    FreshRequest demo 1 ∧
    ((0x03#8).toNat = (3 : ZoneId).val ∧ 64 ≤ (0x40#8).toNat + 256 * (0x00#8).toNat ∧
      (0x3F#8).toNat < (0x40#8).toNat + 256 * (0x00#8).toNat) ∧
    (4 ≤ (0x04#8).toNat ∧ (0x3F#8).toNat + 256 * (0x00#8).toNat < 64 ∧
      (0x40#8).toNat + 256 * (0x00#8).toNat ≤ (0x40#8).toNat) := by decide +kernel

/-- Position 65,534, tolerance 1, jam time 100; and each field one past its range. -/
theorem witness_DefineEyeReplacesOnePendingEye :
    FreshRequest demo 1 ∧
    ((0x0B#8).toNat = (11 : EyeId).val ∧ (0x03#8).toNat = (3 : ZoneId).val ∧
      (0xFE#8).toNat + 256 * (0xFF#8).toNat ≤ 65534 ∧ 1 ≤ (0x01#8).toNat ∧ (0x01#8).toNat ≤ 1 ∧
      100 ≤ (0x64#8).toNat + 256 * (0x00#8).toNat ∧
      (0x30#8).toNat + 256 * (0x75#8).toNat ≤ 30000) ∧
    (12 ≤ (0x0C#8).toNat ∧ 4 ≤ (0x04#8).toNat ∧ (0xFF#8).toNat + 256 * (0xFF#8).toNat = 65535 ∧
      2 ≤ (0x02#8).toNat ∧ 1 ≤ (0x63#8).toNat + 256 * (0x00#8).toNat ∧
      (0x63#8).toNat + 256 * (0x00#8).toNat ≤ 99 ∧
      30000 < (0x31#8).toNat + 256 * (0x75#8).toNat) := by decide +kernel

/-- The least and the greatest fields, and each field one past its range. -/
theorem witness_DefineDiverterReplacesOnePendingDiverter :
    FreshRequest demo 1 ∧
    ((0x0F#8).toNat = (15 : DiverterId).val ∧ (0x03#8).toNat = (3 : ZoneId).val ∧
      (0xFE#8).toNat + 256 * (0xFF#8).toNat ≤ 65534 ∧
      (0xFF#8).toNat + 256 * (0x0F#8).toNat ≤ 4095 ∧ 10 ≤ (0x0A#8).toNat + 256 * (0x00#8).toNat ∧
      (0xD0#8).toNat + 256 * (0x07#8).toNat ≤ 2000 ∧
      (0x88#8).toNat + 256 * (0x13#8).toNat ≤ 5000) ∧
    (16 ≤ (0x10#8).toNat ∧ 4 ≤ (0x04#8).toNat ∧ 65534 < (0xFF#8).toNat + 256 * (0xFF#8).toNat ∧
      4095 < (0x00#8).toNat + 256 * (0x10#8).toNat ∧ (0x09#8).toNat + 256 * (0x00#8).toNat < 10 ∧
      2000 < (0xD1#8).toNat + 256 * (0x07#8).toNat ∧
      5000 < (0x89#8).toNat + 256 * (0x13#8).toNat) := by decide +kernel

/-- The last number of each kind and the first past it. -/
theorem witness_DefineDestinationAndUndefineEditOneEntry :
    FreshRequest demo 1 ∧
    ((0x3F#8).toNat = (63 : DestinationCode).val ∧ (0x0F#8).toNat < 16) ∧
    (64 ≤ (0x40#8).toNat ∧ ¬ ((0x10#8).toNat < 16 ∨ 0x10#8 = 0xFF#8) ∧
      ¬ ((0xFE#8).toNat < 16 ∨ 0xFE#8 = 0xFF#8)) ∧
    (0x03#8).toNat = (3 : ZoneId).val ∧ (0x0B#8).toNat = (11 : EyeId).val ∧
    (0x0F#8).toNat = (15 : DiverterId).val ∧
    (4 ≤ (0x04#8).toNat ∧ 12 ≤ (0x0C#8).toNat ∧ 16 ≤ (0x10#8).toNat ∧ 3 ≤ (0x03#8).toNat) := by
  decide +kernel

/-- The least settings with code 63, the greatest with no reject destination, and values past them. -/
theorem witness_SetLineChangesAllSevenOrNone :
    FreshRequest demo 1 ∧
    (8 ≤ (0x08#8).toNat + 256 * (0x00#8).toNat ∧ 16 ≤ (0x10#8).toNat + 256 * (0x00#8).toNat ∧
      1 ≤ (0x01#8).toNat ∧ (0x3F#8).toNat = (63 : DestinationCode).val) ∧
    ((0xD0#8).toNat + 256 * (0x07#8).toNat ≤ 2000 ∧ (0xFF#8).toNat + 256 * (0x0F#8).toNat ≤ 4095 ∧
      (0xE8#8).toNat + 256 * (0x03#8).toNat ≤ 1000 ∧ (0x03#8).toNat ≤ 3 ∧ (0x10#8).toNat ≤ 16 ∧
      (0x01#8).toNat ≤ 1) ∧
    (¬ 8 ≤ (0x07#8).toNat + 256 * (0x00#8).toNat ∧ 64 ≤ (0x40#8).toNat ∧ 0x40#8 ≠ 0xFF#8 ∧
      64 ≤ (0xFE#8).toNat ∧ 0xFE#8 ≠ 0xFF#8) := by decide +kernel

theorem witness_ClearPendingAndCopyActiveReplaceThePendingCopy :
    FreshRequest demo 1 ∧ LayoutLaws State.reset ∧ State.reset.module = .unconfigured := by
  and_intros <;> decide +kernel

/-- The last number of each kind and the first past it. -/
theorem witness_ReadLayoutAnswersOneEntry :
    FreshRequest demo 1 ∧ (0x01#8).toNat ≤ 1 ∧ (0x03#8).toNat = (3 : ZoneId).val ∧
    (0x0B#8).toNat = (11 : EyeId).val ∧ (0x0F#8).toNat = (15 : DiverterId).val ∧
    (0x3F#8).toNat = (63 : DestinationCode).val ∧
    (2 ≤ (0x02#8).toNat ∧ 5 ≤ (0x05#8).toNat ∧ 4 ≤ (0x04#8).toNat ∧ 12 ≤ (0x0C#8).toNat ∧
      16 ≤ (0x10#8).toNat ∧ 64 ≤ (0x40#8).toNat) := by decide +kernel

theorem witness_AcceptedCommitTakesUpThePendingLayout :
    FreshRequest standby 1 ∧ standby.module ≠ .tracking ∧ standby.lineItems = [] ∧
    standby.announcements = [] ∧ standby.pendingLayout.validate = none ∧ standby.freeRecords = 96 ∧
    standby.pendingLayout.line.poolReserve ≤ 16 := by and_intros <;> decide +kernel

/-- The plan with a reject destination that names no diverter. -/
def unsorted : Layout := { plan with line := { plan.line with rejectDestination := some 5 } }

/-- TRACKING; one announcement in STANDBY; an empty copy, which fails check 1; and one that fails the last
check, with none before it. -/
theorem witness_RefusedCommitChangesNothing :
    (FreshRequest demo 1 ∧ demo.module = .tracking) ∧
    (FreshRequest (waiting 1 standby) 1 ∧ (waiting 1 standby).module ≠ .tracking ∧
      (waiting 1 standby).announcements ≠ []) ∧
    (standby.lineItems = [] ∧ standby.announcements = []) ∧
    FirstFails .empty 1 .zone 0x00 ∧
    FirstFails unsorted 9 .destination 0x05 := by
  refine ⟨by decide +kernel, by decide +kernel, by decide +kernel, ⟨?_, .inl ⟨rfl, rfl, rfl⟩⟩,
    fun m hm => ?_, 5, rfl, by decide +kernel, by decide +kernel, rfl, rfl⟩
  · intro m hm
    obtain rfl : m = 0 := by omega
    trivial
  · match m, hm with
    | 0, _ => trivial
    | 1, _ | 2, _ | 3, _ | 4, _ | 5, _ | 6, _ | 7, _ | 8, _ => simp only [CheckHolds]; decide +kernel

/-- Every outcome of ANNOUNCE in the order of its checks, at tags 1 and 61,439 and lengths 1 and 4,095;
and WITHDRAW of one that waits and of one that does not. -/
theorem witness_AnnounceAndWithdrawEditTheQueue :
    (FreshRequest State.reset 1 ∧ State.reset.module = .unconfigured) ∧
    (FreshRequest demo 1 ∧ demo.module ≠ .unconfigured ∧
      ¬ (0x00#8).toNat + 256 * (0xF0#8).toNat ≤ 61439) ∧
    (0x05#8).toNat + 256 * (0x00#8).toNat ∈ demo.heldTags ∧
    ((0x01#8).toNat + 256 * (0x00#8).toNat ∉ (waiting 16).heldTags ∧
      16 ≤ (waiting 16).announcements.length) ∧
    ((0x3F#8).toNat = (63 : DestinationCode).val ∧
      (0xFF#8).toNat + 256 * (0xEF#8).toNat ≤ 61439 ∧
      (0xFF#8).toNat + 256 * (0xEF#8).toNat ∉ (waiting 15).heldTags ∧
      1 ≤ (0x01#8).toNat + 256 * (0x00#8).toNat ∧ (0xFF#8).toNat + 256 * (0x0F#8).toNat ≤ 4095 ∧
      (waiting 15).announcements.length < 16) ∧
    ((waiting 3).announcements =
        [⟨1000, 0, none, none⟩] ++ ⟨1001, 0, none, none⟩ :: [⟨1002, 0, none, none⟩] ∧
      1001 = (0xE9#8).toNat + 256 * (0x03#8).toNat) ∧
    (∀ a ∈ (waiting 3).announcements, a.tag ≠ (0x01#8).toNat + 256 * (0x00#8).toNat) := by
  and_intros <;> decide +kernel

/-- Tag 6 on the line, tag 1001 in the announce queue, tag 9 nowhere; zone 1 defined, 2 not, 4 none. -/
theorem witness_QueriesAnswerWhatIsHeld :
    (FreshRequest (waiting 3) 1 ∧ RecordLaws (waiting 3)) ∧
    item 6 0 199 (some 0) (some 0) (some 1) ∈ (waiting 3).lineItems ∧
    (waiting 3).announcements =
      [⟨1000, 0, none, none⟩] ++ ⟨1001, 0, none, none⟩ :: [⟨1002, 0, none, none⟩] ∧
    9 ∉ (waiting 3).heldTags ∧ State.reset.module = .unconfigured ∧
    ((waiting 3).module ≠ .unconfigured ∧ 4 ≤ (0x04#8).toNat ∧
      (waiting 3).activeLayout.zones[(2 : ZoneId)] = none) ∧
    (waiting 3).activeLayout.zones[(1 : ZoneId)].isSome = true := by
  and_intros <;> decide +kernel

/-- A DIVERTING item is on the line of `striking`, TRACKED items on that of `demo`. -/
theorem witness_PurgeReleasesATrackedItem :
    (FreshRequest demo 1 ∧ RecordLaws demo) ∧
    (∃ i ∈ demo.lineItems, i.tag = 6 ∧ i.state = .tracked) ∧
    (FreshRequest striking 1 ∧ RecordLaws striking) ∧
    (∃ i ∈ striking.lineItems, i.tag = 8 ∧ i.state = .diverting) ∧
    ∀ i ∈ demo.lineItems, i.tag ≠ 8 := by and_intros <;> decide +kernel

theorem witness_RerouteAssignsAfresh :
    (FreshRequest demo 1 ∧ RecordLaws demo) ∧ 64 ≤ (0x40#8).toNat ∧
    (∀ i ∈ demo.lineItems, i.tag ≠ 8) ∧ (FreshRequest striking 1 ∧ RecordLaws striking) ∧
    (∃ i ∈ striking.lineItems, i.tag = 8 ∧ i.state = .diverting) ∧
    ((∃ i ∈ demo.lineItems, i.tag = 7 ∧ i.state = .tracked) ∧
      (0x3F#8).toNat = (63 : DestinationCode).val) := by and_intros <;> decide +kernel

theorem witness_HaltAndResumeHoldAndFreeAZone :
    State.reset.module = .unconfigured ∧ FreshRequest jamHeld 1 ∧ jamHeld.module ≠ .unconfigured ∧
    4 ≤ (0x04#8).toNat ∧ jamHeld.activeLayout.zones[(2 : ZoneId)] = none ∧
    (0x01#8).toNat = (1 : ZoneId).val ∧ jamHeld.activeLayout.zones[(1 : ZoneId)].isSome = true := by
  and_intros <;> decide +kernel

/-- The induction eye, a confirmation eye in each sort of state, and a DISABLED one. -/
theorem witness_EyesAreDisabledAndEnabled :
    State.reset.module = .unconfigured ∧ FreshRequest demo 1 ∧ demo.module ≠ .unconfigured ∧
    12 ≤ (0x0C#8).toNat ∧ demo.activeLayout.eyes[(11 : EyeId)] = none ∧
    demo.activeLayout.eyes[(0 : EyeId)] = some ⟨0, 10, 4, .induct, .darkOn, 1000⟩ ∧
    demo.activeLayout.eyes[(1 : EyeId)] = some ⟨0, 300, 5, .confirm, .darkOn, 1000⟩ ∧
    (demo.eyes[(1 : EyeId)].state ≠ .disabled ∧ demo.eyes[(1 : EyeId)].state.holdsJam = false) ∧
    jamHeld.eyes[(1 : EyeId)].state.holdsJam = true ∧
    ({ demo with eyes := demo.eyes.set 1 ⟨.disabled, 0⟩ } : State).eyes[(1 : EyeId)].state =
      .disabled := by and_intros <;> decide +kernel

/-- Number 16 and the undefined 15; an IDLE diverter in STANDBY and in TRACKING; a DISABLED and a FAULT
diverter with its sensor either way. -/
theorem witness_DivertersAreTestedEnabledAndCleared :
    State.reset.module = .unconfigured ∧ FreshRequest standby 1 ∧ standby.module ≠ .unconfigured ∧
    16 ≤ (0x10#8).toNat ∧ standby.activeLayout.diverters[(15 : DiverterId)] = none ∧
    standby.activeLayout.diverters[(1 : DiverterId)] = some ⟨1, 80, 10, 5, 300, 200, 400⟩ ∧
    (standby.module = .standby ∧ standby.diverters[(1 : DiverterId)].state = .idle ∧
      standby.inputs.estop = false) ∧
    ¬ demo.module = .standby ∧
    (∀ home : Bool, (diverter1 .disabled none home).diverters[(1 : DiverterId)].state = .disabled ∧
      (diverter1 .fault none home).diverters[(1 : DiverterId)].state = .fault ∧
      (diverter1 .fault none home).inputs.homes[(1 : DiverterId)] = home) := by
  and_intros <;> decide +kernel

theorem witness_DisableDiverterTakesItOutOfService :
    FreshRequest demo 1 ∧ RecordLaws demo ∧ demo.module ≠ .unconfigured ∧
    (0x00#8).toNat = (0 : DiverterId).val ∧
    demo.activeLayout.diverters[(0 : DiverterId)].isSome = true ∧
    demo.diverters[(0 : DiverterId)].state ≠ .disabled ∧
    (FreshRequest (diverter1 .disabled none true) 1 ∧ RecordLaws (diverter1 .disabled none true) ∧
      (diverter1 .disabled none true).diverters[(1 : DiverterId)].state = .disabled) := by
  and_intros <;> decide +kernel

/-- Tag 9 moves from 297 to 298, past no point; tag 4, matched at eye 1 already, comes to the end of that
eye's window, and tag 3 passes by the trigger point of diverter 0; an undefined zone; UNCONFIGURED. -/
theorem witness_QuietPulseIsOnlyCounted :
    (RecordLaws nearEye ∧ nearEye.resetActive = false ∧ nearEye.module ≠ .unconfigured ∧
      nearEye.activeLayout.zones[(0 : ZoneId)].isSome = true ∧
      QuietFor nearEye 0 nearEye.zones[(0 : ZoneId)].track) ∧
    (let i := item 4 0 305 none none (some 2)
     let s := loaded [i, item 3 0 199 none none (some 1)] []
     RecordLaws s ∧ QuietFor s 0 s.zones[(0 : ZoneId)].track ∧
       EyeEndsAt s.activeLayout 0 ((s.pulsed 0).place 0 i) 1) ∧
    nearEye.activeLayout.zones[(3 : ZoneId)] = none ∧
    RecordLaws State.reset ∧ State.reset.module = .unconfigured := by
  and_intros <;> decide +kernel

/-- Tag 9 comes to the end of its next eye's window as tag 6 comes to a trigger point. -/
def neighbours : State :=
  loaded [item 9 0 305 none none (some 1), item 6 0 199 (some 0) (some 0) (some 1)] []

/-- Diverter 0 fires from 306, where the window of tag 9's next eye ends. -/
def atOnce : State :=
  { loaded [item 9 0 305 (some 0) (some 0) (some 1)] [] with
    activeLayout := { plan with
      diverters := plan.diverters.set 0 (some ⟨0, 316, 10, 5, 300, 200, 400⟩) } }

/-- Tag 4 comes to the end of the zone as tag 6 comes to a trigger point. -/
def parted : State :=
  loaded [item 4 0 399 none none (some 2), item 6 0 199 (some 0) (some 0) (some 1)] []

/-- A span comes to its bound as tag 9 comes to 32, one more than the overlength item asks for. -/
def atBound : State := measuring 20 (loaded [item 9 0 31 none none (some 1)] [])

/-- The first clause, on pulses that bring several things about. -/
theorem witness_TriggerPointIsDecidedOrShadowed_together :
    (RecordLaws neighbours ∧ TrackLaws neighbours ∧ LayoutLaws neighbours ∧
      PointsReached (neighbours.pulsed 0) 0 [(9, .windowEnd 1), (6, .trigger 0)]) ∧
    (RecordLaws atOnce ∧ TrackLaws atOnce ∧ LayoutLaws atOnce ∧
      PointsReached (atOnce.pulsed 0) 0 [(9, .windowEnd 1), (9, .trigger 0)]) ∧
    (RecordLaws parted ∧ TrackLaws parted ∧ LayoutLaws parted ∧
      (parted.pulsed 0).place 0 (item 4 0 399 none none (some 2)) = parted.activeLayout.zoneLength 0 ∧
      PointsEntered (parted.pulsed 0) 0 1 []) ∧
    (RecordLaws atBound ∧ TrackLaws atBound ∧ LayoutLaws atBound ∧
      atBound.spanCount = atBound.activeLayout.line.maxLength ∧
      ∀ e : EyeId, ∀ d ∈ atBound.activeLayout.eyes[e], d.role = .induct →
        ∀ q ∈ (atBound.pulsed 0).zones[(0 : ZoneId)].track.getLast?.map ((atBound.pulsed 0).place 0),
          d.position + atBound.activeLayout.line.maxLength + 1 < q) ∧
    ∀ s ∈ [neighbours, atOnce, parted, atBound], s.resetActive = false ∧ s.module ≠ .unconfigured ∧
      s.activeLayout.zones[(0 : ZoneId)].isSome = true := by
  and_intros <;> decide +kernel

/-- Tag 6, at 199, comes to the trigger point of diverter 0: as the head of its claim list, with the
diverter IDLE or not; without a claim, the diverter extended or not; and with a claim behind tag 7's. -/
theorem witness_TriggerPointIsDecidedOrShadowed :
    let i := item 6 0 199 (some 0) (some 0) (some 1)
    let unclaimed := { i with assigned := none }
    let behind := [item 7 0 100 none none (some 1)]
    let holding : State → State := fun s =>
      { s with diverters := s.diverters.set 0 ⟨.holding, some ⟨200, 0⟩, none, false⟩ }
    let passing : State := loaded (unclaimed :: behind) []
    (RecordLaws demo ∧ TrackLaws demo ∧ demo.resetActive = false ∧ demo.module ≠ .unconfigured ∧
      demo.zones[(0 : ZoneId)].track = [] ++ i :: behind ∧
      demo.activeLayout.diverters[(0 : DiverterId)] = some ⟨0, 210, 10, 5, 300, 200, 400⟩ ∧
      demo.activeLayout.zones[(0 : ZoneId)].isSome = true) ∧
    ((demo.pulsed 0).place 0 i + 10 = 210 ∧ QuietFor demo 0 behind ∧
      (demo.pulsed 0).place 0 i ≠ demo.activeLayout.zoneLength 0 ∧
      (∀ e ∈ i.nextEye, ¬ EyeEndsAt demo.activeLayout 0 ((demo.pulsed 0).place 0 i) e) ∧
      ∀ w : DiverterId, w ≠ 0 → TriggersAt demo.activeLayout 0 ((demo.pulsed 0).place 0 i) w →
        demo.passesBy i w) ∧
    (i.state = .tracked ∧ demo.claims[(0 : DiverterId)].head? = some i.tag ∧
      demo.module = .tracking ∧ demo.inputs.estop = false ∧
      demo.diverters[(0 : DiverterId)].state = .idle ∧
      ¬ ((demo.pulsed 0).place 0 i : Int) - 10 - 101 < 5) ∧
    (RecordLaws (holding demo) ∧ TrackLaws (holding demo) ∧ (holding demo).claims[(0 : DiverterId)].head? = some i.tag ∧
      (holding demo).diverters[(0 : DiverterId)].state ≠ .idle) ∧
    (RecordLaws (holding passing) ∧ TrackLaws (holding passing) ∧ i.tag ∉ (holding passing).claims[(0 : DiverterId)] ∧
      (holding passing).diverters[(0 : DiverterId)].state.driven = true) ∧
    (RecordLaws passing ∧ TrackLaws passing ∧ passing.passesBy unclaimed 0) ∧
    (let s : State := { loaded [i, item 7 0 100 (some 0) (some 0) (some 1)] [] with
        claims := running.claims.set 0 [7, 6] }
     RecordLaws s ∧ TrackLaws s ∧ i.tag ∈ s.claims[(0 : DiverterId)] ∧
       s.claims[(0 : DiverterId)].head? ≠ some i.tag) := by
  and_intros <;> decide +kernel

/-- Tag 9 about to come to 306, the end of eye 1's window; and, its second miss due, to 400, the end of the
zone, with eye 1 behind it and still its next eye. -/
theorem witness_WindowEndIsAMissOrASilentPass :
    let i := item 9 0 305 none none (some 1)
    let s := loaded [i] []
    let late := { item 9 0 399 none none (some 1) with missRun := 1 }
    let t := loaded [late] []
    (RecordLaws s ∧ s.resetActive = false ∧ s.module ≠ .unconfigured ∧
      s.zones[(0 : ZoneId)].track = [] ++ i :: [] ∧
      s.activeLayout.zones[(0 : ZoneId)].isSome = true ∧ QuietFor s 0 [] ∧
      ∀ v : DiverterId, TriggersAt plan 0 ((s.pulsed 0).place 0 i) v → s.passesBy i v) ∧
    (i.nextEye = some 1 ∧ EyeEndsAt plan 0 ((s.pulsed 0).place 0 i) 1 ∧
      (s.pulsed 0).place 0 i < plan.zoneLength 0 ∧
      ∀ f ∈ plan.eyeFollowing 1, ¬ EyeEndsAt plan 0 ((s.pulsed 0).place 0 i) f) ∧
    (RecordLaws t ∧ t.zones[(0 : ZoneId)].track = [] ++ late :: [] ∧ QuietFor t 0 [] ∧
      (∀ v : DiverterId, TriggersAt plan 0 ((t.pulsed 0).place 0 late) v → t.passesBy late v) ∧
      (t.pulsed 0).place 0 late = plan.zoneLength 0) ∧
    (EyesStillDue plan 0 late.nextEye [1] (some 2) ∧ ¬ MeetsReturn (t.pulsed 0) 0 late) ∧
    (t.openFor late [1] = [] ++ 1 :: [] ∧ t.outlasts late 0 ∧ ¬ t.outlasts late 1) ∧
    (plan.eyes[(1 : EyeId)].isSome = true ∧ plan.eyeFollowing 1 = some 2 ∧
      plan.eyes[(2 : EyeId)].isSome = true ∧ plan.eyeFollowing 2 = none) := by
  refine ⟨by and_intros <;> decide +kernel, by decide +kernel, by and_intros <;> decide +kernel,
    ⟨⟨rfl, by decide +kernel, ?_⟩, by decide +kernel⟩, by decide +kernel, by decide +kernel⟩
  rw [show plan.eyeFollowing 1 = some 2 by decide +kernel]
  exact ⟨rfl, by decide +kernel⟩

/-- An item about to come to 400, the end of zone 0, with no eye of the zone due and with eye 1 still due
and a first miss outlasted; with zone 1 behind its entry offset of 10 free, with a tail at 10, with a tail
at 0; one that was AT_RISK returned just before, with eye 1 open; and one about to come to 100, the end of
the last zone. -/
theorem witness_ZoneEndIsATransferOrAnExit :
    let i := item 9 0 399 none none (some 2)
    let s := loaded [i] []
    let open_ := item 9 0 399 none none (some 1)
    let back := { open_ with flags := ⟨true, false, false, false⟩, returnedAt := some 1000 }
    let met : Nat → State := fun q => loaded [i] [item 4 1 q none none (some 2)]
    let last := item 3 1 99 none none none
    (RecordLaws s ∧ s.resetActive = false ∧ s.module ≠ .unconfigured ∧
      s.zones[(0 : ZoneId)].track = i :: [] ∧ s.activeLayout.zones[(0 : ZoneId)].isSome = true ∧
      (s.pulsed 0).place 0 i = s.activeLayout.zoneLength 0 ∧ QuietFor s 0 [] ∧
      ∀ v : DiverterId, ¬ TriggersAt s.activeLayout 0 ((s.pulsed 0).place 0 i) v) ∧
    (EyesStillDue plan 0 i.nextEye [] (some 2) ∧ s.outlasts i (s.openFor i []).length) ∧
    (RecordLaws (loaded [open_] []) ∧ EyesStillDue plan 0 open_.nextEye [1] (some 2) ∧
      (loaded [open_] []).openFor open_ [1] = [1] ∧ (loaded [open_] []).outlasts open_ 1 ∧
      ¬ MeetsReturn ((loaded [open_] []).pulsed 0) 0 open_) ∧
    (RecordLaws (loaded [back] []) ∧ MeetsReturn ((loaded [back] []).pulsed 0) 0 back ∧
      (loaded [back] []).outlasts back 0) ∧
    (s.activeLayout.zones[(1 : ZoneId)] = some ⟨100, 10⟩ ∧ s.zones[(1 : ZoneId)].track = []) ∧
    (∀ q ∈ [11, 10, 1, 0], RecordLaws (met q) ∧
      (met q).zones[(1 : ZoneId)].track.getLast?.map (((met q).pulsed 0).place 1) = some q) ∧
    (RecordLaws (loaded [] [last]) ∧ (loaded [] [last]).zones[(1 : ZoneId)].track = last :: [] ∧
      ((loaded [] [last]).pulsed 1).place 1 last = (loaded [] [last]).activeLayout.zoneLength 1 ∧
      QuietFor (loaded [] [last]) 1 [] ∧ EyesStillDue plan 1 last.nextEye [] none ∧
      (∀ v : DiverterId, ¬ TriggersAt plan 1 (((loaded [] [last]).pulsed 1).place 1 last) v) ∧
      ∀ y : ZoneId, y.val = (1 : ZoneId).val + 1 → plan.zones[y] = none) := by
  have two : plan.eyeFollowing 1 = some 2 := by decide +kernel
  refine ⟨by and_intros <;> decide +kernel, ⟨⟨rfl, by decide +kernel⟩, by decide +kernel⟩,
    ⟨by and_intros <;> decide +kernel, ⟨rfl, by decide +kernel, ?_⟩, by decide +kernel⟩,
    by and_intros <;> decide +kernel,
    by decide +kernel, by decide +kernel, by and_intros <;> decide +kernel, by decide +kernel,
    by decide +kernel, by and_intros <;> decide +kernel, ⟨rfl, by decide +kernel⟩,
    by decide +kernel, by decide +kernel⟩
  rw [two]
  exact ⟨rfl, by decide +kernel⟩

/-- The last clause: a DIVERTING item about to come to 400, with zone 1 empty. -/
theorem witness_ZoneEndIsATransferOrAnExit_stroke :
    (LayoutLaws parting ∧ HaltReasonLaws parting ∧ RecordLaws parting ∧ TrackLaws parting ∧
      DiverterLaws parting ∧ LinkLaws parting) ∧
    (parting.resetActive = false ∧ parting.module ≠ .unconfigured ∧ parting.span ≠ .measuring) ∧
    parting.zones[(0 : ZoneId)].track =
      { item 8 0 399 (some 0) (some 0) (some 1) with state := .diverting } :: [] ∧
    parting.diverters[(0 : DiverterId)].slot = some 8 ∧
    parting.place 0 (item 8 0 399 (some 0) (some 0) (some 1)) + 1 = parting.activeLayout.zoneLength 0 ∧
    parting.activeLayout.zones[(1 : ZoneId)].isSome = true ∧
    parting.zones[(1 : ZoneId)].track = [] ∧
    (∀ v : DiverterId, ∀ f ∈ parting.activeLayout.diverters[v], f.zone = 1 →
      (parting.activeLayout.destinations[(0 : DestinationCode)].primary = some v ∨
        parting.activeLayout.destinations[(0 : DestinationCode)].alternate = some v) →
      f.lead + 10 < f.firePosition) := by
  and_intros <;> decide +kernel

/-- Eye 1, 300 with tolerance 5, dark-on: tag 9 at 297 is due and tag 7 at 100 is not; the same eye
BLOCKED, JAMMED and DISABLED; and eye 11, which is not defined. -/
theorem witness_ConfirmationEyeMatchesItsBlockedEdge :
    (RecordLaws nearEye ∧ nearEye.resetActive = false) ∧
    (nearEye.activeLayout.eyes[(11 : EyeId)] = none ∧ nearEye.inputs.eyes[(11 : EyeId)] = false ∧
      ({ field with eyes := field.eyes.set 11 true } : Inputs).eyes[(11 : EyeId)] = true) ∧
    (nearEye.activeLayout.eyes[(1 : EyeId)] = some ⟨0, 300, 5, .confirm, .darkOn, 1000⟩ ∧
      nearEye.inputs.eyes[(1 : EyeId)] = !(EyeSense.darkOn == .darkOn)) ∧
    (nearEye.eyes[(1 : EyeId)].state = .clear ∧ jamHeld.eyes[(1 : EyeId)].state = .jamHeld) ∧
    (RecordLaws demo ∧ ∀ j ∈ demo.zones[(0 : ZoneId)].track, demo.place 0 j + 5 < 300) ∧
    (nearEye.zones[(0 : ZoneId)].track = [] ++ item 9 0 297 none none (some 1) :: [] ∧
      300 ≤ nearEye.place 0 (item 9 0 297 none none (some 1)) + 5 ∧
      nearEye.place 0 (item 9 0 297 none none (some 1)) ≤ 300 + 5) ∧
    (shut.inputs.eyes[(1 : EyeId)] = true ∧ shut.eyes[(1 : EyeId)].state = .blocked ∧
      ∀ state ∈ [EyeState.jammed, .disabled],
        ({ shut with eyes := shut.eyes.set 1 ⟨state, 0⟩ } : State).eyes[(1 : EyeId)].state = state) := by
  and_intros <;> decide +kernel

/-- The induction eye clear, shut after an overlength item, and shut for 7 pulses. -/
theorem witness_InductionEyeMeasuresASpan :
    running.resetActive = false ∧
    running.activeLayout.eyes[(0 : EyeId)] = some ⟨0, 10, 4, .induct, .darkOn, 1000⟩ ∧
    (running.inputs.eyes[(0 : EyeId)] = false ∧ running.eyes[(0 : EyeId)].state = .clear ∧
      running.span = .idle) ∧
    ((measuring 7).inputs.eyes[(0 : EyeId)] = true ∧
      (measuring 7).eyes[(0 : EyeId)].state = .blocked ∧
      ({ measuring 0 with span := .passed } : State).span = .passed) ∧
    (measuring 7).span = .measuring ∧ (measuring 7).spanCount < (measuring 7).activeLayout.line.minLength :=
  by and_intros <;> decide +kernel

/-- 8 pulses, the shortest item, with an anonymous tag to give and with an announcement; the pulse that
makes 21 of 20; and a span that ends with every record in use. -/
theorem witness_InductionMakesTheItem :
    let s := measuring 8 demo
    let full := measuring 8 { running with
      freeRecords := 0
      zones := running.zones.set 1 { running.zones[(1 : ZoneId)] with
        track := (List.range 96).map fun k => item (500 - k) 1 (99 - k) none none none } }
    let long := measuring 20 nearEye
    (LayoutLaws s ∧ RecordLaws s ∧ TrackLaws s ∧ EyeLaws s ∧ s.resetActive = false) ∧
    (s.activeLayout.eyes[(0 : EyeId)] = some ⟨0, 10, 4, .induct, .darkOn, 1000⟩ ∧
      s.span = .measuring ∧ s.inputs.eyes[(0 : EyeId)] = true ∧
      s.activeLayout.line.minLength ≤ s.spanCount ∧
      s.zones[(0 : ZoneId)].track.getLast?.map (s.place 0) = some 100 ∧ 1 ≤ s.freeRecords ∧
      ∀ i ∈ s.lineItems, i.tag ≠ 61440 + (s.nextAnonymous - 61440 + 0) % 4096) ∧
    (LayoutLaws long ∧ RecordLaws long ∧ TrackLaws long ∧ EyeLaws long ∧
      long.spanCount = long.activeLayout.line.maxLength ∧
      (∀ i ∈ long.zones[(0 : ZoneId)].track, NothingAt long 0 ((long.pulsed 0).place 0 i) i) ∧
      1 ≤ long.freeRecords ∧ long.zones[(0 : ZoneId)].track.getLast?.map (long.place 0) = some 297) ∧
    (RecordLaws full ∧ full.freeRecords = 0 ∧ full.zones[(0 : ZoneId)].track = []) := by
  and_intros <;> decide +kernel

/-- Every state of a diverter at each level of its sensor that its clause takes. -/
theorem witness_HomeEdgesMoveTheDiverter :
    (∀ state ∈ [DiverterState.settling, .retracting, .holding, .fault, .disabled],
      RecordLaws (diverter1 state none false (loaded [] [])) ∧
      (diverter1 state none false (loaded [] [])).diverters[(1 : DiverterId)].state = state) ∧
    (∀ state ∈ [DiverterState.idle, .extending, .settling],
      RecordLaws (diverter1 state none true (loaded [] [])) ∧
      (diverter1 state none true (loaded [] [])).diverters[(1 : DiverterId)].state = state) ∧
    (diverter1 .idle none true).resetActive = false ∧
    (RecordLaws striking ∧ striking.inputs.homes[(2 : DiverterId)] = true ∧
      ∃ i ∈ striking.lineItems, striking.diverters[(2 : DiverterId)].slot = some i.tag) := by
  and_intros <;> decide +kernel

theorem witness_FieldTimersJamFaultOrRetract :
    (shut.resetActive = false ∧
      shut.activeLayout.eyes[(1 : EyeId)] = some ⟨0, 300, 5, .confirm, .darkOn, 1000⟩ ∧
      shut.eyes[(1 : EyeId)].state = .blocked ∧ shut.zones[(0 : ZoneId)].permit = true ∧
      1000 ≤ shut.eyes[(1 : EyeId)].jamElapsed) ∧
    (RecordLaws striking ∧ DiverterLaws striking ∧
      striking.diverters[(2 : DiverterId)].timer = some ⟨300, 300⟩ ∧
      striking.diverters[(2 : DiverterId)].state = .extending) ∧
    (let s := diverter1 .holding (some ⟨200, 200⟩) false
     RecordLaws s ∧ DiverterLaws s ∧ s.diverters[(1 : DiverterId)].state = .holding) ∧
    (let s := diverter1 .settling (some ⟨400, 400⟩) false
     RecordLaws s ∧ DiverterLaws s ∧ s.diverters[(1 : DiverterId)].state = .settling) ∧
    (let s := diverter1 .retracting (some ⟨400, 400⟩) false
     RecordLaws s ∧ DiverterLaws s ∧ s.diverters[(1 : DiverterId)].state = .retracting) := by
  and_intros <;> decide +kernel

/-- A stroke whose actuator stays home, and one whose actuator leaves home just then. -/
theorem witness_EstopHoldsTheZonesAndWithdrawsTheStrokes :
    (striking.resetActive = false ∧ RecordLaws striking ∧ DiverterLaws striking) ∧
    RecordLaws leaving ∧ DiverterLaws leaving ∧ leaving.leavingHome 2 = true := by
  and_intros <;> decide +kernel

/-- Two reports OUTSTANDING, with the transmitter busy and with it FREE and the window full. -/
theorem witness_LinkAndResendTimersUnsendTheReports :
    (reporting.resetActive = false ∧ ReportQueueLaws reporting ∧ LinkLaws reporting ∧
      reporting.link.up = true ∧ reporting.link.linkTimer = some ⟨500, 500⟩ ∧
      reporting.reports.resendTimer = some ⟨200, 200⟩ ∧ reporting.link.transmitter = .free) ∧
    (ReportQueueLaws (reporting sending) ∧ LinkLaws (reporting sending) ∧
      (reporting sending).link.transmitter ≠ .free) := by and_intros <;> decide +kernel

/-- A reply waiting; one report OUTSTANDING of a window of 2; and the window full. -/
theorem witness_FrameEndLetsTheNextFrameBegin :
    let one : State := { sending with reports :=
      ⟨[⟨1, .untracked 0, 2, true⟩, ⟨2, .untracked 0, 0, false⟩], 3, 1, some ⟨200, 7⟩⟩ }
    (slotFull.resetActive = false ∧ ReportQueueLaws slotFull ∧ HaltReasonLaws slotFull ∧
      slotFull.link.transmitter = .sending [0xA5, 0x02] ∧
      slotFull.link.slot = some ⟨0x81, 1, []⟩) ∧
    (ReportQueueLaws one ∧ HaltReasonLaws one ∧ one.link.slot = none ∧ one.link.up = true ∧
      one.reports.outstanding < one.link.settings.sendWindow ∧
      one.reports.entries = [⟨1, .untracked 0, 2, true⟩] ++ ⟨2, .untracked 0, 0, false⟩ :: []) ∧
    (ReportQueueLaws (reporting sending) ∧ HaltReasonLaws (reporting sending) ∧
      (reporting sending).link.settings.sendWindow ≤ (reporting sending).reports.outstanding) := by
  and_intros <;> decide +kernel

end Sys2Proof.Tests
end

section
/-! PROOFS. The zone counts and the halt reasons: what each operation of the module keeps of them, and
the two statements that follow, `OnlyPulsesRaiseZoneCounts` (R4) and `StepKeepsHaltReasonLaws` (R11, R13,
R15 to R18). -/

namespace Sys2Proof.Machine

/-! ### The reasons between two settlings

The end of a happening settles the permits and DOWNSTREAM (`Settled`). The other derived reasons hold
throughout a happening, each kept by the operation that changes what it is derived from. -/

/-- R13, R15, R17, R18: a halt-reason set that zone `z` may hold between two settlings. -/
structure ZoneDerived (s : State) (z : ZoneId) (r : Reasons) : Prop where
  stopped : r.stopped = !(decide (s.module = .tracking) && s.zoneDefined z)
  jam : r.jam = s.zoneJammed z
  poolLow : r.poolLow =
    (decide (z = 0) && s.configured && decide (s.freeRecords < s.activeLayout.line.poolReserve))
  link : r.link = (decide (z = 0) && !s.link.up && s.configured && s.activeLayout.line.infeedHold)

/-- The halt-reason laws but for what the end of a happening settles. -/
structure ReasonsDerived (s : State) : Prop where
  zone (z : ZoneId) : ZoneDerived s z s.zones[z].reasons
  pendingReserve : s.pendingLayout.line.poolReserve ≤ 16
  activeReserve : s.activeLayout.line.poolReserve ≤ 16

theorem ReasonsDerived.reserves {s : State} (h : ReasonsDerived s) :
    s.pendingLayout.line.poolReserve ≤ 16 ∧ s.activeLayout.line.poolReserve ≤ 16 :=
  ⟨h.pendingReserve, h.activeReserve⟩

/-- The halt-reason laws are the reasons that hold throughout and those that are settled. -/
theorem haltReasonLaws_iff (s : State) : HaltReasonLaws s ↔ ReasonsDerived s ∧ Settled s := by
  constructor
  · rintro ⟨h, hp, ha⟩
    refine ⟨⟨fun z => ?_, hp, ha⟩, fun z => ?_⟩ <;>
      obtain ⟨permit, stopped, jam, downstream, poolLow, link⟩ := h z
    exacts [⟨stopped, jam, poolLow, link⟩, ⟨permit, downstream⟩]
  · rintro ⟨⟨h, hp, ha⟩, hs⟩
    exact ⟨fun z => ⟨(hs z).1, (h z).stopped, (h z).jam, (hs z).2, (h z).poolLow, (h z).link⟩,
      hp, ha⟩

/-- Two halt-reason sets with the same STOPPED, JAM, POOL_LOW and LINK. -/
structure Reasons.Alike (r q : Reasons) : Prop where
  stopped : q.stopped = r.stopped
  jam : q.jam = r.jam
  poolLow : q.poolLow = r.poolLow
  link : q.link = r.link

theorem Reasons.Alike.refl (r : Reasons) : r.Alike r := ⟨rfl, rfl, rfl, rfl⟩

/-- What the derived reasons are read from, apart from the eyes. -/
def State.grounds (s : State) : ModuleState × Layout × Layout × Bool × Nat :=
  (s.module, s.pendingLayout, s.activeLayout, s.link.up, s.freeRecords)

/-- A zone's derived reasons rest on the grounds and, for JAM, on the eyes. -/
theorem ZoneDerived.of_grounds {s t : State} {z : ZoneId} {r q : Reasons} (h : ZoneDerived s z r)
    (hg : t.grounds = s.grounds) (hs : q.stopped = r.stopped) (hj : q.jam = t.zoneJammed z)
    (hp : q.poolLow = r.poolLow) (hl : q.link = r.link) : ZoneDerived t z q := by
  simp only [State.grounds, Prod.mk.injEq] at hg
  obtain ⟨hm, -, ha, hu, hf⟩ := hg
  have hc : t.configured = s.configured := by unfold State.configured; rw [hm]
  refine ⟨?_, hj, ?_, ?_⟩
  · rw [hs, h.stopped, hm, State.zoneDefined, State.zoneDefined, ha]
  · rw [hp, h.poolLow, hc, hf, ha]
  · rw [hl, h.link, hc, hu, ha]

theorem ReasonsDerived.of_grounds {s t : State} (h : ReasonsDerived s) (hg : t.grounds = s.grounds)
    (hz : ∀ z : ZoneId, ZoneDerived t z t.zones[z].reasons) : ReasonsDerived t := by
  simp only [State.grounds, Prod.mk.injEq] at hg
  obtain ⟨-, hp, ha, -⟩ := hg
  exact ⟨hz, hp ▸ h.pendingReserve, ha ▸ h.activeReserve⟩

/-- The derived reasons rest on their grounds and on the eyes that hold a jam. -/
theorem ReasonsDerived.of_alike {s t : State} (h : ReasonsDerived s) (hg : t.grounds = s.grounds)
    (he : ∀ e : EyeId, t.eyes[e].state.holdsJam = s.eyes[e].state.holdsJam)
    (hr : ∀ z : ZoneId, s.zones[z].reasons.Alike t.zones[z].reasons) : ReasonsDerived t := by
  have ha : t.activeLayout = s.activeLayout := congrArg (fun g => g.2.2.1) hg
  refine h.of_grounds hg fun z =>
    (h.zone z).of_grounds hg (hr z).stopped ?_ (hr z).poolLow (hr z).link
  simp only [(hr z).jam, (h.zone z).jam, State.zoneJammed, he, ha]

/-! ### Operations that keep the counts and the reasons -/

/-- An operation that leads from `s` to `t` leaves every zone count and keeps the derived reasons. -/
structure Keeps (s t : State) : Prop where
  count (z : ZoneId) : t.zones[z].count = s.zones[z].count
  derived : ReasonsDerived s → ReasonsDerived t

theorem Keeps.refl (s : State) : Keeps s s := ⟨fun _ => rfl, id⟩

theorem Keeps.trans {s t u : State} (h : Keeps s t) (k : Keeps t u) : Keeps s u :=
  ⟨fun z => (k.count z).trans (h.count z), fun hs => k.derived (h.derived hs)⟩

theorem Keeps.of_alike {s t : State} (hg : t.grounds = s.grounds)
    (he : ∀ e : EyeId, t.eyes[e].state.holdsJam = s.eyes[e].state.holdsJam)
    (hc : ∀ z : ZoneId, t.zones[z].count = s.zones[z].count)
    (hr : ∀ z : ZoneId, s.zones[z].reasons.Alike t.zones[z].reasons) : Keeps s t :=
  ⟨hc, fun h => h.of_alike hg he hr⟩

/-- An operation on other blocks keeps what the zones hold. -/
theorem Keeps.of_eq {s t : State} (hg : t.grounds = s.grounds) (he : t.eyes = s.eyes)
    (hz : t.zones = s.zones) : Keeps s t :=
  .of_alike hg (fun _ => by rw [he]) (fun _ => by rw [hz]) fun _ => by rw [hz]; exact .refl _

/-- Reading a vector that has been written at one place. -/
theorem getElem_set_fin {α : Type} {n : Nat} (v : Vector α n) (i j : Fin n) (x : α) :
    (v.set i x)[j] = if i = j then x else v[j] := by
  simp [Vector.getElem_set, Fin.ext_iff]

theorem mapZones_keeps (s : State) (f : ZoneId → ZoneUnit → ZoneUnit)
    (hc : ∀ z u, (f z u).count = u.count)
    (hr : ∀ z (u : ZoneUnit), u.reasons.Alike (f z u).reasons) :
    Keeps s (s.mapZones f) :=
  .of_alike rfl (fun _ => rfl) (fun z => by simp [hc]) fun z => by simpa using hr z _

theorem modifyZone_keeps (s : State) (z : ZoneId) (f : ZoneUnit → ZoneUnit)
    (hc : (f s.zones[z]).count = s.zones[z].count)
    (hr : s.zones[z].reasons.Alike (f s.zones[z]).reasons) : Keeps s (s.modifyZone z f) := by
  refine .of_alike rfl (fun _ => rfl) (fun y => ?_) fun y => ?_ <;>
    rw [State.modifyZone_zones, getElem_set_fin] <;> split <;> rename_i h
  exacts [h ▸ hc, rfl, h ▸ hr, .refl _]

theorem foldl_keeps {α : Type} (f : State → α → State) (h : ∀ s a, Keeps s (f s a)) (l : List α)
    (s : State) : Keeps s (l.foldl f s) := by
  induction l generalizing s with
  | nil => exact .refl s
  | cons a l ih => exact (h s a).trans (ih _)

/-! ### Shared operations -/

theorem post_keeps (s : State) (r : Report) : Keeps s (s.post r) := .of_eq rfl rfl rfl

theorem count_keeps (s : State) (f : Counters → Counters) : Keeps s (s.count f) :=
  .of_eq rfl rfl rfl

theorem modifyDiverter_keeps (s : State) (d : DiverterId) (f : Diverter → Diverter) :
    Keeps s (s.modifyDiverter d f) := .of_eq rfl rfl rfl

theorem setHome_keeps (s : State) (d : DiverterId) (level : Bool) : Keeps s (s.setHome d level) :=
  .of_eq rfl rfl rfl

theorem readHome_keeps (s : State) (d : DiverterId) : Keeps s (s.readHome d) := by
  rw [State.readHome_frame]
  exact .of_eq rfl rfl rfl

theorem updateItem_keeps (s : State) (tag : Nat) (f : Item → Item) : Keeps s (s.updateItem tag f) :=
  mapZones_keeps s _ (fun _ _ => rfl) fun _ _ => .refl _

theorem removeItem_keeps (s : State) (tag : Nat) : Keeps s (s.removeItem tag) :=
  mapZones_keeps s _ (fun _ _ => rfl) fun _ _ => .refl _

theorem appendItem_keeps (s : State) (z : ZoneId) (p : Nat) (i : Item) :
    Keeps s (s.appendItem z p i) :=
  modifyZone_keeps s z _ rfl (.refl _)

theorem leaveClaim_keeps (s : State) (tag : Nat) (d : DiverterId) : Keeps s (s.leaveClaim tag d) :=
  .of_eq rfl rfl rfl

/-- The zones after one halt-reason set is changed. -/
theorem modifyReasons_zone (s : State) (y z : ZoneId) (f : Reasons → Reasons) :
    (s.modifyReasons y f).zones[z] =
      { s.zones[z] with
        reasons := if y = z then f s.zones[z].reasons else s.zones[z].reasons } := by
  rw [State.modifyReasons_zones, getElem_set_fin]
  by_cases h : y = z
  · subst h; simp
  · simp [h]

/-- An operation changes the halt-reason set of zone `y` along with what it is derived from. -/
theorem modifyReasons_keeps {s t : State} (y : ZoneId) (f : Reasons → Reasons)
    (hc : ∀ z : ZoneId, t.zones[z].count = s.zones[z].count)
    (hl : ReasonsDerived s →
      t.pendingLayout.line.poolReserve ≤ 16 ∧ t.activeLayout.line.poolReserve ≤ 16)
    (hy : ReasonsDerived s → ZoneDerived t y (f t.zones[y].reasons))
    (ho : ReasonsDerived s → ∀ z, z ≠ y → ZoneDerived t z t.zones[z].reasons) :
    Keeps s (t.modifyReasons y f) := by
  refine ⟨fun z => by rw [modifyReasons_zone]; exact hc z, fun h =>
    ⟨fun z => ?_, (hl h).1, (hl h).2⟩⟩
  have hz : ZoneDerived t z (if y = z then f t.zones[z].reasons else t.zones[z].reasons) := by
    split
    · next e => exact e ▸ hy h
    · next e => exact ho h z (Ne.symm e)
  rw [modifyReasons_zone]
  exact ⟨hz.stopped, hz.jam, hz.poolLow, hz.link⟩

/-- R37: POOL_LOW, evaluated, follows any change of the free count. -/
theorem evaluatePoolLow_keeps {s t : State} (n : Nat) (k : Keeps s { t with freeRecords := n }) :
    Keeps s t.evaluatePoolLow := by
  refine k.trans
    (modifyReasons_keeps 0 _ (fun _ => rfl) ReasonsDerived.reserves (fun h => ?_) fun h z hz => ?_)
  · obtain ⟨stopped, jam, -, link⟩ := h.zone 0
    exact ⟨stopped, jam, rfl, link⟩
  · obtain ⟨stopped, jam, poolLow, link⟩ := h.zone z
    exact ⟨stopped, jam, poolLow.trans (by simp [hz]), link⟩

theorem release_keeps (s : State) (tag : Nat) : Keeps s (s.release tag) :=
  evaluatePoolLow_keeps s.freeRecords ((removeItem_keeps s tag).trans (.of_eq rfl rfl rfl))

theorem takeRecord_keeps (s : State) : Keeps s s.takeRecord :=
  evaluatePoolLow_keeps s.freeRecords (.refl s)

theorem lose_keeps (s : State) (tag : Nat) (z : ZoneId) (e : Option EyeId) (cause : LostCause) :
    Keeps s (s.lose tag z e cause) :=
  ((post_keeps s _).trans (count_keeps _ _)).trans (release_keeps _ _)

theorem writeClaim_keeps (s : State) (i : Item) (new : Option DiverterId) :
    Keeps s (s.writeClaim i new) := by
  have written := updateItem_keeps s i.tag fun j => { j with assigned := new }
  exact written.trans (.of_eq rfl rfl rfl)

theorem reassign_keeps (s : State) (tag : Nat) (excluded : Option DiverterId) :
    Keeps s (s.reassign tag excluded).1 := by
  rcases reassign_cases s tag excluded with ⟨-, h⟩ | ⟨i, -, h⟩ <;> rw [h]
  exacts [.refl s, writeClaim_keeps s i _]

theorem reevaluate_keeps (s : State) (d : DiverterId) : Keeps s (s.reevaluate d) :=
  foldl_keeps _ (fun s tag => (reassign_keeps s tag (some d)).trans (post_keeps _ _)) _ s

/-! ### Diverters -/

theorem enterSettling_keeps (s : State) (d : DiverterId) : Keeps s (s.enterSettling d) := by
  unfold State.enterSettling
  split
  · exact (modifyDiverter_keeps s d _).trans (post_keeps _ _)
  · exact modifyDiverter_keeps s d _

theorem settleDiverters_keeps (s : State) (which : DiverterId → Bool) :
    Keeps s (s.settleDiverters which) :=
  foldl_keeps _ (fun s d => (readHome_keeps s d).trans (enterSettling_keeps _ d)) _ s

theorem retracted_keeps (s : State) (d : DiverterId) : Keeps s (s.retracted d) := by
  unfold State.retracted
  dsimp only
  split
  · exact (modifyDiverter_keeps s d _).trans (post_keeps _ _)
  · exact modifyDiverter_keeps s d _

theorem enterRetracting_keeps (s : State) (d : DiverterId) : Keeps s (s.enterRetracting d) := by
  unfold State.enterRetracting
  dsimp only
  split
  · exact (modifyDiverter_keeps s d _).trans (retracted_keeps _ d)
  · exact modifyDiverter_keeps s d _

theorem returnItem_keeps (s : State) (d : DiverterId) (cause : MissCause) :
    Keeps s (s.returnItem d cause) := by
  rcases returnItem_cases d cause s with ⟨-, h⟩ | ⟨tag, -, h⟩ <;> rw [h]
  · exact .refl s
  · have emptied : Keeps s (s.slotEmptied d tag) :=
      (modifyDiverter_keeps s d _).trans (updateItem_keeps _ tag _)
    exact (emptied.trans (reassign_keeps _ tag _)).trans (post_keeps _ _)

theorem enterFault_keeps (s : State) (d : DiverterId) (cause : DiverterCause) :
    Keeps s (s.enterFault d cause) := by
  have returned := ((modifyDiverter_keeps s d fun u =>
    { u with state := .fault, timer := none, testMark := false }).trans
      (post_keeps _ (.diverterChange d .fault cause))).trans (returnItem_keeps _ d .strokeFault)
  unfold State.enterFault
  dsimp only
  split
  · exact returned.trans (reevaluate_keeps _ d)
  · exact returned

theorem completeStroke_keeps (s : State) (d : DiverterId) : Keeps s (s.completeStroke d) := by
  unfold State.completeStroke
  dsimp only
  split
  · exact modifyDiverter_keeps s d _
  · exact (((modifyDiverter_keeps s d _).trans (post_keeps _ _)).trans (count_keeps _ _)).trans
      (release_keeps _ _)

theorem withdrawStroke_keeps (s : State) (d : DiverterId) : Keeps s (s.withdrawStroke d) := by
  unfold State.withdrawStroke
  split
  · exact (readHome_keeps s d).trans (enterRetracting_keeps _ d)
  · exact .refl s

theorem withdrawStrokes_keeps (s : State) : Keeps s s.withdrawStrokes :=
  (foldl_keeps _ withdrawStroke_keeps allDiverters s).trans
    (foldl_keeps _ (fun t d => returnItem_keeps t d .estop) _ _)

theorem disableDiverter_keeps (s : State) (d : DiverterId) : Keeps s (s.disableDiverter d) := by
  have returned := (modifyDiverter_keeps s d fun u =>
    { u with state := .disabled, timer := none, testMark := false }).trans
      (returnItem_keeps _ d .disabled)
  unfold State.disableDiverter
  dsimp only
  split_ifs
  · exact .refl s
  · exact returned.trans (reevaluate_keeps _ d)
  · exact returned

theorem clearFault_keeps (s : State) (d : DiverterId) : Keeps s (s.clearFault d) := by
  unfold State.clearFault
  split
  · exact (modifyDiverter_keeps s d _).trans (post_keeps _ _)
  · exact enterSettling_keeps s d

theorem homeActive_keeps (s : State) (d : DiverterId) : Keeps s (s.homeActive d) := by
  have read := setHome_keeps s d true
  unfold State.homeActive
  dsimp only
  split
  · exact (read.trans (modifyDiverter_keeps _ d _)).trans (post_keeps _ _)
  · exact read.trans (retracted_keeps _ d)
  · exact read.trans (enterFault_keeps _ d _)
  all_goals exact read

theorem homeInactive_keeps (s : State) (d : DiverterId) : Keeps s (s.homeInactive d) := by
  have read := setHome_keeps s d false
  unfold State.homeInactive
  dsimp only
  split
  · exact read.trans (enterFault_keeps _ d _)
  · exact read.trans (completeStroke_keeps _ d)
  all_goals exact read

/-! ### Induction -/

theorem pair_keeps (s : State) (length : Nat) (overlength : Bool) (next : Option EyeId) :
    Keeps s (s.pair length overlength next).1 := by
  unfold State.pair
  split <;> exact .of_eq rfl rfl rfl

theorem closeInduction_keeps (s : State) (i : Item) : Keeps s (s.closeInduction i) := by
  unfold State.closeInduction
  exact ((reassign_keeps s i.tag none).trans (post_keeps _ _)).trans (count_keeps _ _)

theorem induct_keeps (s : State) (length : Nat) (overlength : Bool) :
    Keeps s (s.induct length overlength) := by
  unfold State.induct
  split
  · exact .refl s
  · next e he =>
    split
    · exact post_keeps s _
    · have paired := (takeRecord_keeps s).trans
        (pair_keeps _ length overlength (s.activeLayout.eyeFollowing e))
      dsimp only
      split
      · exact paired.trans (lose_keeps _ _ _ _ _)
      · exact (paired.trans (appendItem_keeps _ _ _ _)).trans (closeInduction_keeps _ _)

theorem beginSpan_keeps (s : State) : Keeps s s.beginSpan := by
  unfold State.beginSpan
  split
  · exact .of_eq rfl rfl rfl
  · exact .refl s

theorem endSpan_keeps (s : State) : Keeps s s.endSpan := by
  have ended : Keeps s { s with span := .idle, spanCount := 0 } := .of_eq rfl rfl rfl
  unfold State.endSpan
  dsimp only
  split_ifs
  · exact ended.trans (count_keeps _ _)
  · exact ended.trans (induct_keeps _ _ _)
  · exact ended

theorem countSpan_keeps (s : State) : Keeps s s.countSpan := by
  unfold State.countSpan
  split
  · exact .of_eq rfl rfl rfl
  · exact .refl s

theorem inductOverlength_keeps (s : State) : Keeps s s.inductOverlength := by
  have passed : Keeps s { s with span := .passed, spanCount := 0 } := .of_eq rfl rfl rfl
  exact passed.trans (induct_keeps _ _ _)

/-! ### Crossings -/

theorem missEye_keeps (s : State) (tag : Nat) (e : EyeId) : Keeps s (s.missEye tag e) := by
  unfold State.missEye
  split
  · exact .refl s
  · dsimp only
    split_ifs
    · exact updateItem_keeps s tag _
    · exact (updateItem_keeps s tag _).trans (lose_keeps _ _ _ _ _)
    · exact (updateItem_keeps s tag _).trans (lose_keeps _ _ _ _ _)
    · exact updateItem_keeps s tag _

theorem missDivert_keeps (s : State) (d : DiverterId) (i : Item) (cause : MissCause) :
    Keeps s (s.missDivert d i cause) := by
  have marked : Keeps s (if cause = .busy then s.updateItem i.tag Item.markAtRisk else s) := by
    split
    · exact updateItem_keeps s _ _
    · exact .refl s
  exact ((marked.trans (leaveClaim_keeps _ i.tag d)).trans (reassign_keeps _ i.tag (some d))).trans
    (post_keeps _ _)

theorem fire_keeps (s : State) (d : DiverterId) (i : Item) : Keeps s (s.fire d i) := by
  have fired := (modifyDiverter_keeps s d fun u =>
    { u with state := .extending, timer := s.diverterTimer d DiverterDef.strokeTimeout
             slot := some i.tag }).trans (updateItem_keeps _ i.tag fun j =>
      { j with state := .diverting }) |>.trans (leaveClaim_keeps _ i.tag d)
  unfold State.fire
  dsimp only
  split
  · exact fired
  · exact fired.trans (updateItem_keeps _ _ _)

theorem decideFire_keeps (s : State) (d : DiverterId) (i : Item) : Keeps s (s.decideFire d i) := by
  unfold State.decideFire
  split
  · exact missDivert_keeps s d i _
  · exact fire_keeps s d i

theorem reachTrigger_keeps (s : State) (tag : Nat) (d : DiverterId) :
    Keeps s (s.reachTrigger tag d) := by
  unfold State.reachTrigger
  split
  · exact .refl s
  · split_ifs
    · exact decideFire_keeps s d _
    · exact updateItem_keeps s tag _
    · exact .refl s

theorem takeWindowEnds_keeps (tag : Nat) (z : ZoneId) (n : Nat) (s : State) :
    Keeps s (s.takeWindowEnds tag z n) := by
  induction n generalizing s with
  | zero => exact .refl s
  | succ n ih =>
    unfold State.takeWindowEnds
    split
    · exact .refl s
    · split
      · exact (missEye_keeps s tag _).trans (ih _)
      · exact .refl s

theorem exitItem_keeps (s : State) (i : Item) : Keeps s (s.exitItem i) :=
  ((post_keeps s _).trans (count_keeps _ _)).trans (release_keeps _ _)

theorem transferItem_keeps (s : State) (i : Item) (y : ZoneId) :
    Keeps s (s.transferItem i y).1 := by
  unfold State.transferItem
  split
  · exact lose_keeps s _ _ _ _
  · exact (removeItem_keeps s i.tag).trans (appendItem_keeps _ _ _ _)

theorem leaveZone_keeps (s : State) (tag : Nat) (z : ZoneId) : Keeps s (s.leaveZone tag z).1 := by
  have ended : Keeps s (if (s.findItem tag).any (s.transferMeetsReturn z) then s
      else s.takeWindowEnds tag z 12) := by
    split
    · exact .refl s
    · exact takeWindowEnds_keeps tag z 12 s
  unfold State.leaveZone
  dsimp only
  split
  · exact ended
  · split
    · exact ended.trans (transferItem_keeps _ _ _)
    · exact ended.trans (exitItem_keeps _ _)

theorem cross_keeps (s : State) (c : Crossing) : Keeps s (s.cross c).1 := by
  unfold State.cross
  split
  · split
    · exact leaveZone_keeps s _ _
    · exact .refl s
  · exact missEye_keeps s _ _
  · exact reachTrigger_keeps s _ _
  · exact inductOverlength_keeps s

theorem chooseCrossing_keeps (s : State) (owed : List Crossing) :
    Keeps s (s.chooseCrossing owed).2 := by
  unfold State.chooseCrossing
  split
  · exact .refl s
  · exact .refl s
  · exact .of_eq rfl rfl rfl

theorem takeCrossings_keeps (n : Nat) (owed : List Crossing) (s : State) :
    Keeps s (s.takeCrossings n owed) := by
  induction n generalizing owed s with
  | zero => exact .refl s
  | succ n ih =>
    cases owed with
    | nil => exact .refl s
    | cons c cs =>
      unfold State.takeCrossings
      dsimp only
      have chosen := chooseCrossing_keeps s
        (((c :: cs).filter (isLowest (c :: cs))).filter s.actsAt)
      split
      · next t h =>
        rw [h] at chosen
        exact chosen.trans (ih _ _)
      · next b t h =>
        rw [h] at chosen
        have crossed := chosen.trans (cross_keeps t b)
        split
        · exact crossed.trans (ih _ _)
        · exact crossed.trans (ih _ _)

theorem takeAll_keeps (s : State) (owed : List Crossing) : Keeps s (s.takeAll owed) :=
  takeCrossings_keeps _ owed s

theorem matchEdge_keeps (s : State) (e : EyeId) (d : EyeDef) : Keeps s (s.matchEdge e d) := by
  unfold State.matchEdge
  split
  · exact (post_keeps s _).trans (count_keeps _ _)
  · exact (updateItem_keeps s _ _).trans (takeAll_keeps _ _)

/-! ### Changes of the halt-reason sets -/

theorem setHost_keeps (s : State) (z : ZoneId) (held : Bool) : Keeps s (s.setHost z held) :=
  modifyZone_keeps s z (fun u => { u with reasons := { u.reasons with host := held } }) rfl
    ⟨rfl, rfl, rfl, rfl⟩

theorem deriveDownstream_keeps (s : State) : Keeps s s.deriveDownstream :=
  mapZones_keeps s _ (fun _ _ => rfl) fun _ _ => ⟨rfl, rfl, rfl, rfl⟩

theorem estopAtZones_keeps (s : State) (active : Bool) : Keeps s (s.estopAtZones active) := by
  have claimed := mapZones_keeps s
    (fun _ u => { u with reasons := { u.reasons with estop := active } }) (fun _ _ => rfl) fun _ _ => ⟨rfl, rfl, rfl, rfl⟩
  exact claimed.trans (.of_eq rfl rfl rfl)

theorem estopAtDiverters_keeps (s : State) (active : Bool) :
    Keeps s (s.estopAtDiverters active) := by
  have read : Keeps s { s with inputs := { s.inputs with estop := active } } := .of_eq rfl rfl rfl
  unfold State.estopAtDiverters
  dsimp only
  split
  · exact read.trans (withdrawStrokes_keeps _)
  · exact read

/-- R18: a valid frame brings the link UP, and withdraws LINK. -/
theorem supervise_keeps (s : State) : Keeps s s.supervise := by
  change Keeps s (State.modifyReasons 0 (fun r => { r with link := false })
    { s with link := { s.link with up := true, linkTimer := s.link.settings.linkTimer } })
  refine modifyReasons_keeps 0 _ (fun _ => rfl) ReasonsDerived.reserves (fun h => ?_)
    fun h z hz => ?_
  · obtain ⟨stopped, jam, poolLow, -⟩ := h.zone 0
    exact ⟨stopped, jam, poolLow, by simp⟩
  · obtain ⟨stopped, jam, poolLow, link⟩ := h.zone z
    exact ⟨stopped, jam, poolLow, link.trans (by simp [hz])⟩

/-- R18, R158: LINK is claimed as the link goes DOWN. -/
theorem linkDown_keeps (s : State) : Keeps s s.linkDown := by
  change Keeps s (State.modifyReasons 0
    (fun r => { r with link := r.link || (s.configured && s.activeLayout.line.infeedHold) })
    { s with link := { s.link with up := false, linkTimer := none }
             reports := s.reports.unsendAll })
  refine modifyReasons_keeps 0 _ (fun _ => rfl) ReasonsDerived.reserves (fun h => ?_)
    fun h z hz => ?_
  · obtain ⟨stopped, jam, poolLow, link⟩ := h.zone 0
    refine ⟨stopped, jam, poolLow, ?_⟩
    dsimp only
    rw [link]
    cases s.link.up <;> simp [State.configured]
  · obtain ⟨stopped, jam, poolLow, link⟩ := h.zone z
    exact ⟨stopped, jam, poolLow, link.trans (by simp [hz])⟩

/-- R13: STOPPED follows a change of the module state that keeps the layout in force. -/
theorem setStopped_keeps (s : State) (m : ModuleState) (r : Report)
    (hs : s.module ≠ .unconfigured) (hm : m ≠ .unconfigured) :
    Keeps s (({ s with module := m }.post r).setStopped (decide (m = ModuleState.tracking))) := by
  have hc : ({ s with module := m } : State).configured = s.configured := by
    simp [State.configured, bne, hs, hm]
  refine ⟨fun z => by simp [State.setStopped], fun h => ⟨fun z => ?_, h.pendingReserve,
    h.activeReserve⟩⟩
  obtain ⟨stopped, jam, poolLow, link⟩ := h.zone z
  rw [← hc] at poolLow link
  simp only [State.setStopped, State.mapZones_zones, Fin.getElem_fin, Vector.getElem_ofFn]
  exact ⟨rfl, jam, poolLow, link⟩

/-! ### Eyes -/

/-- R15: a zone is jammed by an eye of its own. -/
theorem zoneJammed_iff (s : State) (z : ZoneId) : s.zoneJammed z = true ↔
    ∃ e : EyeId, s.eyes[e].state.holdsJam = true ∧ ∃ d ∈ s.activeLayout.eyes[e], d.zone = z := by
  have all : ∀ e : EyeId, e ∈ allEyes := by decide
  simp [State.zoneJammed, all, Option.any_eq_true]

theorem zoneJammed_eq_false {s : State} (h : ∀ e : EyeId, s.eyes[e].state.holdsJam = false)
    (z : ZoneId) : s.zoneJammed z = false :=
  Bool.eq_false_iff.2 fun hz => by
    obtain ⟨e, he, -⟩ := (zoneJammed_iff s z).1 hz
    exact absurd he (by rw [h e]; decide)

theorem setEyeBlocked_keeps (s : State) (e : EyeId) (blocked : Bool) :
    Keeps s (s.setEyeBlocked e blocked) := .of_eq rfl rfl rfl

/-- An eye's change between states that both hold a jam, or both do not. -/
theorem setEye_keeps (s : State) (e : EyeId) (x : EyeState)
    (h : x.holdsJam = s.eyes[e].state.holdsJam) : Keeps s (s.setEye e x) := by
  refine .of_alike rfl (fun f => ?_) (fun _ => rfl) fun _ => .refl _
  rw [State.setEye_eyes, getElem_set_fin]
  split
  · next hf => rw [← hf]; exact h
  · rfl

/-- R65: an eye that jams claims JAM in its zone. -/
theorem jamEye_keeps (s : State) (e : EyeId) : Keeps s (s.jamEye e) := by
  unfold State.jamEye
  split
  · exact .refl s
  · next d hd =>
    have eyes (f : EyeId) : ((s.setEye e .jammed).post (.jam e d.zone true)).eyes[f].state =
        if e = f then .jammed else s.eyes[f].state := by
      rw [State.post_eyes, State.setEye_eyes, getElem_set_fin]
      split <;> rfl
    refine modifyReasons_keeps d.zone _ (fun _ => rfl) ReasonsDerived.reserves (fun h => ?_)
      fun h z hz => ?_
    · obtain ⟨stopped, -, poolLow, link⟩ := h.zone d.zone
      refine ⟨stopped, Eq.symm ((zoneJammed_iff _ _).2 ⟨e, ?_, d, hd, rfl⟩), poolLow, link⟩
      rw [eyes, if_pos rfl]
      rfl
    · obtain ⟨stopped, jam, poolLow, link⟩ := h.zone z
      refine ⟨stopped, jam.trans ?_, poolLow, link⟩
      rw [Bool.eq_iff_iff, zoneJammed_iff, zoneJammed_iff]
      refine exists_congr fun f => ?_
      rw [eyes]
      split
      · next hf =>
        subst hf
        have no : ¬ ∃ c ∈ s.activeLayout.eyes[e], c.zone = z := by
          rw [hd]
          rintro ⟨c, ⟨⟩, hcz⟩
          exact hz hcz.symm
        exact iff_of_false (fun p => no p.2) fun p => no p.2
      · rfl

/-- From `s` to `t` nothing is changed but eyes of zone `z` that hold no jam any more. -/
structure JamsFreed (z : ZoneId) (s t : State) : Prop where
  grounds : t.grounds = s.grounds
  zones : t.zones = s.zones
  eyes (e : EyeId) : t.eyes[e].state.holdsJam = s.eyes[e].state.holdsJam ∨
    t.eyes[e].state.holdsJam = false ∧ ∃ d ∈ s.activeLayout.eyes[e], d.zone = z

theorem JamsFreed.refl (z : ZoneId) (s : State) : JamsFreed z s s := ⟨rfl, rfl, fun _ => .inl rfl⟩

theorem JamsFreed.freeEye {z : ZoneId} {s t : State} (h : JamsFreed z s t) (e : EyeId)
    (x : EyeState) (hx : x.holdsJam = false) (he : ∃ d ∈ s.activeLayout.eyes[e], d.zone = z) :
    JamsFreed z s ((t.setEye e x).post (.jam e z false)) := by
  refine ⟨h.grounds, h.zones, fun f => ?_⟩
  rw [State.post_eyes, State.setEye_eyes, getElem_set_fin]
  split
  · next hf => exact .inr ⟨hx, hf ▸ he⟩
  · exact h.eyes f

/-- R15: an eye that is freed jams no other zone. -/
theorem JamsFreed.zoneJammed_other {z : ZoneId} {s t : State} (h : JamsFreed z s t) (y : ZoneId)
    (hy : y ≠ z) : t.zoneJammed y = s.zoneJammed y := by
  have ha : t.activeLayout = s.activeLayout := congrArg (fun g => g.2.2.1) h.grounds
  rw [Bool.eq_iff_iff, zoneJammed_iff, zoneJammed_iff, ha]
  refine exists_congr fun e => ?_
  rcases h.eyes e with he | ⟨-, d, hd, hdz⟩
  · rw [he]
  · have no : ¬ ∃ c ∈ s.activeLayout.eyes[e], c.zone = y := by
      rw [hd]
      rintro ⟨c, ⟨⟩, hcy⟩
      exact hy (hcy.symm.trans hdz)
    exact iff_of_false (fun p => no p.2) fun p => no p.2

theorem JamsFreed.zoneJammed_own {z : ZoneId} {s t : State} (h : JamsFreed z s t)
    (ht : t.zoneJammed z = true) : s.zoneJammed z = true := by
  have ha : t.activeLayout = s.activeLayout := congrArg (fun g => g.2.2.1) h.grounds
  simp only [zoneJammed_iff, ha] at ht ⊢
  obtain ⟨e, hj, hd⟩ := ht
  rcases h.eyes e with he | ⟨he, -⟩
  · exact ⟨e, he ▸ hj, hd⟩
  · rw [he] at hj
    cases hj

/-- R15: JAM withdrawn unless another eye of the zone holds it. -/
theorem JamsFreed.withdrawJam_keeps {z : ZoneId} {s t : State} (h : JamsFreed z s t) :
    Keeps s (t.withdrawJam z) := by
  have hg := h.grounds
  simp only [State.grounds, Prod.mk.injEq] at hg
  obtain ⟨-, hp, ha, -⟩ := hg
  refine modifyReasons_keeps z _ (fun y => by rw [h.zones])
    (fun k => by rw [hp, ha]; exact k.reserves) (fun k => ?_) fun k y hy => ?_ <;> rw [h.zones]
  · refine (k.zone z).of_grounds h.grounds rfl ?_ rfl rfl
    change (s.zones[z].reasons.jam && t.zoneJammed z) = t.zoneJammed z
    rw [(k.zone z).jam, Bool.and_eq_right_iff_imp]
    exact h.zoneJammed_own
  · refine (k.zone y).of_grounds h.grounds rfl ?_ rfl rfl
    rw [h.zoneJammed_other y hy, (k.zone y).jam]

/-- R20: the JAM_HELD eyes of a zone are cleared one by one. -/
theorem clearHeld_freed (z : ZoneId) (s : State) (l : List EyeId)
    (hl : ∀ e ∈ l, ∃ d ∈ s.activeLayout.eyes[e], d.zone = z) (t : State) (h : JamsFreed z s t) :
    JamsFreed z s (l.foldl (State.clearHeld z) t) := by
  induction l generalizing t with
  | nil => exact h
  | cons e l ih =>
    exact ih (fun f hf => hl f (List.mem_cons_of_mem e hf)) _
      (h.freeEye e .clear rfl (hl e List.mem_cons_self))

theorem resume_keeps (s : State) (z : ZoneId) : Keeps s (s.resume z) := by
  have inZone : ∀ e ∈ s.eyesIn z .jamHeld, ∃ d ∈ s.activeLayout.eyes[e], d.zone = z := by
    intro e he
    have hz := (List.mem_filter.1 he).2
    simpa [Option.any_eq_true] using (Bool.and_eq_true_iff.1 hz).2
  exact (setHost_keeps s z false).trans
    (clearHeld_freed z (s.setHost z false) _ inZone _ (.refl z _)).withdrawJam_keeps

theorem disableEye_keeps (s : State) (e : EyeId) (z : ZoneId)
    (h : ∃ d ∈ s.activeLayout.eyes[e], d.zone = z) : Keeps s (s.disableEye e z) := by
  unfold State.disableEye
  split_ifs with _ hj
  · exact .refl s
  · exact ((JamsFreed.refl z s).freeEye e .disabled rfl h).withdrawJam_keeps
  · exact setEye_keeps s e .disabled (by rw [Bool.eq_false_of_not_eq_true hj]; rfl)

theorem enableEye_keeps (s : State) (e : EyeId) : Keeps s (s.enableEye e) := by
  unfold State.enableEye
  split
  · next hd =>
    refine setEye_keeps s e _ ?_
    rw [hd]
    split <;> rfl
  · exact .refl s

theorem blockedAtItems_keeps (s : State) (e : EyeId) (d : EyeDef) :
    Keeps s (s.blockedAtItems e d) := by
  unfold State.blockedAtItems
  split
  · exact beginSpan_keeps s
  · exact matchEdge_keeps s e d

theorem unblockedAtItems_keeps (s : State) (d : EyeDef) : Keeps s (s.unblockedAtItems d) := by
  unfold State.unblockedAtItems
  split
  · exact endSpan_keeps s
  · exact .refl s

/-- R63: an edge moves an eye between states that hold a jam alike. -/
theorem edge_keeps (s : State) (e : EyeId) (blocked : Bool) (x : EyeState) {y : EyeState}
    (hy : s.eyes[e].state = y) (hx : x.holdsJam = y.holdsJam) :
    Keeps s ((s.setEyeBlocked e blocked).setEye e x) :=
  (setEyeBlocked_keeps s e blocked).trans (setEye_keeps _ e x (hx.trans (congrArg _ hy.symm)))

theorem blockedEdge_keeps (s : State) (e : EyeId) : Keeps s (s.blockedEdge e) := by
  have read := setEyeBlocked_keeps s e true
  unfold State.blockedEdge
  dsimp only
  split
  · next hy => exact (edge_keeps s e true .blocked hy rfl).trans (blockedAtItems_keeps _ e _)
  · next hy => exact (edge_keeps s e true .jammed hy rfl).trans (blockedAtItems_keeps _ e _)
  · split
    · exact read.trans (beginSpan_keeps _)
    · exact read
  · exact read

theorem unblockedEdge_keeps (s : State) (e : EyeId) : Keeps s (s.unblockedEdge e) := by
  have read := setEyeBlocked_keeps s e false
  unfold State.unblockedEdge
  dsimp only
  split
  · next hy => exact (edge_keeps s e false .clear hy rfl).trans (unblockedAtItems_keeps _ _)
  · next hy => exact (edge_keeps s e false .jamHeld hy rfl).trans (unblockedAtItems_keeps _ _)
  · exact read.trans (unblockedAtItems_keeps _ _)
  · exact read

/-! ### The encoder pulse (R4, R6) -/

/-- R4: the count of one zone raised. -/
theorem raiseCount_zone (s : State) (y z : ZoneId) : (s.raiseCount y).zones[z] =
    { s.zones[z] with count := if y = z then s.zones[z].count + 1 else s.zones[z].count } := by
  rw [State.raiseCount_zones, getElem_set_fin]
  by_cases h : y = z
  · subst h; simp
  · simp [h]

theorem raiseCount_derived (s : State) (z : ZoneId) (h : ReasonsDerived s) :
    ReasonsDerived (s.raiseCount z) :=
  h.of_alike rfl (fun _ => rfl) fun y => by rw [raiseCount_zone]; exact .refl _

/-- R6: a pulse moves no count beside its own, and that by the raise alone. -/
theorem pulse_keeps (s : State) (z : ZoneId) : Keeps (s.raiseCount z) (s.pulse z) := by
  have counted : Keeps (s.raiseCount z) (if z = 0 then (s.raiseCount z).countSpan
      else s.raiseCount z) := by
    split
    · exact countSpan_keeps _
    · exact .refl _
  unfold State.pulse
  dsimp only
  split
  · exact counted.trans (takeAll_keeps _ _)
  · exact .refl _

/-! ### RESTART and COMMIT_LAYOUT

Both withdraw LINK, which is right as a request is executed with the link UP. -/

/-- R80: an eye set from its input holds no jam. -/
theorem eyeFromInput_holdsJam (s : State) (e : EyeId) :
    (s.eyeFromInput e).state.holdsJam = false := by
  unfold State.eyeFromInput
  dsimp only
  split <;> rfl

theorem restartEye_holdsJam (s : State) (e : EyeId) : (s.restartEye e).state.holdsJam = false := by
  unfold State.restartEye
  split
  · next h => rw [h]; rfl
  · next h => rw [h]; rfl
  all_goals exact eyeFromInput_holdsJam s e

/-- R22, R134: a RESTART leaves STOPPED, and a full pool. -/
theorem giveUp_keeps (s : State) (hu : s.link.up = true) : Keeps s s.giveUp := by
  have zones (z : ZoneId) : s.giveUp.zones[z] = s.zones[z].restart := by simp [State.giveUp]
  have noJam (z : ZoneId) : s.giveUp.zoneJammed z = false :=
    zoneJammed_eq_false (fun e => by simpa [State.giveUp] using restartEye_holdsJam s e) z
  have stopped : s.giveUp.module ≠ .tracking := by
    unfold State.giveUp
    dsimp only
    split <;> decide
  have up : s.giveUp.link.up = true := hu
  refine ⟨fun z => by rw [zones]; rfl, fun h => ⟨fun z => ?_, h.pendingReserve, h.activeReserve⟩⟩
  have full : ¬ s.giveUp.freeRecords < s.giveUp.activeLayout.line.poolReserve :=
    Nat.not_lt.2 (h.activeReserve.trans (show 16 ≤ Config.itemRecords by decide))
  rw [zones]
  refine ⟨?_, (noJam z).symm, ?_, ?_⟩
  · simp [ZoneUnit.restart, stopped]
  · simp [ZoneUnit.restart, Reasons.none, full]
  · simp [ZoneUnit.restart, Reasons.none, up]

/-- R143 steps 1 to 3 before POOL_LOW is evaluated. -/
def State.layoutTaken (s : State) : State :=
  let t := { s with activeLayout := s.pendingLayout }
  { t with
    module := .standby
    zones := Vector.ofFn fun z => s.zones[z].commit (t.zoneDefined z)
    span := t.spanFromInput
    spanCount := 0
    eyes := Vector.ofFn fun e =>
      if t.activeLayout.eyes[e].isSome then t.eyeFromInput e else Eye.blank
    diverters := Vector.ofFn fun d =>
      if t.activeLayout.diverters[d].isSome then s.diverters[d] else Diverter.blank }

theorem takeLayout_eq (s : State) : s.takeLayout = s.layoutTaken.evaluatePoolLow := rfl

/-- R22, R143: a commit leaves STOPPED, no jam, and POOL_LOW by the new reserve. -/
theorem takeLayout_keeps (s : State) (hu : s.link.up = true) : Keeps s s.takeLayout := by
  have zones (z : ZoneId) : ∃ defined, s.layoutTaken.zones[z] = s.zones[z].commit defined :=
    ⟨_, by simp [State.layoutTaken]; rfl⟩
  have noJam (z : ZoneId) : s.layoutTaken.zoneJammed z = false := by
    refine zoneJammed_eq_false (fun e => ?_) z
    simp only [State.layoutTaken, Fin.getElem_fin, Vector.getElem_ofFn]
    split
    · exact eyeFromInput_holdsJam _ e
    · rfl
  have up : s.layoutTaken.link.up = true := hu
  rw [takeLayout_eq]
  refine modifyReasons_keeps 0 _ (fun z => ?_) (fun h => ⟨h.pendingReserve, h.pendingReserve⟩)
    (fun h => ?_) fun h z hz => ?_
  · obtain ⟨defined, hd⟩ := zones z
    rw [hd]
    rfl
  · obtain ⟨defined, hd⟩ := zones 0
    rw [hd]
    exact ⟨rfl, (noJam 0).symm, rfl, by simp [ZoneUnit.commit, Reasons.none, up]⟩
  · obtain ⟨defined, hd⟩ := zones z
    rw [hd]
    exact ⟨rfl, (noJam z).symm, by simp [ZoneUnit.commit, Reasons.none, hz],
      by simp [ZoneUnit.commit, Reasons.none, up]⟩

theorem commit_keeps (s : State) (hu : s.link.up = true) : Keeps s s.commit :=
  ((takeLayout_keeps s hu).trans (post_keeps _ _)).trans (settleDiverters_keeps _ _)

/-! ### Requests -/

/-- Executed on the state that a valid frame supervises, a request keeps the counts and the reasons. -/
def OpKeeps (op : State → State × Answer) : Prop := ∀ s : State, s.link.up = true → Keeps s (op s).1

theorem opStatus_keeps (body : List Byte) : OpKeeps (opStatus body) := fun s _ => by
  unfold opStatus
  split <;> exact .refl s

theorem opIdentify_keeps (body : List Byte) : OpKeeps (opIdentify body) := fun s _ => by
  unfold opIdentify
  split <;> exact .refl s

theorem opSetLink_keeps (body : List Byte) : OpKeeps (opSetLink body) := fun s _ => by
  unfold opSetLink
  split
  · dsimp only
    split
    · exact .of_eq rfl rfl rfl
    · exact .refl s
  · exact .refl s

theorem opReportAck_keeps (body : List Byte) : OpKeeps (opReportAck body) := fun s _ => by
  unfold opReportAck
  split
  · dsimp only
    split_ifs
    · exact .of_eq rfl rfl rfl
    · exact .refl s
    · exact .refl s
  · exact .refl s

theorem opRestart_keeps (body : List Byte) : OpKeeps (opRestart body) := fun s hu => by
  unfold opRestart
  split
  · exact (giveUp_keeps s hu).trans (settleDiverters_keeps _ _)
  · exact .refl s

theorem opStart_keeps (body : List Byte) : OpKeeps (opStart body) := fun s _ => by
  unfold opStart
  split
  · split
    · next hm => exact setStopped_keeps s .tracking _ (by rw [hm]; decide) (by decide)
    · exact .refl s
  · exact .refl s

theorem opStop_keeps (body : List Byte) : OpKeeps (opStop body) := fun s _ => by
  unfold opStop
  split
  · split
    · next hm => exact setStopped_keeps s .standby _ (by rw [hm]; decide) (by decide)
    · exact .refl s
  · exact .refl s

/-- R37, Table 7-4: an edit of the pending copy that leaves its pool reserve in range. -/
theorem editPending_keeps (s : State) (f : Layout → Layout)
    (h : s.pendingLayout.line.poolReserve ≤ 16 → s.activeLayout.line.poolReserve ≤ 16 →
      (f s.pendingLayout).line.poolReserve ≤ 16) : Keeps s (editPending f s).1 :=
  ⟨fun _ => rfl, fun k => ⟨fun z =>
    ⟨(k.zone z).stopped, (k.zone z).jam, (k.zone z).poolLow, (k.zone z).link⟩,
    h k.pendingReserve k.activeReserve, k.activeReserve⟩⟩

theorem opDefineZone_keeps (body : List Byte) : OpKeeps (opDefineZone body) := fun s _ => by
  unfold opDefineZone
  split
  · dsimp only
    split
    · split
      · exact editPending_keeps s _ fun hp _ => hp
      · exact .refl s
    · exact .refl s
  · exact .refl s

theorem opDefineEye_keeps (body : List Byte) : OpKeeps (opDefineEye body) := fun s _ => by
  unfold opDefineEye
  split
  · split
    · exact editPending_keeps s _ fun hp _ => hp
    · exact .refl s
  · exact .refl s

theorem opDefineDiverter_keeps (body : List Byte) : OpKeeps (opDefineDiverter body) := fun s _ => by
  unfold opDefineDiverter
  split
  · split
    · dsimp only
      split
      · exact editPending_keeps s _ fun hp _ => hp
      · exact .refl s
    · exact .refl s
  · exact .refl s

theorem opDefineDestination_keeps (body : List Byte) : OpKeeps (opDefineDestination body) :=
  fun s _ => by
    unfold opDefineDestination
    split
    · split
      · exact editPending_keeps s _ fun hp _ => hp
      · exact .refl s
    · exact .refl s

/-- R138: UNDEFINE leaves the line settings. -/
theorem undefineEdit_line {kind number : Byte} {f : Layout → Layout}
    (h : undefineEdit kind number = some f) (l : Layout) : (f l).line = l.line := by
  unfold undefineEdit at h
  split at h
  case h_4 | h_5 | h_6 => cases h
  all_goals
    obtain ⟨n, -, rfl⟩ := Option.map_eq_some_iff.1 h
    rfl

theorem opUndefine_keeps (body : List Byte) : OpKeeps (opUndefine body) := fun s _ => by
  unfold opUndefine
  split
  · split
    · next hf => exact editPending_keeps s _ fun hp _ => by rw [undefineEdit_line hf]; exact hp
    · exact .refl s
  · exact .refl s

theorem opSetLine_keeps (body : List Byte) : OpKeeps (opSetLine body) := fun s _ => by
  unfold opSetLine
  split
  · split
    · dsimp only
      split
      · next hr =>
        simp only [LineSettings.inRange, Bool.and_eq_true, decide_eq_true_eq] at hr
        obtain ⟨-, -, -, -, reserve⟩ := hr
        exact editPending_keeps s _ fun _ _ => reserve
      · exact .refl s
    · exact .refl s
  · exact .refl s

theorem opClearPending_keeps (body : List Byte) : OpKeeps (opClearPending body) := fun s _ => by
  unfold opClearPending
  split
  · exact editPending_keeps s _ fun _ _ => by decide
  · exact .refl s

theorem opCopyActive_keeps (body : List Byte) : OpKeeps (opCopyActive body) := fun s _ => by
  unfold opCopyActive
  split
  · exact editPending_keeps s _ fun _ ha => ha
  · exact .refl s

theorem opReadLayout_keeps (body : List Byte) : OpKeeps (opReadLayout body) := fun s _ => by
  unfold opReadLayout
  split
  · split
    · split <;> exact .refl s
    · exact .refl s
  · exact .refl s

theorem opCommitLayout_keeps (body : List Byte) : OpKeeps (opCommitLayout body) := fun s hu => by
  unfold opCommitLayout
  split
  · split_ifs
    · exact .refl s
    · exact .refl s
    · split
      · exact .refl s
      · exact commit_keeps s hu
  · exact .refl s

theorem opAnnounce_keeps (body : List Byte) : OpKeeps (opAnnounce body) := fun s _ => by
  unfold opAnnounce
  split
  · exact .refl s
  · split
    · exact .refl s
    · split
      · exact .refl s
      · split_ifs
        · exact .refl s
        · exact .refl s
        · exact .of_eq rfl rfl rfl

theorem opWithdraw_keeps (body : List Byte) : OpKeeps (opWithdraw body) := fun s _ => by
  unfold opWithdraw
  split
  · split
    · exact .of_eq rfl rfl rfl
    · exact .refl s
  · exact .refl s

theorem opQueryItem_keeps (body : List Byte) : OpKeeps (opQueryItem body) := fun s _ => by
  unfold opQueryItem
  split
  · split
    · exact .refl s
    · split <;> exact .refl s
  · exact .refl s

theorem opListZone_keeps (body : List Byte) : OpKeeps (opListZone body) := fun s _ => by
  unfold opListZone
  split
  · split
    · exact .refl s
    · split <;> exact .refl s
  · exact .refl s

theorem opPurge_keeps (body : List Byte) : OpKeeps (opPurge body) := fun s _ => by
  unfold opPurge
  split
  · split
    · exact .refl s
    · split
      · exact .refl s
      · exact release_keeps s _
  · exact .refl s

theorem opReroute_keeps (body : List Byte) : OpKeeps (opReroute body) := fun s _ => by
  unfold opReroute
  split
  · split
    · exact .refl s
    · split
      · exact .refl s
      · split
        · exact .refl s
        · exact (updateItem_keeps s _ _).trans (reassign_keeps _ _ none)
  · exact .refl s

theorem opHaltZone_keeps (body : List Byte) : OpKeeps (opHaltZone body) := fun s _ => by
  unfold opHaltZone
  split
  · split
    · exact .refl s
    · split
      · exact .refl s
      · exact (setHost_keeps s _ true).trans (deriveDownstream_keeps _)
  · exact .refl s

theorem opResumeZone_keeps (body : List Byte) : OpKeeps (opResumeZone body) := fun s _ => by
  unfold opResumeZone
  split
  · split
    · exact .refl s
    · split
      · exact .refl s
      · exact resume_keeps s _
  · exact .refl s

/-- R76: an eye that a request names is defined as it says. -/
theorem namedEye_defined {s : State} {b : Byte} {e : EyeId} {d : EyeDef}
    (h : s.namedEye b = some (e, d)) : s.activeLayout.eyes[e] = some d := by
  obtain ⟨f, -, hf⟩ := Option.bind_eq_some_iff.1 h
  obtain ⟨c, hc, ⟨⟩⟩ := Option.map_eq_some_iff.1 hf
  exact hc

theorem opDisableEye_keeps (body : List Byte) : OpKeeps (opDisableEye body) := fun s _ => by
  unfold opDisableEye
  split
  · split
    · exact .refl s
    · split
      · exact .refl s
      · next e d hn =>
        split
        · exact .refl s
        · exact disableEye_keeps s e d.zone ⟨d, namedEye_defined hn, rfl⟩
  · exact .refl s

theorem opEnableEye_keeps (body : List Byte) : OpKeeps (opEnableEye body) := fun s _ => by
  unfold opEnableEye
  split
  · split
    · exact .refl s
    · split
      · exact .refl s
      · exact enableEye_keeps s _
  · exact .refl s

/-- R119: a diverter request is refused, or has its effect on the diverter it names. -/
theorem diverterRequest_keeps (allowed : State → DiverterId → Bool)
    (effect : DiverterId → State → State) (h : ∀ s d, Keeps s (effect d s)) (body : List Byte) :
    OpKeeps (diverterRequest allowed effect body) := fun s _ => by
  unfold diverterRequest
  split
  · split
    · exact .refl s
    · split
      · exact .refl s
      · split
        · exact h s _
        · exact .refl s
  · exact .refl s

/-- R154 steps 4 to 6: whatever request a KIND names. -/
theorem runKind_keeps (kind : Byte) (body : List Byte) : OpKeeps (runKind kind body) := by
  unfold runKind
  split
  · exact opStatus_keeps body
  · exact opIdentify_keeps body
  · exact opSetLink_keeps body
  · exact opReportAck_keeps body
  · exact opRestart_keeps body
  · exact opStart_keeps body
  · exact opStop_keeps body
  · exact opDefineZone_keeps body
  · exact opDefineEye_keeps body
  · exact opDefineDiverter_keeps body
  · exact opDefineDestination_keeps body
  · exact opUndefine_keeps body
  · exact opSetLine_keeps body
  · exact opClearPending_keeps body
  · exact opCopyActive_keeps body
  · exact opReadLayout_keeps body
  · exact opCommitLayout_keeps body
  · exact opAnnounce_keeps body
  · exact opWithdraw_keeps body
  · exact opQueryItem_keeps body
  · exact opListZone_keeps body
  · exact opPurge_keeps body
  · exact opReroute_keeps body
  · exact opHaltZone_keeps body
  · exact opResumeZone_keeps body
  · exact opDisableEye_keeps body
  · exact opEnableEye_keeps body
  · exact diverterRequest_keeps _ _ (fun s d => modifyDiverter_keeps s d _) body
  · exact diverterRequest_keeps _ _ disableDiverter_keeps body
  · exact diverterRequest_keeps _ _ enterSettling_keeps body
  · exact diverterRequest_keeps _ _ clearFault_keeps body
  · exact fun s _ => .refl s

/-! ### The end of a happening -/

/-- A happening that leads from `s` to `t`: it keeps the counts and the reasons, and settles the permits
and DOWNSTREAM. -/
structure Closes (s t : State) : Prop where
  keeps : Keeps s t
  settled : Settled t

theorem Settled.of_eq {s t : State} (h : Settled s) (ha : t.activeLayout = s.activeLayout)
    (hz : t.zones = s.zones) : Settled t := by
  simp only [Settled, State.heldDownstream, State.zoneDefined, ha, hz] at h ⊢
  exact h

theorem Keeps.closes {s t u : State} (h : Keeps s t) (k : Closes t u) : Closes s u :=
  ⟨h.trans k.keeps, k.settled⟩

theorem Closes.of_eq {s t u : State} (h : Closes s t) (hg : u.grounds = t.grounds)
    (he : u.eyes = t.eyes) (hz : u.zones = t.zones) : Closes s u :=
  ⟨h.keeps.trans (.of_eq hg he hz), h.settled.of_eq (congrArg (fun g => g.2.2.1) hg) hz⟩

/-- R11, R16: the settling writes the permits and DOWNSTREAM alone. -/
theorem settleZones_closes (s : State) : Closes s s.settleZones := by
  have ends : EndsAs s s.settleZones := by
    unfold EndsAs
    generalize s.settleZones = u
    rfl
  have hf := settleZones_frame s
  refine ⟨.of_alike (by rw [hf]; rfl) (fun e => by rw [hf]) (fun z => ?_) (fun z => ?_),
    ends.settled⟩
  · rw [ends.zones]
    rfl
  · rw [ends.zones]
    exact ⟨rfl, rfl, rfl, rfl⟩

theorem Closes.chooseFrame {s t : State} (h : Closes s t) : Closes s t.chooseFrame := by
  rcases chooseFrame_cases t with ⟨ht, -⟩ | ⟨reply, -, -, ht⟩ | ⟨e, -, -, -, ht⟩ <;> rw [ht]
  · exact h
  · exact h.of_eq rfl rfl rfl
  · exact h.of_eq rfl rfl rfl

/-- The reply slot and the cache are the link's own. -/
theorem Closes.placeReply {s t : State} (h : Closes s t) (kind seq : Byte) (a : Answer) :
    Closes s (t.placeReply kind seq a) := h.of_eq rfl rfl rfl

theorem Closes.fillSlot {s t : State} (h : Closes s t) (reply : Frame) :
    Closes s { t with link := { t.link with slot := some reply } } := h.of_eq rfl rfl rfl

theorem finish_closes (s : State) : Closes s s.finish := (settleZones_closes s).chooseFrame

/-- Either nothing happened, or a happening was taken whole. -/
def Finishes (s t : State) : Prop := t = s ∨ Closes s t

theorem happening_finishes {occurs : Bool} {effect : State → State} {s t : State}
    (he : Keeps s (effect s)) (h : happening occurs effect s = .next t) : Finishes s t := by
  unfold happening at h
  split at h <;> cases h
  · exact .inr (he.closes (finish_closes _))
  · exact .inl rfl

/-! ### Frames -/

theorem countDiscard_keeps (s : State) : Keeps s s.countDiscard := count_keeps s _

theorem dropFrame_keeps (s : State) : Keeps s s.dropFrame :=
  (supervise_keeps s).trans (countDiscard_keeps _)

theorem takeLater_keeps (s : State) (later : List ScanEvent) : Keeps s (s.takeLater later) := by
  refine foldl_keeps _ (fun t ev => ?_) later s
  cases ev with
  | frame f => exact dropFrame_keeps t
  | discard => exact countDiscard_keeps t

/-- R154: a valid frame handled: dropped, a retry, or executed with the link UP. -/
theorem handle_closes (kind seq : Byte) {op : State → State × Answer} (hop : OpKeeps op)
    (later : List ScanEvent) (s : State) : Closes s (s.handle kind seq op later) := by
  unfold State.handle
  split
  · exact ((dropFrame_keeps s).trans (takeLater_keeps _ later)).closes (settleZones_closes _)
  · split
    · exact (((supervise_keeps s).trans (takeLater_keeps _ later)).closes
        (settleZones_closes _)).fillSlot _
    · exact ((((supervise_keeps s).trans (hop _ rfl)).trans
        (takeLater_keeps _ later)).closes (settleZones_closes _)).placeReply kind seq _

theorem request_finishes {kind seq : Byte} {op : State → State × Answer} (hop : OpKeeps op)
    {s t : State} (h : request kind seq op s = .next t) : Finishes s t := by
  unfold request at h
  split at h <;> cases h
  · exact .inl rfl
  · have rested : Keeps s s.rest := .of_eq rfl rfl rfl
    exact .inr (rested.closes (handle_closes kind seq hop [] _)).chooseFrame

theorem takeEvents_closes (events : List ScanEvent) (s : State) :
    Closes s (s.takeEvents events) := by
  induction events generalizing s with
  | nil => exact settleZones_closes s
  | cons ev later ih =>
    cases ev with
    | frame f => exact handle_closes f.kind f.seq (runKind_keeps f.kind f.body) later s
    | discard => exact (countDiscard_keeps s).closes (ih _)

theorem receive_closes (s : State) (scanned : List ScanEvent × Receiver) :
    Closes s (s.receive scanned) := by
  have taken : Keeps s (s.setReceiver scanned.2) := .of_eq rfl rfl rfl
  exact (taken.closes (takeEvents_closes scanned.1 _)).chooseFrame

/-- R152, R153: a rescan happens or not. -/
theorem rescan_finishes {p : Prop} [Decidable p] {s t : State} {buffer : List Byte}
    (h : (if p then .next (s.receive (rescan buffer)) else .next s :
      Host.Outcome State Fault Refusal) = .next t) : Finishes s t := by
  split at h <;> cases h
  · exact .inr (receive_closes s _)
  · exact .inl rfl

theorem receivedByte_finishes {b : Byte} {s t : State} (h : execReceivedByte b s = .next t) :
    Finishes s t := by
  unfold execReceivedByte at h
  split at h <;> cases h
  · exact .inl rfl
  · exact .inr (receive_closes s _)

/-! ### Commands -/

/-- The supply and RESETIN begin or void the module, and a pulse raises a count. -/
def Ordinary : Instr → Bool
  | .powerOn _ | .resetinActive | .resetinInactive _ | .encoderPulse _ => false
  | _ => true

/-- Every other command keeps every count and the derived reasons. -/
theorem exec_finishes {c : Instr} {s t : State} (ho : Ordinary c = true)
    (h : exec c s = .next t) : Finishes s t := by
  cases c with
  | powerOn | resetinActive | resetinInactive | encoderPulse => cases ho
  | estopChangeAtZones active => exact happening_finishes (estopAtZones_keeps s active) h
  | estopChangeAtDiverters active => exact happening_finishes (estopAtDiverters_keeps s active) h
  | blockedEdge e => exact happening_finishes (blockedEdge_keeps s e) h
  | unblockedEdge e => exact happening_finishes (unblockedEdge_keeps s e) h
  | homeActiveEdge d => exact happening_finishes (homeActive_keeps s d) h
  | homeInactiveEdge d => exact happening_finishes (homeInactive_keeps s d) h
  | jamTimerExpiry e => exact happening_finishes (jamEye_keeps s e) h
  | strokeTimerExpiry d => exact happening_finishes (enterFault_keeps s d _) h
  | dwellTimerExpiry d => exact happening_finishes (enterRetracting_keeps s d) h
  | returnTimerExpiry d => exact happening_finishes (enterFault_keeps s d _) h
  | interByteTimeout => exact rescan_finishes h
  | frameDiscarded buffer => exact rescan_finishes h
  | linkTimerExpiry => exact happening_finishes (linkDown_keeps s) h
  | resendTimerExpiry => exact happening_finishes (.of_eq rfl rfl rfl) h
  | frameSent => exact happening_finishes (.of_eq rfl rfl rfl) h
  | badKindFrame kind seq body => exact request_finishes (runKind_keeps kind body) h
  | status seq body => exact request_finishes (runKind_keeps 0x01 body) h
  | identify seq body => exact request_finishes (runKind_keeps 0x02 body) h
  | setLink seq body => exact request_finishes (runKind_keeps 0x03 body) h
  | reportAck seq body => exact request_finishes (runKind_keeps 0x04 body) h
  | restart seq body => exact request_finishes (runKind_keeps 0x05 body) h
  | start seq body => exact request_finishes (runKind_keeps 0x06 body) h
  | stop seq body => exact request_finishes (runKind_keeps 0x07 body) h
  | defineZone seq body => exact request_finishes (runKind_keeps 0x10 body) h
  | defineEye seq body => exact request_finishes (runKind_keeps 0x11 body) h
  | defineDiverter seq body => exact request_finishes (runKind_keeps 0x12 body) h
  | defineDestination seq body => exact request_finishes (runKind_keeps 0x13 body) h
  | undefine seq body => exact request_finishes (runKind_keeps 0x14 body) h
  | setLine seq body => exact request_finishes (runKind_keeps 0x15 body) h
  | clearPending seq body => exact request_finishes (runKind_keeps 0x16 body) h
  | copyActive seq body => exact request_finishes (runKind_keeps 0x17 body) h
  | readLayout seq body => exact request_finishes (runKind_keeps 0x18 body) h
  | commitLayout seq body => exact request_finishes (runKind_keeps 0x19 body) h
  | announce seq body => exact request_finishes (runKind_keeps 0x20 body) h
  | withdraw seq body => exact request_finishes (runKind_keeps 0x21 body) h
  | queryItem seq body => exact request_finishes (runKind_keeps 0x22 body) h
  | listZone seq body => exact request_finishes (runKind_keeps 0x23 body) h
  | purge seq body => exact request_finishes (runKind_keeps 0x24 body) h
  | reroute seq body => exact request_finishes (runKind_keeps 0x25 body) h
  | haltZone seq body => exact request_finishes (runKind_keeps 0x28 body) h
  | resumeZone seq body => exact request_finishes (runKind_keeps 0x29 body) h
  | disableEye seq body => exact request_finishes (runKind_keeps 0x2A body) h
  | enableEye seq body => exact request_finishes (runKind_keeps 0x2B body) h
  | testDiverter seq body => exact request_finishes (runKind_keeps 0x30 body) h
  | disableDiverter seq body => exact request_finishes (runKind_keeps 0x31 body) h
  | enableDiverter seq body => exact request_finishes (runKind_keeps 0x32 body) h
  | clearDiverterFault seq body => exact request_finishes (runKind_keeps 0x33 body) h
  | receivedByte b => exact receivedByte_finishes h

/-- R4, R6: a pulse raises its zone's count, and is then a happening like any other. -/
theorem encoderPulse_closes {s t : State} {z : ZoneId} (h : exec (.encoderPulse z) s = .next t)
    (hr : s.resetActive = false) : Closes (s.raiseCount z) t := by
  simp only [exec, execEncoderPulse, happening, hr, Bool.not_false, Bool.and_self, if_true,
    Host.Outcome.next.injEq] at h
  exact h ▸ (pulse_keeps s z).closes (finish_closes _)

theorem encoderPulse_void {s t : State} {z : ZoneId} (h : exec (.encoderPulse z) s = .next t)
    (hr : s.resetActive = true) : t = s := by
  simp only [exec, execEncoderPulse, happening, hr, Bool.not_true, Bool.and_true, if_false,
    Bool.false_eq_true, Host.Outcome.next.injEq] at h
  exact h.symm

theorem Finishes.count {s t : State} (h : Finishes s t) (z : ZoneId) :
    t.zones[z].count = s.zones[z].count := by
  rcases h with rfl | h
  exacts [rfl, h.keeps.count z]

theorem Closes.haltReasonLaws {s t : State} (h : Closes s t) (hs : ReasonsDerived s) :
    HaltReasonLaws t :=
  (haltReasonLaws_iff t).2 ⟨h.keeps.derived hs, h.settled⟩

theorem Finishes.haltReasonLaws {s t : State} (h : Finishes s t) (hs : HaltReasonLaws s) :
    HaltReasonLaws t := by
  rcases h with rfl | h
  exacts [hs, h.haltReasonLaws ((haltReasonLaws_iff s).1 hs).1]

/-! ### The supply and RESETIN (R129, R130) -/

theorem begin_zone (s : State) (cause : ModuleCause) (i : Inputs) (z : ZoneId) :
    (s.begin cause i).zones[z] = ZoneUnit.blank i.estop := by simp [State.begin]

theorem void_zone (s : State) (z : ZoneId) : s.void.zones[z] = ZoneUnit.blank false := by
  simp [State.void, State.reset]

/-- R130: RESETIN released begins the module, if it was active. -/
theorem resetinInactive_cases {i : Inputs} {s t : State}
    (h : exec (.resetinInactive i) s = .next t) :
    s.resetActive = true ∧ t = s.begin .resetLine i ∨ s.resetActive = false ∧ t = s := by
  change (if s.resetActive then _ else _) = _ at h
  split at h <;> cases h
  · next hr => exact .inl ⟨hr, rfl⟩
  · next hr => exact .inr ⟨Bool.eq_false_of_not_eq_true hr, rfl⟩

/-- Table 1-4: an UNCONFIGURED module with blank zones and empty layouts obeys the halt-reason laws. -/
theorem blank_haltReasonLaws {s : State} {estop : Bool} (hm : s.module = .unconfigured)
    (hp : s.pendingLayout = .empty) (ha : s.activeLayout = .empty)
    (hz : ∀ z : ZoneId, s.zones[z] = ZoneUnit.blank estop) : HaltReasonLaws s := by
  have undefined (z : ZoneId) : s.zoneDefined z = false := by
    simp [State.zoneDefined, ha, Layout.empty]
  have noJam (z : ZoneId) : s.zoneJammed z = false := Bool.eq_false_iff.2 fun h => by
    obtain ⟨e, -, d, hd, -⟩ := (zoneJammed_iff s z).1 h
    simp [ha, Layout.empty] at hd
  have reserve : Layout.empty.line.poolReserve ≤ 16 := by decide
  refine ⟨fun z => ?_, hp ▸ reserve, ha ▸ reserve⟩
  rw [hz]
  simp [ZoneUnit.blank, Reasons.none, Reasons.isEmpty, State.heldDownstream, State.configured, hm,
    undefined, noJam]

theorem begin_haltReasonLaws (s : State) (cause : ModuleCause) (i : Inputs) :
    HaltReasonLaws (s.begin cause i) :=
  blank_haltReasonLaws rfl rfl rfl (begin_zone s cause i)

/-! ### The two statements -/

/-- Settles O15: an ordinary command keeps every count, a pulse raises its own alone, and the supply and
RESETIN begin with blank zones. -/
theorem onlyPulsesRaiseZoneCounts : Obligations.OnlyPulsesRaiseZoneCounts := by
  intro s t c z h
  constructor
  · rintro (⟨i, rfl | ⟨rfl, hr⟩⟩ | rfl)
    · cases h
      rw [begin_zone]
      rfl
    · rcases resetinInactive_cases h with ⟨-, rfl⟩ | ⟨hf, -⟩
      · rw [begin_zone]
        rfl
      · exact absurd hr (by rw [hf]; decide)
    · cases h
      rw [void_zone]
      rfl
  · intro hr hp hv
    cases c with
    | powerOn i => exact absurd rfl (hp i)
    | resetinActive => exact absurd rfl hv
    | resetinInactive i =>
      rw [if_neg nofun]
      rcases resetinInactive_cases h with ⟨ha, -⟩ | ⟨-, rfl⟩
      · exact absurd ha (by rw [hr]; decide)
      · rfl
    | encoderPulse y =>
      rw [(encoderPulse_closes h hr).keeps.count z, raiseCount_zone]
      simp only [Instr.encoderPulse.injEq]
    | _ =>
      rw [if_neg nofun]
      exact (exec_finishes rfl h).count z

theorem exec_haltReasonLaws {c : Instr} {s t : State} (hs : HaltReasonLaws s)
    (h : exec c s = .next t) : HaltReasonLaws t := by
  cases c with
  | powerOn i =>
    cases h
    exact begin_haltReasonLaws s .powerOn i
  | resetinActive =>
    cases h
    exact blank_haltReasonLaws rfl rfl rfl (void_zone s)
  | resetinInactive i =>
    rcases resetinInactive_cases h with ⟨-, rfl⟩ | ⟨-, rfl⟩
    exacts [begin_haltReasonLaws s .resetLine i, hs]
  | encoderPulse z =>
    cases hr : s.resetActive with
    | true => exact encoderPulse_void h hr ▸ hs
    | false =>
      have derived := ((haltReasonLaws_iff s).1 hs).1
      exact (encoderPulse_closes h hr).haltReasonLaws (raiseCount_derived s z derived)
  | _ => exact (exec_finishes rfl h).haltReasonLaws hs

/-- R64: a millisecond advances timers, and no eye leaves its state by it. -/
theorem tick_haltReasonLaws {s : State} (hs : HaltReasonLaws s) : HaltReasonLaws s.tick := by
  obtain ⟨derived, settled⟩ := (haltReasonLaws_iff s).1 hs
  unfold State.tick
  split
  · exact hs
  · refine (haltReasonLaws_iff _).2
      ⟨derived.of_alike rfl (fun e => ?_) fun _ => .refl _, settled.of_eq rfl rfl⟩
    simp only [Fin.getElem_fin, Vector.getElem_ofFn, State.advanceEye]
    split <;> rfl

/-- Settles O7: a step is a command, whose effect keeps the derived reasons and whose end settles the
permits and DOWNSTREAM, or a millisecond, which changes neither. -/
theorem stepKeepsHaltReasonLaws : Obligations.StepKeepsHaltReasonLaws := by
  intro s t hs h
  unfold step at h
  split at h
  · rcases idleStep_cases s with ⟨-, hi⟩ | ⟨c, -, hi⟩ | ⟨-, c, -, hi⟩ <;> rw [hi] at h
    · cases h
      exact tick_haltReasonLaws hs
    · exact exec_haltReasonLaws hs h
    · exact exec_haltReasonLaws (s := { s with freeIndex := s.freeIndex + 1 }) hs h
  · next c rest _ => exact exec_haltReasonLaws (s := { s with pending := rest }) hs h

end Sys2Proof.Machine
end

section
/-! PROOFS. The records, the tags, the claims and the stroke slots: what each operation of the
module keeps of them, and the statement that follows, `StepKeepsRecordLaws` (R28, R34, R86, R116).

`Lawful` is `RecordLaws` in the parts that the operations keep (`recordLaws_iff`). An operation that
leaves what the laws read has a lemma that ends in `_same`; one that keeps the laws has a lemma that
ends in `_lawful`. -/

namespace Sys2Proof.Machine

/-! ### The records in use, and the part that each plays -/

/-- The tags that the track lists hold, in line order. -/
def State.lineTags (s : State) : List Nat := s.lineItems.map Item.tag

/-- A record with tag `x` stands in the track lists, in this state and with this assignment. -/
def State.Holds (s : State) (x : Nat) (state : ItemState) (assigned : Option DiverterId) : Prop :=
  ∃ i ∈ s.lineItems, i.tag = x ∧ i.state = state ∧ i.assigned = assigned

/-- R116: the record with tag `x` is TRACKED. -/
def State.Tracks (s : State) (x : Nat) : Prop := ∃ assigned, s.Holds x .tracked assigned

theorem mem_lineItems {s : State} {i : Item} :
    i ∈ s.lineItems ↔ ∃ z : ZoneId, i ∈ s.zones[z].track := by
  have h : i ∈ s.lineItems ↔ i ∈ s.zones[3].track ∨ i ∈ s.zones[2].track ∨
      i ∈ s.zones[1].track ∨ i ∈ s.zones[0].track := by
    simp [State.lineItems]
  rw [h]
  constructor
  · rintro (h | h | h | h)
    exacts [⟨3, h⟩, ⟨2, h⟩, ⟨1, h⟩, ⟨0, h⟩]
  · rintro ⟨z, h⟩
    match z, h with
    | 3, h => exact .inl h
    | 2, h => exact .inr (.inl h)
    | 1, h => exact .inr (.inr (.inl h))
    | 0, h => exact .inr (.inr (.inr h))

theorem lineItems_congr {s t : State} (h : ∀ z : ZoneId, t.zones[z].track = s.zones[z].track) :
    t.lineItems = s.lineItems := by
  have h3 := h 3
  have h2 := h 2
  have h1 := h 1
  have h0 := h 0
  simp only [Fin.getElem_fin] at h3 h2 h1 h0
  unfold State.lineItems
  exact congrArg₂ _ (congrArg₂ _ (congrArg₂ _ h3 h2) h1) h0

@[simp] theorem lineItems_updateItem (s : State) (tag : Nat) (f : Item → Item) :
    (s.updateItem tag f).lineItems = s.lineItems.map fun i => if i.tag = tag then f i else i := by
  simp [State.lineItems, State.updateItem]

@[simp] theorem lineItems_removeItem (s : State) (tag : Nat) :
    (s.removeItem tag).lineItems = s.lineItems.filter fun i => i.tag != tag := by
  simp [State.lineItems, State.removeItem]

/-- R29: a record that joins the tail of a zone's list is one more in line. -/
theorem lineItems_appendItem (s : State) (z : ZoneId) (p : Nat) (i : Item) :
    (s.appendItem z p i).lineItems.Perm
      ({ i with zone := z, base := s.baseFor z p } :: s.lineItems) := by
  rw [List.perm_iff_count]
  intro j
  match z with
  | 0 | 1 | 2 | 3 =>
    simp [State.lineItems, State.appendItem, State.modifyZone, List.count_cons]
    omega

theorem findItem_eq_some {s : State} {tag : Nat} {i : Item} (h : s.findItem tag = some i) :
    i ∈ s.lineItems ∧ i.tag = tag :=
  ⟨List.mem_of_find?_eq_some h, by simpa using List.find?_some h⟩

theorem findItem_eq_none {s : State} {tag : Nat} : s.findItem tag = none ↔ tag ∉ s.lineTags := by
  simp [State.findItem, State.lineTags]

theorem holds_of_mem {s : State} {i : Item} (h : i ∈ s.lineItems) :
    s.Holds i.tag i.state i.assigned :=
  ⟨i, h, rfl, rfl, rfl⟩

theorem State.Holds.mem_lineTags {s : State} {x : Nat} {st : ItemState} {a : Option DiverterId}
    (h : s.Holds x st a) : x ∈ s.lineTags := by
  obtain ⟨i, hi, rfl, -⟩ := h
  exact List.mem_map_of_mem hi

/-! ### The laws, in the parts that the operations keep -/

/-- R23, R28, R36, R42: the laws of the records, their tags and the announcements. -/
structure PoolLaws (s : State) : Prop where
  free : s.freeRecords + s.lineTags.length = Config.itemRecords
  nodup : (s.announcements.map Announcement.tag ++ s.lineTags).Nodup
  hostTags : ∀ a ∈ s.announcements, 1 ≤ a.tag ∧ a.tag ≤ Config.lastHostTag
  room : s.announcements.length ≤ Config.announceCapacity
  positive : ∀ x ∈ s.lineTags, 1 ≤ x
  zone : ∀ z : ZoneId, ∀ i ∈ s.zones[z].track, i.zone = z
  anonymous : Config.firstAnonymousTag ≤ s.nextAnonymous ∧ s.nextAnonymous ≤ Config.lastTag

/-- R86, R116: the claim lists and the stroke slots say what the records say. While a record is
being assigned afresh, `loose` is its tag, and the claims on it are not settled. -/
structure ClaimLaws (s : State) (loose : Option Nat) : Prop where
  nodup : ∀ d : DiverterId, s.claims[d].Nodup
  claimed : ∀ (d : DiverterId) (x : Nat), loose ≠ some x →
    (x ∈ s.claims[d] ↔ s.Holds x .tracked (some d))
  slotted : ∀ (d : DiverterId) (x : Nat),
    s.diverters[d].slot = some x ↔ s.Holds x .diverting (some d)
  assigned : ∀ x, ¬ s.Holds x .diverting none

/-- R91: a diverter that is not in service has no claims. -/
def State.Served (s : State) (d : DiverterId) : Prop :=
  s.diverters[d].state.inService = false → s.claims[d] = []

/-- R116: a diverter that is not EXTENDING has an empty stroke slot. -/
def State.Struck (s : State) (d : DiverterId) : Prop :=
  s.diverters[d].state ≠ .extending → s.diverters[d].slot = none

/-- What a happening keeps of the records throughout, whatever state a diverter is just entering. -/
structure Booked (s : State) (loose : Option Nat) : Prop where
  pool : PoolLaws s
  claims : ClaimLaws s loose

/-- The record laws, in parts. -/
structure Lawful (s : State) : Prop where
  booked : Booked s none
  served : ∀ d, s.Served d
  struck : ∀ d, s.Struck d

theorem recordLaws_iff (s : State) : RecordLaws s ↔ Lawful s := by
  constructor
  · rintro ⟨free, nodup, hostTags, room, positive, zone, anonymous, claims, served, claimed,
      tracked, slotted, diverting⟩
    refine ⟨⟨⟨by simpa [State.lineTags] using free, nodup, hostTags, room,
      by simpa [State.lineTags] using positive, zone, anonymous⟩,
      ⟨claims, fun d x _ => ⟨claimed d x, ?_⟩, fun d x => ⟨fun h => (slotted d x h).2, ?_⟩, ?_⟩⟩,
      served, fun d hs => ?_⟩
    · rintro ⟨i, hi, rfl, hs, ha⟩
      exact tracked i hi hs d ha
    · rintro ⟨i, hi, rfl, hs, ha⟩
      obtain ⟨e, he, hslot⟩ := diverting i hi hs
      obtain rfl : d = e := Option.some.inj (ha.symm.trans he)
      exact hslot
    · rintro x ⟨i, hi, rfl, hs, ha⟩
      obtain ⟨e, he, -⟩ := diverting i hi hs
      rw [ha] at he
      cases he
    · exact Option.eq_none_iff_forall_ne_some.2 fun x hx => hs (slotted d x hx).1
  · rintro ⟨⟨⟨free, nodup, hostTags, room, positive, zone, anonymous⟩,
      ⟨claims, claimed, slotted, assigned⟩⟩, served, struck⟩
    refine ⟨by simpa [State.lineTags] using free, nodup, hostTags, room,
      by simpa [State.lineTags] using positive, zone, anonymous, claims, served,
      fun d x h => (claimed d x nofun).1 h, fun i hi hs d ha => ?_, fun d x h => ⟨?_, ?_⟩,
      fun i hi hs => ?_⟩
    · exact (claimed d i.tag nofun).2 ⟨i, hi, rfl, hs, ha⟩
    · by_contra hs
      rw [struck d hs] at h
      cases h
    · exact (slotted d x).1 h
    · cases ha : i.assigned with
      | none => exact absurd ⟨i, hi, rfl, hs, ha⟩ (assigned i.tag)
      | some d => exact ⟨d, rfl, (slotted d i.tag).2 ⟨i, hi, rfl, hs, ha⟩⟩

/-- R28: no two records carry one tag. -/
theorem PoolLaws.eq_of_tag {s : State} (h : PoolLaws s) {i j : Item} (hi : i ∈ s.lineItems)
    (hj : j ∈ s.lineItems) (ht : i.tag = j.tag) : i = j :=
  List.inj_on_of_nodup_map (List.nodup_append.1 h.nodup).2.1 hi hj ht

/-- R28: what is said of a record with the tag of `i` is said of `i`. -/
theorem PoolLaws.exists_tag_iff {s : State} (h : PoolLaws s) {i : Item} (hi : i ∈ s.lineItems)
    (P : Item → Prop) : (∃ j ∈ s.lineItems, j.tag = i.tag ∧ P j) ↔ P i := by
  constructor
  · rintro ⟨j, hj, ht, hp⟩
    exact h.eq_of_tag hj hi ht ▸ hp
  · exact fun hp => ⟨i, hi, rfl, hp⟩

theorem PoolLaws.holds_unique {s : State} (h : PoolLaws s) {x : Nat} {st st' : ItemState}
    {a a' : Option DiverterId} (hs : s.Holds x st a) (hs' : s.Holds x st' a') :
    st = st' ∧ a = a' := by
  obtain ⟨i, hi, hx, rfl, rfl⟩ := hs
  obtain ⟨j, hj, hx', rfl, rfl⟩ := hs'
  obtain rfl := h.eq_of_tag hi hj (hx.trans hx'.symm)
  exact ⟨rfl, rfl⟩

/-! ### What an update makes of the records -/

theorem holds_congr {s t : State} (h : t.lineItems = s.lineItems) (x : Nat) (st : ItemState)
    (a : Option DiverterId) : t.Holds x st a ↔ s.Holds x st a := by
  unfold State.Holds
  rw [h]

theorem holds_updateItem (s : State) (tag : Nat) (f : Item → Item) (hf : ∀ i, (f i).tag = i.tag)
    (x : Nat) (st : ItemState) (a : Option DiverterId) : (s.updateItem tag f).Holds x st a ↔
      if x = tag then ∃ i ∈ s.lineItems, i.tag = tag ∧ (f i).state = st ∧ (f i).assigned = a
      else s.Holds x st a := by
  have tags (i : Item) : (if i.tag = tag then f i else i).tag = i.tag := by split <;> simp [hf]
  simp only [State.Holds, lineItems_updateItem, List.mem_map, exists_exists_and_eq_and, tags]
  split
  · next h => exact exists_congr fun i => and_congr_right fun _ => by subst h; simp +contextual
  · next h =>
    refine exists_congr fun i => and_congr_right fun _ => and_congr_right fun hx => ?_
    rw [if_neg (hx ▸ h)]

/-- A change of a record that leaves it its part leaves every record its part. -/
theorem holds_updateItem_same (s : State) (tag : Nat) (f : Item → Item)
    (hf : ∀ i, (f i).tag = i.tag)
    (hr : ∀ i, (f i).state = i.state ∧ (f i).assigned = i.assigned)
    (x : Nat) (st : ItemState) (a : Option DiverterId) :
    (s.updateItem tag f).Holds x st a ↔ s.Holds x st a := by
  rw [holds_updateItem s tag f hf]
  split
  · next h => subst h; simp [State.Holds, hr]
  · rfl

theorem tracks_updateItem_same {s : State} {x : Nat} (h : s.Tracks x) (tag : Nat) {f : Item → Item}
    (hf : ∀ i, (f i).tag = i.tag)
    (hr : ∀ i, (f i).state = i.state ∧ (f i).assigned = i.assigned) :
    (s.updateItem tag f).Tracks x :=
  h.imp fun a ha => (holds_updateItem_same s tag f hf hr x .tracked a).2 ha

theorem holds_removeItem (s : State) (tag x : Nat) (st : ItemState) (a : Option DiverterId) :
    (s.removeItem tag).Holds x st a ↔ x ≠ tag ∧ s.Holds x st a := by
  simp only [State.Holds, lineItems_removeItem, List.mem_filter, bne_iff_ne]
  constructor
  · rintro ⟨i, ⟨hi, hne⟩, rfl, h⟩
    exact ⟨hne, i, hi, rfl, h⟩
  · rintro ⟨hne, i, hi, rfl, h⟩
    exact ⟨i, ⟨hi, hne⟩, rfl, h⟩

theorem holds_appendItem (s : State) (z : ZoneId) (p : Nat) (i : Item) (x : Nat) (st : ItemState)
    (a : Option DiverterId) : (s.appendItem z p i).Holds x st a ↔
      i.tag = x ∧ i.state = st ∧ i.assigned = a ∨ s.Holds x st a := by
  simp only [State.Holds, (lineItems_appendItem s z p i).mem_iff, List.exists_mem_cons_iff]

@[simp] theorem lineTags_removeItem (s : State) (tag : Nat) :
    (s.removeItem tag).lineTags = s.lineTags.filter fun x => x != tag := by
  simp [State.lineTags, List.filter_map, Function.comp_def]

theorem lineTags_updateItem (s : State) (tag : Nat) (f : Item → Item)
    (hf : ∀ i, (f i).tag = i.tag) : (s.updateItem tag f).lineTags = s.lineTags := by
  simp only [State.lineTags, lineItems_updateItem, List.map_map]
  refine List.map_congr_left fun i _ => ?_
  simp only [Function.comp_apply]
  split <;> simp [hf]

theorem mem_lineTags_updateItem {s : State} {x : Nat} (tag : Nat) {f : Item → Item}
    (hf : ∀ i, (f i).tag = i.tag) (h : x ∈ s.lineTags) : x ∈ (s.updateItem tag f).lineTags := by
  rwa [lineTags_updateItem s tag f hf]

theorem lineTags_appendItem (s : State) (z : ZoneId) (p : Nat) (i : Item) :
    (s.appendItem z p i).lineTags.Perm (i.tag :: s.lineTags) :=
  (lineItems_appendItem s z p i).map Item.tag

/-- Records that are only moved about in line keep the laws of the pool. -/
theorem PoolLaws.of_perm {s t : State} (h : PoolLaws s) (hf : t.freeRecords = s.freeRecords)
    (hn : t.nextAnonymous = s.nextAnonymous) (ha : t.announcements = s.announcements)
    (ht : t.lineTags.Perm s.lineTags) (hz : ∀ z : ZoneId, ∀ i ∈ t.zones[z].track, i.zone = z) :
    PoolLaws t := by
  obtain ⟨free, nodup, hostTags, room, positive, -, anonymous⟩ := h
  exact ⟨by rw [hf, ht.length_eq, free], by rw [ha]; exact (ht.append_left _).nodup_iff.2 nodup,
    ha ▸ hostTags, ha ▸ room, fun x hx => positive x (ht.mem_iff.1 hx), hz, hn ▸ anonymous⟩

theorem PoolLaws.of_track {s t : State} (h : PoolLaws s) (hf : t.freeRecords = s.freeRecords)
    (hn : t.nextAnonymous = s.nextAnonymous) (ha : t.announcements = s.announcements)
    (hz : ∀ z : ZoneId, t.zones[z].track = s.zones[z].track) : PoolLaws t :=
  h.of_perm hf hn ha (.of_eq (congrArg (List.map Item.tag) (lineItems_congr hz)))
    fun z => hz z ▸ h.zone z

theorem modifyDiverter_diverter (s : State) (d e : DiverterId) (f : Diverter → Diverter) :
    (s.modifyDiverter d f).diverters[e] = if d = e then f s.diverters[d] else s.diverters[e] := by
  rw [State.modifyDiverter_diverters, getElem_set_fin]

/-! ### Updates that the laws do not see -/

/-- All that the record laws read beside the track lists. -/
def State.register (s : State) :
    Nat × Nat × List Announcement × Vector (List Nat) 16 × Vector (DiverterState × Option Nat) 16 :=
  (s.freeRecords, s.nextAnonymous, s.announcements, s.claims,
    s.diverters.map fun u => (u.state, u.slot))

/-- `t` has the records, claims and slots of `s`. -/
structure SameRecords (s t : State) : Prop where
  register : t.register = s.register
  track (z : ZoneId) : t.zones[z].track = s.zones[z].track

theorem SameRecords.refl (s : State) : SameRecords s s := ⟨rfl, fun _ => rfl⟩

theorem SameRecords.trans {s t u : State} (h : SameRecords s t) (k : SameRecords t u) :
    SameRecords s u :=
  ⟨k.register.trans h.register, fun z => (k.track z).trans (h.track z)⟩

theorem SameRecords.diverter {s t : State} (h : SameRecords s t) (d : DiverterId) :
    t.diverters[d].state = s.diverters[d].state ∧ t.diverters[d].slot = s.diverters[d].slot := by
  have hd : (t.diverters.map fun u => (u.state, u.slot))[d] =
      (s.diverters.map fun u => (u.state, u.slot))[d] := by
    rw [show t.diverters.map _ = s.diverters.map _ from congrArg (fun r => r.2.2.2.2) h.register]
  simpa using hd

theorem PoolLaws.same {s t : State} (h : PoolLaws s) (k : SameRecords s t) : PoolLaws t := by
  have hr := k.register
  simp only [State.register, Prod.mk.injEq] at hr
  obtain ⟨hf, hn, ha, -, -⟩ := hr
  exact h.of_track hf hn ha k.track

theorem ClaimLaws.same {s t : State} {loose : Option Nat} (h : ClaimLaws s loose)
    (k : SameRecords s t) : ClaimLaws t loose := by
  have holds := holds_congr (lineItems_congr k.track)
  have hc : t.claims = s.claims := congrArg (fun r => r.2.2.2.1) k.register
  obtain ⟨nodup, claimed, slotted, assigned⟩ := h
  exact ⟨hc ▸ nodup, fun d x hx => by rw [hc, holds]; exact claimed d x hx,
    fun d x => by rw [(k.diverter d).2, holds]; exact slotted d x,
    fun x => by rw [holds]; exact assigned x⟩

theorem Booked.same {s t : State} {loose : Option Nat} (h : Booked s loose) (k : SameRecords s t) :
    Booked t loose := ⟨h.pool.same k, h.claims.same k⟩

/-! ### Diverters in and out of service -/

/-- From `s` to `t` no diverter comes by a claim out of service, or by an item without a stroke. -/
structure Attends (s t : State) : Prop where
  served (d : DiverterId) : s.Served d → t.Served d
  struck (d : DiverterId) : s.Struck d → t.Struck d

theorem Attends.refl (s : State) : Attends s s := ⟨fun _ => id, fun _ => id⟩

theorem Attends.trans {s t u : State} (h : Attends s t) (k : Attends t u) : Attends s u :=
  ⟨fun d hs => k.served d (h.served d hs), fun d hs => k.struck d (h.struck d hs)⟩

theorem Attends.same {s t : State} (k : SameRecords s t) : Attends s t := by
  have hc : t.claims = s.claims := congrArg (fun r => r.2.2.2.1) k.register
  refine ⟨fun d h => ?_, fun d h => ?_⟩
  · simp only [State.Served, (k.diverter d).1, hc]
    exact h
  · simp only [State.Struck, (k.diverter d).1, (k.diverter d).2]
    exact h

/-- Nothing of what the laws say of a diverter is touched. -/
theorem Attends.of_eq {s t : State} (hc : t.claims = s.claims) (hd : t.diverters = s.diverters) :
    Attends s t := by
  refine ⟨fun d h => ?_, fun d h => ?_⟩
  · unfold State.Served
    rw [hc, hd]
    exact h
  · unfold State.Struck
    rw [hd]
    exact h

theorem Lawful.of_booked {s t : State} (h : Lawful s) (hb : Booked t none) (ha : Attends s t) :
    Lawful t := ⟨hb, fun d => ha.served d (h.served d), fun d => ha.struck d (h.struck d)⟩

theorem Lawful.same {s t : State} (h : Lawful s) (k : SameRecords s t) : Lawful t :=
  h.of_booked (h.booked.same k) (.same k)

/-! ### Shared operations that the laws do not see -/

theorem SameRecords.of_zones {s t : State} (hr : t.register = s.register) (hz : t.zones = s.zones) :
    SameRecords s t := ⟨hr, fun z => by rw [hz]⟩

theorem post_same (s : State) (r : Report) : SameRecords s (s.post r) := .of_zones rfl rfl

theorem count_same (s : State) (f : Counters → Counters) : SameRecords s (s.count f) :=
  .of_zones rfl rfl

theorem readHome_same (s : State) (d : DiverterId) : SameRecords s (s.readHome d) := by
  rw [State.readHome_frame]
  exact .of_zones rfl rfl

theorem mapZones_same (s : State) (f : ZoneId → ZoneUnit → ZoneUnit)
    (h : ∀ z u, (f z u).track = u.track) : SameRecords s (s.mapZones f) :=
  ⟨rfl, fun z => by simp [h]⟩

theorem modifyReasons_same (s : State) (z : ZoneId) (f : Reasons → Reasons) :
    SameRecords s (s.modifyReasons z f) :=
  ⟨rfl, fun y => by rw [modifyReasons_zone]⟩

theorem raiseCount_same (s : State) (z : ZoneId) : SameRecords s (s.raiseCount z) :=
  ⟨rfl, fun y => by rw [raiseCount_zone]⟩

theorem foldl_same {α : Type} (f : State → α → State) (h : ∀ s a, SameRecords s (f s a))
    (l : List α) (s : State) : SameRecords s (l.foldl f s) := by
  induction l generalizing s with
  | nil => exact .refl s
  | cons a l ih => exact (h s a).trans (ih _)

/-! ### The pool -/

theorem PoolLaws.updateItem {s : State} (h : PoolLaws s) (tag : Nat) (f : Item → Item)
    (hf : ∀ i, (f i).tag = i.tag) (hz : ∀ i, (f i).zone = i.zone) :
    PoolLaws (s.updateItem tag f) := by
  refine h.of_perm rfl rfl rfl (.of_eq (lineTags_updateItem s tag f hf)) fun z i hi => ?_
  simp only [State.updateItem, State.mapZones_zones, Fin.getElem_fin, Vector.getElem_ofFn,
    List.mem_map] at hi
  obtain ⟨j, hj, rfl⟩ := hi
  have := h.zone z j hj
  split <;> simp [hz, this]

/-- R34: a record taken out of line is free. -/
theorem PoolLaws.removeItem {s : State} (h : PoolLaws s) {tag : Nat} (ht : tag ∈ s.lineTags) :
    PoolLaws { s.removeItem tag with freeRecords := s.freeRecords + 1 } := by
  obtain ⟨free, nodup, hostTags, room, positive, zone, anonymous⟩ := h
  have tags : (State.lineTags { s.removeItem tag with freeRecords := s.freeRecords + 1 }) =
      s.lineTags.erase tag := by
    rw [(List.nodup_append.1 nodup).2.1.erase_eq_filter]
    exact lineTags_removeItem s tag
  have sub := List.erase_sublist (a := tag) (l := s.lineTags)
  refine ⟨?_, by rw [tags]; exact nodup.sublist (sub.append_left _), hostTags, room,
    fun x hx => positive x (sub.subset (tags ▸ hx)), fun z i hi => ?_, anonymous⟩
  · have := List.length_pos_of_mem ht
    rw [tags, List.length_erase_of_mem ht]
    dsimp only
    omega
  · simp only [State.removeItem, State.mapZones_zones, Fin.getElem_fin, Vector.getElem_ofFn] at hi
    exact zone z i (List.mem_of_mem_filter hi)

/-- R24, R54: a free record, with a tag that nothing holds, put in line. -/
theorem PoolLaws.appendItem {s : State} (h : PoolLaws { s with freeRecords := s.freeRecords + 1 })
    (z : ZoneId) (p : Nat) {i : Item} (hi : i.tag ∉ s.heldTags) (h1 : 1 ≤ i.tag) :
    PoolLaws (s.appendItem z p i) := by
  obtain ⟨free, nodup, hostTags, room, positive, zone, anonymous⟩ := h
  have tags := lineTags_appendItem s z p i
  have held : ((s.announcements.map Announcement.tag) ++ i.tag :: s.lineTags).Nodup :=
    List.nodup_middle.2 (List.nodup_cons.2 ⟨hi, nodup⟩)
  refine ⟨?_, (tags.append_left _).nodup_iff.2 held, hostTags, room, fun x hx => ?_,
    fun y j hj => ?_, anonymous⟩
  · have all : s.freeRecords + 1 + s.lineTags.length = Config.itemRecords := free
    rw [tags.length_eq, List.length_cons, ← all, State.appendItem_freeRecords]
    omega
  · rcases List.mem_cons.1 (tags.mem_iff.1 hx) with rfl | hx
    exacts [h1, positive x hx]
  · simp only [State.appendItem, State.modifyZone_zones, getElem_set_fin] at hj
    split at hj
    · next e =>
      rcases List.mem_append.1 hj with hj | hj
      · exact e ▸ zone z j hj
      · obtain rfl := List.mem_singleton.1 hj
        exact e
    · exact zone y j hj

/-! ### Records changed where they stand -/

/-- Records that keep their parts keep the claims and the slots. -/
theorem ClaimLaws.of_holds {s t : State} {loose : Option Nat} (h : ClaimLaws s loose)
    (hh : ∀ x st a, st = .diverting ∨ a ≠ none → (t.Holds x st a ↔ s.Holds x st a))
    (hc : t.claims = s.claims) (hd : ∀ d : DiverterId, t.diverters[d].slot = s.diverters[d].slot) :
    ClaimLaws t loose := by
  obtain ⟨nodup, claimed, slotted, assigned⟩ := h
  exact ⟨hc ▸ nodup, fun d x hx => by rw [hc, hh _ _ _ (.inr (by simp))]; exact claimed d x hx,
    fun d x => by rw [hd, hh _ _ _ (.inl rfl)]; exact slotted d x,
    fun x => by rw [hh _ _ _ (.inl rfl)]; exact assigned x⟩

/-- A record changed in nothing that the laws read. -/
theorem Booked.updateItem {s : State} {loose : Option Nat} (h : Booked s loose) (tag : Nat)
    (f : Item → Item) (ht : ∀ i, (f i).tag = i.tag) (hz : ∀ i, (f i).zone = i.zone)
    (hr : ∀ i, (f i).state = i.state ∧ (f i).assigned = i.assigned) :
    Booked (s.updateItem tag f) loose :=
  ⟨h.pool.updateItem tag f ht hz,
    h.claims.of_holds (fun x st a _ => holds_updateItem_same s tag f ht hr x st a) rfl fun _ => rfl⟩

theorem Lawful.updateItem {s : State} (h : Lawful s) (tag : Nat) (f : Item → Item)
    (ht : ∀ i, (f i).tag = i.tag) (hz : ∀ i, (f i).zone = i.zone)
    (hr : ∀ i, (f i).state = i.state ∧ (f i).assigned = i.assigned) :
    Lawful (s.updateItem tag f) :=
  h.of_booked (h.booked.updateItem tag f ht hz hr) (.of_eq rfl rfl)

theorem Lawful.markAtRisk {s : State} (h : Lawful s) (tag : Nat) :
    Lawful (s.updateItem tag Item.markAtRisk) :=
  h.updateItem tag _ (fun _ => rfl) (fun _ => rfl) fun _ => ⟨rfl, rfl⟩

/-- A diverter's change that leaves its slot. -/
theorem Booked.modifyDiverter {s : State} {loose : Option Nat} (h : Booked s loose) (d : DiverterId)
    (f : Diverter → Diverter) (hf : (f s.diverters[d]).slot = s.diverters[d].slot) :
    Booked (s.modifyDiverter d f) loose := by
  refine ⟨h.pool.of_perm rfl rfl rfl (.refl _) h.pool.zone,
    h.claims.of_holds (fun _ _ _ _ => .rfl) rfl fun e => ?_⟩
  rw [modifyDiverter_diverter]
  split
  · next e => exact e ▸ hf
  · rfl

theorem modifyDiverter_served {s : State} {d e : DiverterId} {f : Diverter → Diverter}
    (h : s.Served e) (hd : e = d → (f s.diverters[d]).state.inService = false → s.claims[d] = []) :
    (s.modifyDiverter d f).Served e := by
  unfold State.Served
  rw [modifyDiverter_diverter]
  split
  · next he => subst he; exact hd rfl
  · exact h

theorem modifyDiverter_struck {s : State} {d e : DiverterId} {f : Diverter → Diverter}
    (h : s.Struck e)
    (hd : e = d → (f s.diverters[d]).state ≠ .extending → (f s.diverters[d]).slot = none) :
    (s.modifyDiverter d f).Struck e := by
  unfold State.Struck
  rw [modifyDiverter_diverter]
  split
  · next he => subst he; exact hd rfl
  · exact h

/-- A diverter's change that leaves its slot, and leaves nothing behind in it nor in its claims. -/
theorem Lawful.modifyDiverter {s : State} (h : Lawful s) (d : DiverterId) (f : Diverter → Diverter)
    (hf : (f s.diverters[d]).slot = s.diverters[d].slot)
    (hserved : (f s.diverters[d]).state.inService = false → s.claims[d] = [])
    (hstruck : s.diverters[d].slot = none) : Lawful (s.modifyDiverter d f) :=
  ⟨h.booked.modifyDiverter d f hf, fun e => modifyDiverter_served (h.served e) fun _ => hserved,
    fun e => modifyDiverter_struck (h.struck e) fun _ _ => hf.trans hstruck⟩

/-! ### Release (R34) -/

theorem release_track (s : State) (tag : Nat) (z : ZoneId) :
    (s.release tag).zones[z].track = (s.removeItem tag).zones[z].track := by
  simp only [State.release, State.evaluatePoolLow, modifyReasons_zone]

theorem release_claim (s : State) (tag : Nat) (d : DiverterId) :
    (s.release tag).claims[d] = s.claims[d].filter fun x => x != tag := by simp

theorem release_diverter (s : State) (tag : Nat) (d : DiverterId) :
    (s.release tag).diverters[d] = { s.diverters[d] with
      slot := if s.diverters[d].slot = some tag then none else s.diverters[d].slot } := by
  simp [State.release]

theorem ClaimLaws.release {s : State} (h : ClaimLaws s none) (tag : Nat) :
    ClaimLaws (s.release tag) none := by
  have holds (x st a) : (s.release tag).Holds x st a ↔ x ≠ tag ∧ s.Holds x st a := by
    rw [← holds_removeItem]
    exact holds_congr (lineItems_congr (release_track s tag)) x st a
  obtain ⟨nodup, claimed, slotted, assigned⟩ := h
  refine ⟨fun d => ?_, fun d x hx => ?_, fun d x => ?_, fun x hx => assigned x ((holds ..).1 hx).2⟩
  · rw [release_claim]
    exact (nodup d).filter _
  · rw [holds, ← claimed d x hx, release_claim, List.mem_filter, bne_iff_ne, and_comm]
  · rw [holds, ← slotted d x, release_diverter]
    dsimp only
    split
    · next hs => exact ⟨nofun, fun ⟨hx, he⟩ => absurd (Option.some.inj (he.symm.trans hs)) hx⟩
    · next hs => exact ⟨fun he => ⟨fun hx => hs (hx ▸ he), he⟩, And.right⟩

theorem release_attends (s : State) (tag : Nat) : Attends s (s.release tag) := by
  refine ⟨fun d h hs => ?_, fun d h hs => ?_⟩ <;> rw [release_diverter] at *
  · rw [release_claim, h hs]
    rfl
  · dsimp only
    rw [h hs]
    split <;> rfl

theorem PoolLaws.release {s : State} (h : PoolLaws s) {tag : Nat} (ht : tag ∈ s.lineTags) :
    PoolLaws (s.release tag) :=
  (h.removeItem ht).of_track rfl rfl rfl (release_track s tag)

theorem Booked.release {s : State} (h : Booked s none) {tag : Nat} (ht : tag ∈ s.lineTags) :
    Booked (s.release tag) none := ⟨h.pool.release ht, h.claims.release tag⟩

theorem Lawful.release {s : State} (h : Lawful s) {tag : Nat} (ht : tag ∈ s.lineTags) :
    Lawful (s.release tag) := h.of_booked (h.booked.release ht) (release_attends s tag)

theorem Lawful.lose {s : State} (h : Lawful s) {tag : Nat} (ht : tag ∈ s.lineTags) (z : ZoneId)
    (e : Option EyeId) (cause : LostCause) : Lawful (s.lose tag z e cause) :=
  ((h.same (post_same s _)).same (count_same _ _)).release ht

/-! ### Assignment (R85, R87) -/

theorem insertClaim_perm (s : State) (i : Item) (l : List Nat) :
    (s.insertClaim i l).Perm (i.tag :: l) := by
  induction l with
  | nil => exact .refl _
  | cons x l ih =>
    unfold State.insertClaim
    split
    · exact .refl _
    · exact (ih.cons x).trans (.swap ..)

theorem mem_claimLists (s : State) (i : Item) (new : Option DiverterId) (d : DiverterId) (x : Nat) :
    x ∈ (s.claimLists i new)[d] ↔ if x = i.tag then new = some d else x ∈ s.claims[d] := by
  simp only [State.claimLists, Fin.getElem_fin, Vector.getElem_ofFn, Fin.eta]
  split
  · next hn =>
    split
    · next hi => split <;> simp_all
    · rw [(insertClaim_perm s i _).mem_iff, List.mem_cons]
      split <;> simp_all
  · next hn =>
    rw [List.mem_filter]
    split <;> simp_all

theorem claimLists_nodup {s : State} (i : Item) (new : Option DiverterId) {d : DiverterId}
    (h : s.claims[d].Nodup) : (s.claimLists i new)[d].Nodup := by
  simp only [State.claimLists, Fin.getElem_fin, Vector.getElem_ofFn]
  split
  · split
    · exact h
    · next hi => exact (insertClaim_perm s i _).nodup_iff.2 (List.nodup_cons.2 ⟨hi, h⟩)
  · exact h.filter _

/-- R85: the assignment of the record with a tag is written; every other record keeps its part. -/
theorem holds_writeClaim {s : State} (h : PoolLaws s) {i : Item} (hi : i ∈ s.lineItems)
    (new : Option DiverterId) (x : Nat) (st : ItemState) (a : Option DiverterId) :
    (s.writeClaim i new).Holds x st a ↔
      if x = i.tag then i.state = st ∧ new = a else s.Holds x st a := by
  have line : (s.writeClaim i new).lineItems =
      (s.updateItem i.tag fun j => { j with assigned := new }).lineItems :=
    lineItems_congr fun _ => rfl
  rw [holds_congr line, holds_updateItem _ i.tag (fun j => { j with assigned := new }) fun _ => rfl]
  split
  · exact h.exists_tag_iff hi fun j => j.state = st ∧ new = a
  · rfl

theorem Booked.writeClaim {s : State} {i : Item} (h : Booked s (some i.tag)) (hi : i ∈ s.lineItems)
    (hs : i.state = .tracked) (new : Option DiverterId) : Booked (s.writeClaim i new) none := by
  have pool : PoolLaws (s.updateItem i.tag fun j => { j with assigned := new }) :=
    h.pool.updateItem i.tag _ (fun _ => rfl) fun _ => rfl
  have no {a} : ¬ s.Holds i.tag .diverting a := fun hx => by
    have := (h.pool.holds_unique hx (holds_of_mem hi)).1
    rw [hs] at this
    cases this
  have holds := holds_writeClaim h.pool hi new
  obtain ⟨nodup, claimed, slotted, assigned⟩ := h.claims
  refine ⟨pool.of_track rfl rfl rfl fun _ => rfl, fun d => claimLists_nodup i new (nodup d),
    fun d x _ => ?_, fun d x => ?_, fun x => ?_⟩
  · rw [State.writeClaim_claims, mem_claimLists, holds]
    split
    · simp [hs]
    · next hx => exact claimed d x fun e => hx (Option.some.inj e).symm
  · rw [State.writeClaim_diverters, holds, slotted]
    split
    · next hx => subst hx; simp [hs, no]
    · rfl
  · rw [holds]
    split
    · simp [hs]
    · exact assigned x

theorem Booked.loosen {s : State} (h : Booked s none) (tag : Nat) : Booked s (some tag) :=
  ⟨h.pool, h.claims.nodup, fun d x _ => h.claims.claimed d x nofun, h.claims.slotted,
    h.claims.assigned⟩

/-- R85, R87: a TRACKED record assigned afresh settles its claims. -/
theorem Booked.reassign {s : State} {tag : Nat} (h : Booked s (some tag)) (ht : s.Tracks tag)
    (excluded : Option DiverterId) : Booked (s.reassign tag excluded).1 none := by
  obtain ⟨a, hx⟩ := ht
  rcases reassign_cases s tag excluded with ⟨hn, -⟩ | ⟨i, hf, hr⟩
  · exact absurd hx.mem_lineTags (findItem_eq_none.1 hn)
  · obtain ⟨hi, rfl⟩ := findItem_eq_some hf
    rw [hr]
    exact h.writeClaim hi (h.pool.holds_unique hx (holds_of_mem hi)).1.symm _

/-- R83, R84: only a diverter in service comes by a claim. -/
theorem reassign_attends (s : State) (tag : Nat) (excluded : Option DiverterId) :
    Attends s (s.reassign tag excluded).1 := by
  rcases reassign_cases s tag excluded with ⟨-, hr⟩ | ⟨i, hf, hr⟩ <;> rw [hr]
  · exact .refl s
  · refine ⟨fun d h hs => List.eq_nil_iff_forall_not_mem.2 fun x hx => ?_, fun d h => h⟩
    rw [State.writeClaim_claims, mem_claimLists] at hx
    split at hx
    · have hc := (assignment_claimable hx).2
      unfold State.claimable at hc
      have out : s.diverters[d].state.inService = false := hs
      split at hc
      · cases hc
      · rw [out] at hc
        cases hc
    · rw [h hs] at hx
      cases hx

theorem reassign_tracks {s : State} (h : PoolLaws s) {x : Nat} (hx : s.Tracks x) (tag : Nat)
    (excluded : Option DiverterId) : (s.reassign tag excluded).1.Tracks x := by
  obtain ⟨a, hx⟩ := hx
  rcases reassign_cases s tag excluded with ⟨-, hr⟩ | ⟨i, hf, hr⟩ <;> rw [hr]
  · exact ⟨a, hx⟩
  · obtain ⟨hi, rfl⟩ := findItem_eq_some hf
    by_cases he : x = i.tag
    · subst he
      have hs := (h.holds_unique hx (holds_of_mem hi)).1
      exact ⟨_, (holds_writeClaim h hi _ ..).2 (by rw [if_pos rfl]; exact ⟨hs.symm, rfl⟩)⟩
    · exact ⟨a, (holds_writeClaim h hi _ ..).2 (by rwa [if_neg he])⟩

/-- R85: the excluded diverter loses the record's claim and gains none. -/
theorem reassign_excluded {s : State} {tag x : Nat} {d : DiverterId} (ht : s.Tracks tag)
    (hx : x ∈ (s.reassign tag (some d)).1.claims[d]) : x ≠ tag ∧ x ∈ s.claims[d] := by
  obtain ⟨a, ht⟩ := ht
  rcases reassign_cases s tag (some d) with ⟨hn, -⟩ | ⟨i, hf, hr⟩
  · exact absurd ht.mem_lineTags (findItem_eq_none.1 hn)
  · obtain ⟨-, rfl⟩ := findItem_eq_some hf
    rw [hr, State.writeClaim_claims, mem_claimLists] at hx
    split at hx
    · exact absurd rfl (assignment_claimable hx).1
    · next he => exact ⟨he, hx⟩

theorem Lawful.reassign {s : State} (h : Lawful s) {tag : Nat} (ht : s.Tracks tag)
    (excluded : Option DiverterId) : Lawful (s.reassign tag excluded).1 :=
  h.of_booked ((h.booked.loosen tag).reassign ht excluded) (reassign_attends s tag excluded)

/-! ### A diverter that leaves service (R91, R117) -/

/-- R91 steps 1 to 3: the claims on a diverter are moved one by one. -/
theorem moveClaims_spec (d : DiverterId) (tags : List Nat) (s : State) (h : Booked s none)
    (ht : ∀ x ∈ tags, s.Tracks x) (hc : ∀ x ∈ s.claims[d], x ∈ tags) :
    Booked (tags.foldl (State.moveClaim d) s) none ∧
      Attends s (tags.foldl (State.moveClaim d) s) ∧
      (tags.foldl (State.moveClaim d) s).claims[d] = [] := by
  induction tags generalizing s with
  | nil => exact ⟨h, .refl s, List.eq_nil_iff_forall_not_mem.2 fun x hx => nomatch hc x hx⟩
  | cons tag tags ih =>
    have tracked := ht tag List.mem_cons_self
    have same := post_same (s.reassign tag (some d)).1
      (.claimMoved tag d (s.reassign tag (some d)).2)
    have booked := ((h.loosen tag).reassign tracked (some d)).same same
    obtain ⟨hb, ha, he⟩ := ih (s.moveClaim d tag) booked
      (fun x hx => reassign_tracks h.pool (ht x (List.mem_cons_of_mem _ hx)) tag (some d))
      fun x hx => by
        obtain ⟨hne, hx⟩ := reassign_excluded tracked hx
        exact (List.mem_cons.1 (hc x hx)).resolve_left hne
    exact ⟨hb, ((reassign_attends s tag (some d)).trans (.same same)).trans ha, he⟩

/-- R91: a re-evaluation leaves the diverter's claim list empty. -/
theorem reevaluate_spec {s : State} (h : Booked s none) (d : DiverterId) :
    Booked (s.reevaluate d) none ∧ Attends s (s.reevaluate d) ∧ (s.reevaluate d).claims[d] = [] :=
  moveClaims_spec d s.claims[d] s h (fun x hx => ⟨_, (h.claims.claimed d x nofun).1 hx⟩)
    fun _ hx => hx

theorem slotEmptied_slot (s : State) (d e : DiverterId) (tag : Nat) :
    (s.slotEmptied d tag).diverters[e].slot = if d = e then none else s.diverters[e].slot := by
  rw [State.slotEmptied, State.updateItem_diverters, modifyDiverter_diverter]
  split <;> rfl

/-- R117: the record in a stroke slot is TRACKED again. -/
theorem holds_slotEmptied {s : State} (h : PoolLaws s) {d : DiverterId} {tag : Nat}
    (ht : s.Holds tag .diverting (some d)) (x : Nat) (st : ItemState) (a : Option DiverterId) :
    (s.slotEmptied d tag).Holds x st a ↔
      if x = tag then .tracked = st ∧ some d = a else s.Holds x st a := by
  have own : (∃ i ∈ (s.modifyDiverter d fun u => { u with slot := none }).lineItems, i.tag = tag ∧
      (s.backOnLine i).state = st ∧ (s.backOnLine i).assigned = a) ↔
        .tracked = st ∧ some d = a := by
    obtain ⟨i, hi, rfl, -, ha⟩ := ht
    rw [← ha]
    exact h.exists_tag_iff hi fun i => (s.backOnLine i).state = st ∧ i.assigned = a
  rw [← own]
  exact holds_updateItem _ tag s.backOnLine (fun _ => rfl) x st a

theorem Booked.slotEmptied {s : State} (h : Booked s none) {d : DiverterId} {tag : Nat}
    (hd : s.diverters[d].slot = some tag) : Booked (s.slotEmptied d tag) (some tag) := by
  have ht := (h.claims.slotted d tag).1 hd
  have holds := holds_slotEmptied h.pool ht
  have pool : PoolLaws (s.modifyDiverter d fun u => { u with slot := none }) :=
    h.pool.of_track rfl rfl rfl fun _ => rfl
  obtain ⟨nodup, claimed, slotted, assigned⟩ := h.claims
  refine ⟨pool.updateItem tag _ (fun _ => rfl) fun _ => rfl, nodup, fun e x hx => ?_, fun e x => ?_,
    fun x => ?_⟩
  · rw [holds, if_neg fun he => hx (congrArg some he.symm)]
    exact claimed e x nofun
  · rw [holds, slotEmptied_slot]
    split
    · next he =>
      subst he
      split
      · simp
      · next hx => rw [← slotted, hd]; simp [Ne.symm hx]
    · next he =>
      split
      · next hx =>
        subst hx
        refine iff_of_false (fun hs => he ?_) (by simp)
        exact Option.some.inj (h.pool.holds_unique ht ((slotted e x).1 hs)).2
      · exact slotted e x
  · rw [holds]
    split
    · simp
    · exact assigned x

theorem slotEmptied_attends (s : State) (d : DiverterId) (tag : Nat) :
    Attends s (s.slotEmptied d tag) := by
  have state (e : DiverterId) :
      (s.slotEmptied d tag).diverters[e].state = s.diverters[e].state := by
    rw [State.slotEmptied, State.updateItem_diverters, modifyDiverter_diverter]
    split
    · next he => exact he ▸ rfl
    · rfl
  refine ⟨fun e h hs => h (state e ▸ hs), fun e h hs => ?_⟩
  rw [slotEmptied_slot, h (state e ▸ hs), ite_self]

theorem returnItem_slot (s : State) (d e : DiverterId) (cause : MissCause) :
    (s.returnItem d cause).diverters[e].slot = if d = e then none else s.diverters[e].slot := by
  rcases returnItem_cases d cause s with ⟨hs, h⟩ | ⟨tag, -, h⟩ <;> rw [h]
  · split
    · next he => exact he ▸ hs
    · rfl
  · rw [State.post_diverters, reassign_frame, slotEmptied_slot]

/-- R117: a return from a stroke slot, whatever state the diverter is in. -/
theorem returnItem_spec {s : State} (h : Booked s none) (d : DiverterId) (cause : MissCause) :
    Booked (s.returnItem d cause) none ∧ Attends s (s.returnItem d cause) := by
  rcases returnItem_cases d cause s with ⟨-, hr⟩ | ⟨tag, hs, hr⟩ <;> rw [hr]
  · exact ⟨h, .refl s⟩
  · have tracked : (s.slotEmptied d tag).Tracks tag :=
      ⟨some d, (holds_slotEmptied h.pool ((h.claims.slotted d tag).1 hs) ..).2 (by simp)⟩
    have same := post_same ((s.slotEmptied d tag).reassign tag (some d)).1
      (.missedDivert tag d cause ((s.slotEmptied d tag).reassign tag (some d)).2)
    exact ⟨((h.slotEmptied hs).reassign tracked (some d)).same same,
      ((slotEmptied_attends s d tag).trans (reassign_attends ..)).trans (.same same)⟩

/-! ### Diverters -/

/-- R91, R117: a diverter that has left service, or was out of it, gives up its item and its
claims. -/
theorem leaveService_lawful {s : State} (h : Booked s none) {d : DiverterId}
    (hserved : ∀ e, e ≠ d → s.Served e) (hstruck : ∀ e, e ≠ d → s.Struck e) (cause : MissCause)
    (inService : Bool) (hin : inService = false → s.claims[d] = []) :
    Lawful (if inService then (s.returnItem d cause).reevaluate d else s.returnItem d cause) := by
  obtain ⟨hb, ha⟩ := returnItem_spec h d cause
  have struck (e : DiverterId) : (s.returnItem d cause).Struck e := by
    by_cases he : e = d
    · exact fun _ => by rw [returnItem_slot, if_pos he.symm]
    · exact ha.struck e (hstruck e he)
  cases inService with
  | false =>
    refine ⟨hb, fun e => ha.served e ?_, struck⟩
    by_cases he : e = d
    · exact fun _ => he ▸ hin rfl
    · exact hserved e he
  | true =>
    obtain ⟨hr, hra, hc⟩ := reevaluate_spec hb d
    refine ⟨hr, fun e => ?_, fun e => hra.struck e (struck e)⟩
    by_cases he : e = d
    · exact fun _ => he ▸ hc
    · exact hra.served e (ha.served e (hserved e he))

theorem enterFault_lawful {s : State} (h : Lawful s) (d : DiverterId) (cause : DiverterCause) :
    Lawful (s.enterFault d cause) := by
  have same := post_same (s.modifyDiverter d fun u =>
    { u with state := .fault, timer := none, testMark := false }) (.diverterChange d .fault cause)
  refine leaveService_lawful ((h.booked.modifyDiverter d _ rfl).same same)
    (fun e he => (Attends.same same).served e ?_) (fun e he => (Attends.same same).struck e ?_)
    .strokeFault _ (h.served d)
  · exact modifyDiverter_served (h.served e) fun hd => absurd hd he
  · exact modifyDiverter_struck (h.struck e) fun hd => absurd hd he

theorem disableDiverter_lawful {s : State} (h : Lawful s) (d : DiverterId) :
    Lawful (s.disableDiverter d) := by
  unfold State.disableDiverter
  split
  · exact h
  · refine leaveService_lawful (h.booked.modifyDiverter d _ rfl) (fun e he => ?_) (fun e he => ?_)
      .disabled _ (h.served d)
    · exact modifyDiverter_served (h.served e) fun hd => absurd hd he
    · exact modifyDiverter_struck (h.struck e) fun hd => absurd hd he

/-- R100: a diverter with an empty slot and no claims settles. -/
theorem enterSettling_lawful {s : State} (h : Lawful s) {d : DiverterId}
    (hs : s.diverters[d].slot = none) (hc : s.claims[d] = []) : Lawful (s.enterSettling d) := by
  unfold State.enterSettling
  split
  · exact (h.modifyDiverter d _ hs.symm (fun _ => hc) hs).same (post_same _ _)
  · exact h.modifyDiverter d _ hs.symm (fun _ => hc) hs

/-- A diverter that neither strikes nor serves is entered into SETTLING. -/
theorem enterSettling_outOfService {s : State} (h : Lawful s) {d : DiverterId}
    (hd : s.diverters[d].state.inService = false) : Lawful (s.enterSettling d) :=
  enterSettling_lawful h (h.struck d fun he => by rw [he] at hd; cases hd) (h.served d hd)

theorem clearFault_lawful {s : State} (h : Lawful s) {d : DiverterId}
    (hd : s.diverters[d].state.inService = false) : Lawful (s.clearFault d) := by
  unfold State.clearFault
  split
  · have empty := h.struck d fun he => by rw [he] at hd; cases hd
    exact (h.modifyDiverter d _ rfl (fun _ => h.served d hd) empty).same (post_same _ _)
  · exact enterSettling_outOfService h hd

theorem retracted_lawful {s : State} (h : Lawful s) {d : DiverterId}
    (hs : s.diverters[d].slot = none) : Lawful (s.retracted d) := by
  have idle := h.modifyDiverter d
    (fun u => { u with state := .idle, timer := none, testMark := false }) rfl nofun hs
  unfold State.retracted
  dsimp only
  split
  · exact idle.same (post_same _ _)
  · exact idle

/-! A stroke that is withdrawn leaves its item in the slot for the pass that returns it, so the two
passes of an emergency stop keep the records and the service of every diverter apart from its
stroke. -/

/-- The records and the claims stand, and the items in stroke slots are in those of the diverters
listed. -/
structure Withdrawing (s : State) (ds : List DiverterId) : Prop where
  booked : Booked s none
  served (d : DiverterId) : s.Served d
  slots (d : DiverterId) : s.diverters[d].slot ≠ none → d ∈ ds

theorem Withdrawing.same {s t : State} {ds : List DiverterId} (h : Withdrawing s ds)
    (k : SameRecords s t) : Withdrawing t ds :=
  ⟨h.booked.same k, fun d => (Attends.same k).served d (h.served d),
    fun d hs => h.slots d ((k.diverter d).2 ▸ hs)⟩

theorem Withdrawing.modifyDiverter {s : State} {ds : List DiverterId} (h : Withdrawing s ds)
    (d : DiverterId) (f : Diverter → Diverter) (hf : (f s.diverters[d]).slot = s.diverters[d].slot)
    (hs : (f s.diverters[d]).state.inService = true) : Withdrawing (s.modifyDiverter d f) ds := by
  refine ⟨h.booked.modifyDiverter d f hf,
    fun e => modifyDiverter_served (h.served e) fun _ ho => ?_,
    fun e he => h.slots e fun hn => he ?_⟩
  · rw [hs] at ho
    cases ho
  · rw [modifyDiverter_diverter]
    split
    · next hd => subst hd; exact hf.trans hn
    · exact hn

theorem Withdrawing.enterRetracting {s : State} {ds : List DiverterId} (h : Withdrawing s ds)
    (d : DiverterId) : Withdrawing (s.enterRetracting d) ds := by
  have retracting := h.modifyDiverter d (fun u =>
    { u with state := .retracting, timer := s.diverterTimer d DiverterDef.returnTimeout }) rfl rfl
  unfold State.enterRetracting
  dsimp only
  split
  · unfold State.retracted
    have idle := retracting.modifyDiverter d (fun u =>
      { u with state := .idle, timer := none, testMark := false }) rfl rfl
    dsimp only
    split
    · exact idle.same (post_same _ _)
    · exact idle
  · exact retracting

theorem Withdrawing.withdrawStroke {s : State} {ds : List DiverterId} (h : Withdrawing s ds)
    (d : DiverterId) : Withdrawing (s.withdrawStroke d) ds := by
  unfold State.withdrawStroke
  split
  · exact (h.same (readHome_same s d)).enterRetracting d
  · exact h

/-- R124: each item of a withdrawn stroke is returned. -/
theorem Withdrawing.returnItems {s : State} {ds : List DiverterId} (h : Withdrawing s ds)
    (cause : MissCause) : Withdrawing (ds.foldl (fun t d => t.returnItem d cause) s) [] := by
  induction ds generalizing s with
  | nil => exact h
  | cons d ds ih =>
    obtain ⟨hb, ha⟩ := returnItem_spec h.booked d cause
    refine ih ⟨hb, fun e => ha.served e (h.served e), fun e he => ?_⟩
    rw [returnItem_slot] at he
    split at he
    · exact absurd rfl he
    · next hd => exact (List.mem_cons.1 (h.slots e he)).resolve_left (Ne.symm hd)

theorem Withdrawing.lawful {s : State} (h : Withdrawing s []) : Lawful s :=
  ⟨h.booked, h.served, fun d _ => by_contra fun hs => nomatch h.slots d hs⟩

theorem mem_allDiverters : ∀ d : DiverterId, d ∈ allDiverters := by decide

theorem withdrawStrokes_lawful {s : State} (h : Lawful s) : Lawful s.withdrawStrokes := by
  have start : Withdrawing s (allDiverters.filter fun d => s.diverters[d].state = .extending) :=
    ⟨h.booked, h.served, fun d hs => List.mem_filter.2
      ⟨mem_allDiverters d, decide_eq_true (by_contra fun he => hs (h.struck d he))⟩⟩
  have withdrawn (l : List DiverterId) (t : State) {ds : List DiverterId} (ht : Withdrawing t ds) :
      Withdrawing (l.foldl State.withdrawStroke t) ds := by
    induction l generalizing t with
    | nil => exact ht
    | cons d l ih => exact ih _ (ht.withdrawStroke d)
  exact ((withdrawn allDiverters s start).returnItems .estop).lawful

theorem enterRetracting_lawful {s : State} (h : Lawful s) {d : DiverterId}
    (hd : s.diverters[d].state ≠ .extending) : Lawful (s.enterRetracting d) := by
  have retracting := h.modifyDiverter d (fun u =>
    { u with state := .retracting, timer := s.diverterTimer d DiverterDef.returnTimeout }) rfl nofun
    (h.struck d hd)
  unfold State.enterRetracting
  dsimp only
  split
  · refine retracted_lawful retracting ?_
    rw [modifyDiverter_diverter, if_pos rfl]
    exact h.struck d hd
  · exact retracting

/-- R102: the stroke completed, the item in the slot is released. -/
theorem completeStroke_lawful {s : State} (h : Lawful s) (d : DiverterId) :
    Lawful (s.completeStroke d) := by
  unfold State.completeStroke
  dsimp only
  split
  · next hs => exact h.modifyDiverter d _ rfl nofun hs
  · next tag hs =>
    have holding := h.booked.modifyDiverter d (fun u =>
      { u with state := .holding, timer := s.diverterTimer d DiverterDef.dwell }) rfl
    have present := ((h.booked.claims.slotted d tag).1 hs).mem_lineTags
    have same := (post_same (s.modifyDiverter d fun u =>
        { u with state := .holding, timer := s.diverterTimer d DiverterDef.dwell })
      (.diverted tag d ((s.findItem tag).bind Item.reference))).trans
      (count_same _ fun c => { c with diverted := c.diverted + 1 })
    have attends := (Attends.same same).trans (release_attends _ tag)
    refine ⟨(holding.same same).release present, fun e => attends.served e ?_, fun e => ?_⟩
    · exact modifyDiverter_served (h.served e) fun _ => nofun
    · by_cases he : e = d
      · subst he
        intro _
        rw [release_diverter, State.count_diverters, State.post_diverters,
          modifyDiverter_diverter, if_pos rfl]
        exact if_pos hs
      · exact attends.struck e (modifyDiverter_struck (h.struck e) fun hd => absurd hd he)

theorem homeActive_lawful {s : State} (h : Lawful s) (d : DiverterId) :
    Lawful (s.homeActive d) := by
  have read : Lawful (s.setHome d true) := h.same (.of_zones rfl rfl)
  have empty {state : DiverterState} (hd : s.diverters[d].state = state) (hs : state ≠ .extending) :
      s.diverters[d].slot = none := h.struck d (hd ▸ hs)
  unfold State.homeActive
  dsimp only
  split
  · next hd =>
    exact (read.modifyDiverter d (fun u => { u with state := .idle, timer := none }) rfl nofun
      (empty hd (by decide))).same (post_same _ _)
  · next hd => exact retracted_lawful read (empty hd (by decide))
  · exact enterFault_lawful read d _
  all_goals exact read

theorem homeInactive_lawful {s : State} (h : Lawful s) (d : DiverterId) :
    Lawful (s.homeInactive d) := by
  have read : Lawful (s.setHome d false) := h.same (.of_zones rfl rfl)
  unfold State.homeInactive
  dsimp only
  split
  · exact enterFault_lawful read d _
  · exact completeStroke_lawful read d
  all_goals exact read

/-! ### A module that holds no item (R129, R130, R134, R143) -/

/-- No record in use, no announcement waiting, no claim. -/
structure Cleared (s : State) : Prop where
  free : s.freeRecords = Config.itemRecords
  announcements : s.announcements = []
  claims (d : DiverterId) : s.claims[d] = []
  track (z : ZoneId) : s.zones[z].track = []
  anonymous : Config.firstAnonymousTag ≤ s.nextAnonymous ∧ s.nextAnonymous ≤ Config.lastTag

theorem firstAnonymousTag_inRange : Config.firstAnonymousTag ≤ Config.firstAnonymousTag ∧
    Config.firstAnonymousTag ≤ Config.lastTag := by decide

theorem Cleared.lineItems {s : State} (h : Cleared s) : s.lineItems = [] :=
  List.eq_nil_iff_forall_not_mem.2 fun i hi => by
    obtain ⟨z, hz⟩ := mem_lineItems.1 hi
    rw [h.track] at hz
    cases hz

theorem not_holds_of_empty {s : State} (h : s.lineItems = []) (x : Nat) (st : ItemState)
    (a : Option DiverterId) : ¬ s.Holds x st a := by
  rintro ⟨i, hi, -⟩
  rw [h] at hi
  cases hi

/-- With no item in a stroke slot either, the laws hold. -/
theorem Cleared.lawful {s : State} (h : Cleared s)
    (hs : ∀ d : DiverterId, s.diverters[d].slot = none) : Lawful s := by
  have tags : s.lineTags = [] := by rw [State.lineTags, h.lineItems]; rfl
  have no := not_holds_of_empty h.lineItems
  obtain ⟨free, announcements, claims, track, anonymous⟩ := h
  refine ⟨⟨⟨by rw [free, tags]; rfl, by rw [announcements, tags]; exact .nil, ?_, ?_, ?_,
    fun z i hi => ?_, anonymous⟩, ⟨fun d => ?_, fun d x _ => ?_, fun d x => ?_, fun x => no _ _ _⟩⟩,
    fun d _ => claims d, fun d _ => hs d⟩
  · rw [announcements]; nofun
  · rw [announcements]; exact Nat.zero_le _
  · rw [tags]; nofun
  · rw [track] at hi; cases hi
  · rw [claims]; exact .nil
  · rw [claims]; exact iff_of_false nofun (no _ _ _)
  · rw [hs]; exact iff_of_false nofun (no _ _ _)

/-- A lawful module with no item in line and no announcement is cleared. -/
theorem Lawful.cleared {s : State} (h : Lawful s) (hi : s.lineItems = [])
    (ha : s.announcements = []) : Cleared s ∧ ∀ d : DiverterId, s.diverters[d].slot = none := by
  have no {x st a} := not_holds_of_empty hi x st a
  refine ⟨⟨by simpa [State.lineTags, hi] using h.booked.pool.free, ha, fun d => ?_, fun z => ?_,
    h.booked.pool.anonymous⟩, fun d => ?_⟩
  · exact List.eq_nil_iff_forall_not_mem.2 fun x hx => no ((h.booked.claims.claimed d x nofun).1 hx)
  · exact List.eq_nil_iff_forall_not_mem.2 fun i hz => no (holds_of_mem (mem_lineItems.2 ⟨z, hz⟩))
  · exact Option.eq_none_iff_forall_ne_some.2 fun x hx => no ((h.booked.claims.slotted d x).1 hx)

theorem Cleared.of_eq {s t : State} (h : Cleared s) (hf : t.freeRecords = s.freeRecords)
    (hn : t.nextAnonymous = s.nextAnonymous) (ha : t.announcements = s.announcements)
    (hc : t.claims = s.claims) (hz : ∀ z : ZoneId, t.zones[z].track = s.zones[z].track) :
    Cleared t :=
  ⟨hf.trans h.free, ha.trans h.announcements, fun d => by rw [hc, h.claims],
    fun z => (hz z).trans (h.track z), by rw [hn]; exact h.anonymous⟩

/-- R126: a diverter set afresh has an empty slot, and the others keep theirs. -/
theorem enterSettling_slot (s : State) (d e : DiverterId) :
    (s.enterSettling d).diverters[e].slot = if d = e then none else s.diverters[e].slot := by
  have empty (f : Diverter → Diverter) (hf : (f s.diverters[d]).slot = none) :
      (s.modifyDiverter d f).diverters[e].slot = if d = e then none else s.diverters[e].slot := by
    rw [modifyDiverter_diverter]
    split
    · exact hf
    · rfl
  unfold State.enterSettling
  split <;> exact empty (fun _ => ⟨_, _, none, false⟩) rfl

theorem enterSettling_cleared {s : State} (h : Cleared s) (d : DiverterId) :
    Cleared (s.enterSettling d) := by
  unfold State.enterSettling
  split <;> exact h.of_eq rfl rfl rfl rfl fun _ => rfl

/-- R126: with no item left, the laws hold once every diverter with a stroke is set afresh. -/
theorem settleDiverters_lawful {s : State} (h : Cleared s) (which : DiverterId → Bool)
    (hs : ∀ d : DiverterId, which d = false → s.diverters[d].slot = none) :
    Lawful (s.settleDiverters which) := by
  have settle (l : List DiverterId) (t : State) (ht : Cleared t)
      (hl : ∀ d : DiverterId, t.diverters[d].slot ≠ none → d ∈ l) :
      Lawful (l.foldl (fun t d => (t.readHome d).enterSettling d) t) := by
    induction l generalizing t with
    | nil => exact ht.lawful fun d => by_contra fun hd => nomatch hl d hd
    | cons d l ih =>
      have read : Cleared (t.readHome d) := by
        rw [State.readHome_frame]
        exact ht.of_eq rfl rfl rfl rfl fun _ => rfl
      refine ih _ (enterSettling_cleared read d) fun e he => ?_
      rw [enterSettling_slot, ((readHome_same t d).diverter e).2] at he
      split at he
      · exact absurd rfl he
      · next hd => exact (List.mem_cons.1 (hl e he)).resolve_left (Ne.symm hd)
  refine settle _ s h fun d hd => List.mem_filter.2 ⟨mem_allDiverters d, ?_⟩
  by_contra hw
  exact hd (hs d (Bool.eq_false_of_not_eq_true hw))

/-- R126, R134: only a diverter that RESTART takes to SETTLING can have an item in its slot. -/
theorem restart_lawful {s : State} (h : Lawful s) :
    Lawful (s.giveUp.settleDiverters s.restartsDiverter) := by
  refine settleDiverters_lawful ⟨rfl, rfl, fun d => by simp [State.giveUp],
    fun z => by simp [State.giveUp, ZoneUnit.restart], firstAnonymousTag_inRange⟩ _ fun d hd => ?_
  refine h.struck d fun he => ?_
  rw [State.restartsDiverter, he] at hd
  exact absurd hd (by decide)

theorem takeLayout_cleared {s : State} (h : Cleared s) : Cleared s.takeLayout := by
  refine h.of_eq rfl rfl rfl rfl fun z => ?_
  rw [takeLayout_eq, State.evaluatePoolLow, modifyReasons_zone]
  simp [State.layoutTaken, ZoneUnit.commit]

/-- R143: a commit finds no item, and leaves none. -/
theorem commit_lawful {s : State} (h : Lawful s) (hi : s.lineItems = [])
    (ha : s.announcements = []) : Lawful s.commit := by
  obtain ⟨cleared, slots⟩ := h.cleared hi ha
  have posted : Cleared (s.takeLayout.post (.moduleState .standby .commit)) :=
    (takeLayout_cleared cleared).of_eq rfl rfl rfl rfl fun _ => rfl
  refine settleDiverters_lawful posted _ fun d _ => ?_
  rw [State.post_diverters, takeLayout_eq, State.evaluatePoolLow_diverters]
  simp only [State.layoutTaken, Fin.getElem_fin, Vector.getElem_ofFn]
  split
  · exact slots d
  · rfl

theorem begin_lawful (s : State) (cause : ModuleCause) (i : Inputs) : Lawful (s.begin cause i) := by
  refine Cleared.lawful ⟨rfl, rfl, fun d => ?_, fun z => by rw [begin_zone]; rfl,
    firstAnonymousTag_inRange⟩ fun d => ?_
  · simp [State.begin, State.reset]
  · simp [State.begin, State.reset, Diverter.blank]

theorem void_lawful (s : State) : Lawful s.void := by
  refine Cleared.lawful ⟨rfl, rfl, fun d => ?_, fun z => by rw [void_zone]; rfl,
    firstAnonymousTag_inRange⟩ fun d => ?_
  · simp [State.void, State.reset]
  · simp [State.void, State.reset, Diverter.blank]

/-! ### The anonymous tags (R36) -/

/-- R36: the anonymous tag that comes `k` places after `t`. -/
def anonymousFrom (t k : Nat) : Nat :=
  Config.firstAnonymousTag + (t - Config.firstAnonymousTag + k) % 4096

/-- R36: 61,440 to 65,535. -/
def IsAnonymous (t : Nat) : Prop := Config.firstAnonymousTag ≤ t ∧ t ≤ Config.lastTag

theorem anonymousAfter_isAnonymous {t : Nat} (h : IsAnonymous t) :
    IsAnonymous (anonymousAfter t) := by
  unfold anonymousAfter
  split <;> simp only [IsAnonymous, Config.firstAnonymousTag, Config.lastTag] at * <;> omega

theorem anonymousFrom_zero {t : Nat} (h : IsAnonymous t) : anonymousFrom t 0 = t := by
  simp only [IsAnonymous, anonymousFrom, Config.firstAnonymousTag, Config.lastTag] at h ⊢
  omega

theorem anonymousFrom_after {t : Nat} (h : IsAnonymous t) (k : Nat) :
    anonymousFrom (anonymousAfter t) k = anonymousFrom t (k + 1) := by
  unfold anonymousAfter
  split <;>
    simp only [IsAnonymous, anonymousFrom, Config.firstAnonymousTag, Config.lastTag] at * <;>
    omega

/-- R36: 4,096 tags in a row are all different. -/
theorem anonymousFrom_inj {t j k : Nat} (hj : j < 4096) (hk : k < 4096)
    (h : anonymousFrom t j = anonymousFrom t k) : j = k := by
  simp only [anonymousFrom] at h
  omega

/-- R36: the search finds an unused tag, unless every tag that it tries is in use. -/
theorem firstUnused_spec (s : State) (n t : Nat) (ht : IsAnonymous t) :
    IsAnonymous (s.firstUnused n t) ∧
      (s.firstUnused n t ∉ s.lineTags ∨ ∀ k < n, anonymousFrom t k ∈ s.lineTags) := by
  induction n generalizing t with
  | zero => exact ⟨ht, .inr nofun⟩
  | succ n ih =>
    unfold State.firstUnused
    split
    · next hu =>
      obtain ⟨ha, hn⟩ := ih (anonymousAfter t) (anonymousAfter_isAnonymous ht)
      refine ⟨ha, hn.imp_right fun used k hk => ?_⟩
      cases k with
      | zero =>
        rw [anonymousFrom_zero ht]
        by_contra hx
        rw [findItem_eq_none.2 hx] at hu
        cases hu
      | succ k =>
        rw [← anonymousFrom_after ht]
        exact used k (by omega)
    · next hu =>
      rw [Bool.not_eq_true, Option.isSome_eq_false_iff, Option.isNone_iff_eq_none] at hu
      exact ⟨ht, .inl (findItem_eq_none.1 hu)⟩

/-- R36: with a record free, fewer tags are in use than the allocator tries. -/
theorem allocateTag_spec {s : State} (ht : IsAnonymous s.nextAnonymous)
    (hl : s.lineTags.length < Config.itemRecords) :
    IsAnonymous s.allocateTag ∧ s.allocateTag ∉ s.lineTags := by
  obtain ⟨ha, hn⟩ := firstUnused_spec s Config.itemRecords s.nextAnonymous ht
  refine ⟨ha, hn.resolve_right fun used => ?_⟩
  have distinct : ((List.range Config.itemRecords).map (anonymousFrom s.nextAnonymous)).Nodup := by
    refine List.Nodup.map_on (fun j hj k hk => anonymousFrom_inj ?_ ?_) List.nodup_range
    · exact (List.mem_range.1 hj).trans (by decide)
    · exact (List.mem_range.1 hk).trans (by decide)
  have sub : (List.range Config.itemRecords).map (anonymousFrom s.nextAnonymous) ⊆ s.lineTags := by
    intro x hx
    obtain ⟨k, hk, rfl⟩ := List.mem_map.1 hx
    exact used k (List.mem_range.1 hk)
  have := (distinct.subperm sub).length_le
  rw [List.length_map, List.length_range] at this
  omega

/-! ### Induction (R52 to R56) -/

/-- A change of the announcements or of the next anonymous tag alone. -/
theorem Lawful.of_pool {s t : State} (h : Lawful s) (hp : PoolLaws t) (hz : t.zones = s.zones)
    (hc : t.claims = s.claims) (hd : t.diverters = s.diverters) : Lawful t := by
  have holds := holds_congr (s := s) (t := t) (lineItems_congr fun z => by rw [hz])
  exact h.of_booked ⟨hp, h.booked.claims.of_holds (fun x st a _ => holds x st a) hc
    fun d => by rw [hd]⟩ (.of_eq hc hd)

/-- R24: a lawful module from which one free record has been taken, for a record with tag `x` that
nothing holds. -/
structure Taken (s : State) (x : Nat) : Prop where
  lawful : Lawful { s with freeRecords := s.freeRecords + 1 }
  fresh : x ∉ s.heldTags
  positive : 1 ≤ x

theorem takeRecord_track (s : State) (z : ZoneId) :
    s.takeRecord.zones[z].track = s.zones[z].track := by
  rw [State.takeRecord, State.evaluatePoolLow, modifyReasons_zone]

/-- R53: the record of an induction gets a tag that nothing holds. -/
theorem pair_taken {s : State} (h : Lawful s) (hf : s.freeRecords ≠ 0) (length : Nat)
    (overlength : Bool) (next : Option EyeId) :
    Taken (s.takeRecord.pair length overlength next).1
        (s.takeRecord.pair length overlength next).2.tag ∧
      (s.takeRecord.pair length overlength next).2.state = .tracked ∧
      (s.takeRecord.pair length overlength next).2.assigned = none := by
  have given : s.takeRecord.freeRecords + 1 = s.freeRecords :=
    Nat.sub_add_cancel (Nat.pos_of_ne_zero hf)
  have line : s.takeRecord.lineItems = s.lineItems := lineItems_congr (takeRecord_track s)
  have tags : s.takeRecord.lineTags = s.lineTags := by rw [State.lineTags, line]; rfl
  have back : Lawful { s.takeRecord with freeRecords := s.takeRecord.freeRecords + 1 } := by
    refine h.same ⟨?_, takeRecord_track s⟩
    rw [given]
    rfl
  obtain ⟨free, nodup, hostTags, room, positive, zone, anonymous⟩ := back.booked.pool
  unfold State.pair
  split
  · next a rest ha =>
    have sub : rest.Sublist s.takeRecord.announcements := ha ▸ List.sublist_cons_self a rest
    have mem : a ∈ s.takeRecord.announcements := ha ▸ List.mem_cons_self
    have held : (a.tag :: (rest.map Announcement.tag ++ s.takeRecord.lineTags)).Nodup := by
      have := nodup
      dsimp only at this
      rwa [ha] at this
    exact ⟨⟨back.of_pool ⟨free, (List.nodup_cons.1 held).2, fun b hb => hostTags b (sub.subset hb),
      sub.length_le.trans room, positive, zone, anonymous⟩ rfl rfl rfl, (List.nodup_cons.1 held).1,
      (hostTags a mem).1⟩, rfl, rfl⟩
  · next ha =>
    have room : s.takeRecord.lineTags.length < Config.itemRecords := by
      have := h.booked.pool.free
      rw [tags]
      omega
    obtain ⟨range, unused⟩ := allocateTag_spec anonymous room
    refine ⟨⟨back.of_pool ⟨free, nodup, hostTags, ‹_›, positive, zone,
      anonymousAfter_isAnonymous range⟩ rfl rfl rfl, ?_, ?_⟩, rfl, rfl⟩
    · change _ ∉ s.takeRecord.announcements.map Announcement.tag ++ s.takeRecord.lineTags
      rw [ha]
      exact unused
    · exact le_trans (by decide) range.1

/-- R32: a record that cannot be placed goes back to the pool. -/
theorem Taken.release {s : State} {x : Nat} (h : Taken s x) : Lawful (s.release x) := by
  have absent : x ∉ s.lineTags := fun hx => h.fresh (List.mem_append_right _ hx)
  have track (z : ZoneId) : (s.release x).zones[z].track = s.zones[z].track := by
    rw [release_track]
    simp only [State.removeItem, State.mapZones_zones, Fin.getElem_fin, Vector.getElem_ofFn]
    refine List.filter_eq_self.2 fun i hi => bne_iff_ne.2 fun he => absent ?_
    exact he ▸ List.mem_map_of_mem (mem_lineItems.2 ⟨z, hi⟩)
  have claims : ClaimLaws s none :=
    h.lawful.booked.claims.of_holds (fun _ _ _ _ => .rfl) rfl fun _ => rfl
  have attends : Attends { s with freeRecords := s.freeRecords + 1 } (s.release x) :=
    .trans (.of_eq (t := s) rfl rfl) (release_attends s x)
  exact h.lawful.of_booked ⟨h.lawful.booked.pool.of_track rfl rfl rfl track, claims.release x⟩
    attends

theorem Taken.losePlacement {s : State} {x : Nat} (h : Taken s x) (z : ZoneId) :
    Lawful (s.losePlacement x z) :=
  Taken.release ⟨h.lawful.same (.of_zones rfl rfl), h.fresh, h.positive⟩

/-- R54: the record of an induction is put in line, with no assignment yet. -/
theorem Taken.appendItem {s : State} {i : Item} (h : Taken s i.tag) (hs : i.state = .tracked)
    (ha : i.assigned = none) (z : ZoneId) (p : Nat) :
    Lawful (s.appendItem z p i) ∧ (s.appendItem z p i).Tracks i.tag := by
  have holds := holds_appendItem s z p i
  have lawful := h.lawful
  refine ⟨lawful.of_booked ⟨lawful.booked.pool.appendItem z p h.fresh h.positive,
    lawful.booked.claims.of_holds (fun x st a hx => ?_) rfl fun _ => rfl⟩ (.of_eq rfl rfl),
    none, (holds ..).2 (.inl ⟨rfl, hs, ha⟩)⟩
  refine (holds x st a).trans (or_iff_right ?_)
  rintro ⟨-, rfl, rfl⟩
  rcases hx with hx | hx
  · rw [hs] at hx
    cases hx
  · exact hx ha

theorem closeInduction_lawful {s : State} (h : Lawful s) {i : Item} (ht : s.Tracks i.tag) :
    Lawful (s.closeInduction i) := by
  unfold State.closeInduction
  exact ((h.reassign ht none).same (post_same _ _)).same (count_same _ _)

theorem induct_lawful {s : State} (h : Lawful s) (length : Nat) (overlength : Bool) :
    Lawful (s.induct length overlength) := by
  unfold State.induct
  split
  · exact h
  · next e he =>
    split
    · exact h.same (post_same _ _)
    · next hf =>
      obtain ⟨taken, hs, ha⟩ := pair_taken h hf length overlength (s.activeLayout.eyeFollowing e)
      dsimp only
      generalize s.takeRecord.pair length overlength (s.activeLayout.eyeFollowing e) = r
        at taken hs ha ⊢
      split
      · exact taken.losePlacement 0
      · next p clamped hp =>
        have placed (i : Item)
            (hi : i.tag = r.2.tag ∧ i.state = r.2.state ∧ i.assigned = r.2.assigned) :
            Lawful ((r.1.appendItem 0 p i).closeInduction i) := by
          obtain ⟨ht, hsi, hai⟩ := hi
          obtain ⟨lawful, tracked⟩ :=
            Taken.appendItem (ht ▸ taken) (hsi.trans hs) (hai.trans ha) 0 p
          exact closeInduction_lawful lawful tracked
        cases clamped <;> exact placed _ ⟨rfl, rfl, rfl⟩

/-! ### The span (R47 to R50) -/

theorem endSpan_lawful {s : State} (h : Lawful s) : Lawful s.endSpan := by
  have ended : Lawful { s with span := .idle, spanCount := 0 } := h.same (.of_zones rfl rfl)
  unfold State.endSpan
  dsimp only
  split_ifs
  · exact ended.same (count_same _ _)
  · exact induct_lawful ended _ _
  · exact ended

theorem beginSpan_same (s : State) : SameRecords s s.beginSpan := by
  unfold State.beginSpan
  split
  · exact .of_zones rfl rfl
  · exact .refl s

theorem countSpan_same (s : State) : SameRecords s s.countSpan := by
  unfold State.countSpan
  split
  · exact .of_zones rfl rfl
  · exact .refl s

theorem inductOverlength_lawful {s : State} (h : Lawful s) : Lawful s.inductOverlength :=
  have passed : Lawful { s with span := .passed, spanCount := 0 } := h.same (.of_zones rfl rfl)
  induct_lawful passed _ _

/-! ### Crossings -/

theorem mem_lineTags_of_findItem {s : State} {tag : Nat} {i : Item} (h : s.findItem tag = some i) :
    tag ∈ s.lineTags := by
  obtain ⟨hi, rfl⟩ := findItem_eq_some h
  exact List.mem_map_of_mem hi

theorem missEye_lawful {s : State} (h : Lawful s) (tag : Nat) (e : EyeId) :
    Lawful (s.missEye tag e) := by
  have missed :
      Lawful (s.updateItem tag fun j => { s.advancePast e j with missRun := j.missRun + 1 }) :=
    h.updateItem tag _ (fun _ => rfl) (fun _ => rfl) fun _ => ⟨rfl, rfl⟩
  unfold State.missEye
  split
  · exact h
  · next i hi =>
    have present : tag ∈ (s.updateItem tag fun j =>
        { s.advancePast e j with missRun := j.missRun + 1 }).lineTags :=
      mem_lineTags_updateItem tag (fun _ => rfl) (mem_lineTags_of_findItem hi)
    dsimp only
    split_ifs
    · exact h.updateItem tag _ (fun _ => rfl) (fun _ => rfl) fun _ => ⟨rfl, rfl⟩
    · exact missed.lose present _ _ _
    · exact missed.lose present _ _ _
    · exact missed

theorem takeWindowEnds_lawful (tag : Nat) (z : ZoneId) (n : Nat) {s : State} (h : Lawful s) :
    Lawful (s.takeWindowEnds tag z n) := by
  induction n generalizing s with
  | zero => exact h
  | succ n ih =>
    unfold State.takeWindowEnds
    split
    · exact h
    · split
      · exact ih (missEye_lawful h tag _)
      · exact h

/-- R87, R112 step 2: a claim given up is unsettled until its record is assigned again. -/
theorem Booked.leaveClaim {s : State} (h : Booked s none) (tag : Nat) (d : DiverterId) :
    Booked (s.leaveClaim tag d) (some tag) := by
  obtain ⟨nodup, claimed, slotted, assigned⟩ := h.claims
  refine ⟨h.pool.of_track rfl rfl rfl fun _ => rfl, fun e => ?_,
    fun e x hx => ?_, slotted, assigned⟩
  · rw [State.leaveClaim_claims, getElem_set_fin]
    split
    · next he => subst he; exact (nodup d).filter _
    · exact nodup e
  · have hne : x ≠ tag := fun he => hx (congrArg some he.symm)
    rw [State.leaveClaim_claims, getElem_set_fin]
    refine Iff.trans ?_ (claimed e x nofun)
    split
    · next he => subst he; simp [hne]
    · rfl

theorem leaveClaim_attends (s : State) (tag : Nat) (d : DiverterId) :
    Attends s (s.leaveClaim tag d) := by
  refine ⟨fun e h hs => ?_, fun e h => h⟩
  rw [State.leaveClaim_claims, getElem_set_fin]
  split
  · next he => subst he; rw [h hs]; rfl
  · exact h hs

/-- R113: an item that misses gives up its claim and is assigned again. -/
theorem missDivert_lawful {s : State} (h : Lawful s) (d : DiverterId) {i : Item}
    (hi : i ∈ s.lineItems) (hs : i.state = .tracked) (cause : MissCause) :
    Lawful (s.missDivert d i cause) := by
  have tracked : s.Tracks i.tag := ⟨i.assigned, hs ▸ holds_of_mem hi⟩
  have marked : Lawful (if cause = .busy then s.updateItem i.tag Item.markAtRisk else s) ∧
      (if cause = .busy then s.updateItem i.tag Item.markAtRisk else s).Tracks i.tag := by
    split
    · exact ⟨h.markAtRisk i.tag,
        tracks_updateItem_same tracked i.tag (fun _ => rfl) fun _ => ⟨rfl, rfl⟩⟩
    · exact ⟨h, tracked⟩
  unfold State.missDivert
  generalize (if cause = .busy then s.updateItem i.tag Item.markAtRisk else s) = t at marked ⊢
  obtain ⟨lawful, tracked⟩ := marked
  have reassigned : Lawful ((t.leaveClaim i.tag d).reassign i.tag (some d)).1 :=
    lawful.of_booked ((lawful.booked.leaveClaim i.tag d).reassign tracked (some d))
      ((leaveClaim_attends t i.tag d).trans (reassign_attends ..))
  exact reassigned.same (post_same _ _)

/-! ### The trigger point (R110 to R115) -/

/-- R112: what a fire makes of the records, before it marks a neighbour. -/
def State.fired (s : State) (d : DiverterId) (i : Item) : State :=
  ((s.modifyDiverter d fun u =>
      { u with state := .extending, timer := s.diverterTimer d DiverterDef.strokeTimeout
               slot := some i.tag }).updateItem i.tag fun j =>
    { j with state := .diverting }).leaveClaim i.tag d

theorem fire_cases (s : State) (d : DiverterId) (i : Item) :
    s.fire d i = s.fired d i ∨
      ∃ p : Item, s.fire d i = (s.fired d i).updateItem p.tag Item.markAtRisk := by
  unfold State.fire
  cases s.struckNeighbour d i with
  | none => exact .inl rfl
  | some p => exact .inr ⟨p, rfl⟩

theorem fired_claim (s : State) (d e : DiverterId) (i : Item) : (s.fired d i).claims[e] =
    if d = e then s.claims[d].filter fun x => x != i.tag else s.claims[e] := by
  rw [State.fired, State.leaveClaim_claims, getElem_set_fin]
  rfl

theorem fired_diverter (s : State) (d e : DiverterId) (i : Item) : (s.fired d i).diverters[e] =
    if d = e then { s.diverters[d] with
      state := .extending, timer := s.diverterTimer d DiverterDef.strokeTimeout,
      slot := some i.tag }
    else s.diverters[e] := by
  rw [State.fired, State.leaveClaim_diverters, State.updateItem_diverters, modifyDiverter_diverter]

theorem holds_fired {s : State} (h : PoolLaws s) {i : Item} (hi : i ∈ s.lineItems) (d : DiverterId)
    (x : Nat) (st : ItemState) (a : Option DiverterId) : (s.fired d i).Holds x st a ↔
      if x = i.tag then .diverting = st ∧ i.assigned = a else s.Holds x st a := by
  rw [← h.exists_tag_iff hi fun j => .diverting = st ∧ j.assigned = a]
  exact holds_updateItem _ i.tag (fun j => { j with state := .diverting }) (fun _ => rfl) x st a

theorem fired_pool {s : State} (h : PoolLaws s) (d : DiverterId) (i : Item) :
    PoolLaws (s.fired d i) := by
  have struck : PoolLaws (s.modifyDiverter d fun u =>
      { u with state := .extending, timer := s.diverterTimer d DiverterDef.strokeTimeout
               slot := some i.tag }) := h.of_track rfl rfl rfl fun _ => rfl
  have diverting := struck.updateItem i.tag (fun j => { j with state := .diverting })
    (fun _ => rfl) fun _ => rfl
  exact diverting.of_track rfl rfl rfl fun _ => rfl

/-- R112: an item that fires gives up its claim and takes the empty stroke slot. -/
theorem fired_claims {s : State} (h : Booked s none) {d : DiverterId} {i : Item}
    (hi : i ∈ s.lineItems) (hs : i.state = .tracked) (hc : i.tag ∈ s.claims[d])
    (empty : s.diverters[d].slot = none) : ClaimLaws (s.fired d i) none := by
  have held : s.Holds i.tag .tracked i.assigned := hs ▸ holds_of_mem hi
  have unique {st a} (hx : s.Holds i.tag st a) := h.pool.holds_unique held hx
  have holds := holds_fired h.pool hi d
  obtain ⟨nodup, claimed, slotted, assigned⟩ := h.claims
  have own : i.assigned = some d := (unique ((claimed d i.tag nofun).1 hc)).2
  refine ⟨fun e => ?_, fun e x _ => ?_, fun e x => ?_, fun x => ?_⟩
  · rw [fired_claim]
    split
    · exact (nodup d).filter _
    · exact nodup e
  · rw [holds, fired_claim]
    by_cases hx : x = i.tag
    · refine iff_of_false (fun hm => ?_) (by simp [hx])
      split at hm
      · simp [hx] at hm
      · next he =>
        exact he (Option.some.inj (own.symm.trans (unique ((claimed e _ nofun).1 (hx ▸ hm))).2))
    · rw [if_neg hx, ← claimed e x nofun]
      split
      · next he => subst he; simp [hx]
      · rfl
  · rw [holds, fired_diverter, own]
    by_cases hx : x = i.tag
    · subst hx
      by_cases he : d = e
      · subst he; simp
      · refine iff_of_false (fun hm => ?_) (by simp [he])
        rw [if_neg he] at hm
        cases (unique ((slotted e _).1 hm)).1
    · rw [if_neg hx, ← slotted e x]
      split
      · next he => subst he; rw [empty]; simp [Ne.symm hx]
      · rfl
  · rw [holds, own]
    split
    · simp
    · exact assigned x

/-- R112: the diverter that an item fires is EXTENDING, so it serves and it strikes. -/
theorem fired_attends (s : State) (d : DiverterId) (i : Item) : Attends s (s.fired d i) := by
  refine ⟨fun e h => ?_, fun e h => ?_⟩
  · unfold State.Served
    rw [fired_claim, fired_diverter]
    split
    · exact nofun
    · exact h
  · unfold State.Struck
    rw [fired_diverter]
    split
    · exact fun he => absurd rfl he
    · exact h

theorem fired_lawful {s : State} (h : Lawful s) {d : DiverterId} {i : Item} (hi : i ∈ s.lineItems)
    (hs : i.state = .tracked) (hc : i.tag ∈ s.claims[d]) (hd : s.diverters[d].state = .idle) :
    Lawful (s.fired d i) :=
  have empty : s.diverters[d].slot = none := h.struck d (hd ▸ nofun)
  h.of_booked ⟨fired_pool h.booked.pool d i, fired_claims h.booked hi hs hc empty⟩
    (fired_attends s d i)

theorem idle_of_missCause {s : State} {d : DiverterId} {i : Item} (h : s.missCause d i = none) :
    s.diverters[d].state = .idle := by
  unfold State.missCause at h
  split_ifs at h with _ _ hd
  · exact not_not.1 hd

theorem reachTrigger_lawful {s : State} (h : Lawful s) (tag : Nat) (d : DiverterId) :
    Lawful (s.reachTrigger tag d) := by
  unfold State.reachTrigger
  split
  · exact h
  · next i hf =>
    obtain ⟨hi, -⟩ := findItem_eq_some hf
    split_ifs with hm
    · simp only [State.meetsDecision, Bool.and_eq_true, decide_eq_true_eq] at hm
      obtain ⟨hs, hc⟩ := hm
      unfold State.decideFire
      split
      · exact missDivert_lawful h d hi hs _
      · next hn =>
        have lawful := fired_lawful h hi hs (List.mem_of_head? hc) (idle_of_missCause hn)
        rcases fire_cases s d i with hr | ⟨p, hr⟩ <;> rw [hr]
        · exact lawful
        · exact lawful.markAtRisk p.tag
    · exact h.markAtRisk tag
    · exact h

/-! ### Leaving a zone (R8 to R10) -/

/-- R8: a record moved to the tail of a list keeps its tag and its part. -/
theorem moveItem_lawful {s : State} (h : Lawful s) {i j : Item} (hi : i ∈ s.lineItems)
    (hj : j.tag = i.tag ∧ j.state = i.state ∧ j.assigned = i.assigned) (z : ZoneId) (p : Nat) :
    Lawful ((s.removeItem i.tag).appendItem z p j) := by
  obtain ⟨ht, hs, ha⟩ := hj
  have pool := h.booked.pool
  have present : i.tag ∈ s.lineTags := List.mem_map_of_mem hi
  have fresh : j.tag ∉ (s.removeItem i.tag).heldTags := by
    rw [ht]
    intro hx
    rcases List.mem_append.1 hx with hx | hx
    · exact (List.nodup_append.1 pool.nodup).2.2 _ hx _ present rfl
    · have : i.tag ∈ (s.removeItem i.tag).lineTags := hx
      simp at this
  refine h.of_booked ⟨(pool.removeItem present).appendItem z p fresh (ht ▸ pool.positive _ present),
    h.booked.claims.of_holds (fun x st a _ => ?_) rfl fun _ => rfl⟩ (.of_eq rfl rfl)
  rw [holds_appendItem, holds_removeItem, ht, hs, ha]
  constructor
  · rintro (⟨rfl, rfl, rfl⟩ | ⟨-, hx⟩)
    exacts [holds_of_mem hi, hx]
  · intro hx
    by_cases he : x = i.tag
    · subst he
      obtain ⟨rfl, rfl⟩ := pool.holds_unique hx (holds_of_mem hi)
      exact .inl ⟨rfl, rfl, rfl⟩
    · exact .inr ⟨he, hx⟩

theorem transferItem_lawful {s : State} (h : Lawful s) {i : Item} (hi : i ∈ s.lineItems)
    (y : ZoneId) : Lawful (s.transferItem i y).1 := by
  unfold State.transferItem
  split
  · exact h.lose (List.mem_map_of_mem hi) _ _ _
  · next p clamped hp =>
    have part : (s.carriedOn i y p).tag = i.tag ∧ (s.carriedOn i y p).state = i.state ∧
        (s.carriedOn i y p).assigned = i.assigned := by
      rcases carriedOn_cases s i y p with ⟨-, hc⟩ | ⟨-, hc⟩ <;> rw [hc] <;> exact ⟨rfl, rfl, rfl⟩
    cases clamped with
    | false => exact moveItem_lawful h hi part y p
    | true => exact moveItem_lawful (j := (s.carriedOn i y p).markAtRisk) h hi part y p

theorem exitItem_lawful {s : State} (h : Lawful s) {i : Item} (hi : i ∈ s.lineItems) :
    Lawful (s.exitItem i) :=
  ((h.same (post_same s _)).same (count_same _ _)).release (List.mem_map_of_mem hi)

theorem leaveZone_lawful {s : State} (h : Lawful s) (tag : Nat) (z : ZoneId) :
    Lawful (s.leaveZone tag z).1 := by
  have ended : Lawful (if (s.findItem tag).any (s.transferMeetsReturn z) then s
      else s.takeWindowEnds tag z 12) := by
    split
    · exact h
    · exact takeWindowEnds_lawful tag z 12 h
  unfold State.leaveZone
  dsimp only
  split
  · exact ended
  · next hf =>
    obtain ⟨hi, -⟩ := findItem_eq_some hf
    split
    · exact transferItem_lawful ended hi _
    · exact exitItem_lawful ended hi

/-! ### Crossings that fall together -/

theorem cross_lawful {s : State} (h : Lawful s) (c : Crossing) : Lawful (s.cross c).1 := by
  unfold State.cross
  split
  · split
    · exact leaveZone_lawful h _ _
    · exact h
  · exact missEye_lawful h _ _
  · exact reachTrigger_lawful h _ _
  · exact inductOverlength_lawful h

theorem chooseCrossing_same (s : State) (owed : List Crossing) :
    SameRecords s (s.chooseCrossing owed).2 := by
  unfold State.chooseCrossing
  split
  · exact .refl s
  · exact .refl s
  · exact .of_zones rfl rfl

theorem takeCrossings_lawful (n : Nat) (owed : List Crossing) {s : State} (h : Lawful s) :
    Lawful (s.takeCrossings n owed) := by
  induction n generalizing owed s with
  | zero => exact h
  | succ n ih =>
    cases owed with
    | nil => exact h
    | cons c cs =>
      unfold State.takeCrossings
      dsimp only
      have chosen := h.same (chooseCrossing_same s
        (((c :: cs).filter (isLowest (c :: cs))).filter s.actsAt))
      split
      · next t ht =>
        rw [ht] at chosen
        exact ih _ chosen
      · next b t ht =>
        rw [ht] at chosen
        split
        · exact ih _ (cross_lawful chosen b)
        · exact ih _ (cross_lawful chosen b)

theorem takeAll_lawful {s : State} (h : Lawful s) (owed : List Crossing) :
    Lawful (s.takeAll owed) :=
  takeCrossings_lawful _ owed h

/-! ### The field inputs -/

theorem matchItem_lawful {s : State} (h : Lawful s) (e : EyeId) (i : Item) (p : Nat) :
    Lawful (s.matchItem e i p) := by
  unfold State.matchItem
  exact h.updateItem i.tag _ (fun _ => rfl) (fun _ => rfl) fun _ => ⟨rfl, rfl⟩

theorem matchEdge_lawful {s : State} (h : Lawful s) (e : EyeId) (d : EyeDef) :
    Lawful (s.matchEdge e d) := by
  unfold State.matchEdge
  split
  · exact (h.same (post_same s _)).same (count_same _ _)
  · exact takeAll_lawful (matchItem_lawful h e _ _) _

theorem pulse_lawful {s : State} (h : Lawful s) (z : ZoneId) : Lawful (s.pulse z) := by
  have raised : Lawful (s.raiseCount z) := h.same (raiseCount_same s z)
  have counted : Lawful (if z = 0 then (s.raiseCount z).countSpan else s.raiseCount z) := by
    split
    · exact raised.same (countSpan_same _)
    · exact raised
  unfold State.pulse
  dsimp only
  split
  · exact takeAll_lawful counted _
  · exact raised

theorem edge_same (s : State) (e : EyeId) (blocked : Bool) (x : EyeState) :
    SameRecords s ((s.setEyeBlocked e blocked).setEye e x) := .of_zones rfl rfl

theorem blockedAtItems_lawful {s : State} (h : Lawful s) (e : EyeId) (d : EyeDef) :
    Lawful (s.blockedAtItems e d) := by
  unfold State.blockedAtItems
  split
  · exact h.same (beginSpan_same s)
  · exact matchEdge_lawful h e d

theorem blockedEdge_lawful {s : State} (h : Lawful s) (e : EyeId) : Lawful (s.blockedEdge e) := by
  have read : Lawful (s.setEyeBlocked e true) := h.same (.of_zones rfl rfl)
  unfold State.blockedEdge
  dsimp only
  split
  · exact blockedAtItems_lawful (h.same (edge_same s e true .blocked)) e _
  · exact blockedAtItems_lawful (h.same (edge_same s e true .jammed)) e _
  · split
    · exact read.same (beginSpan_same _)
    · exact read
  · exact read

theorem unblockedAtItems_lawful {s : State} (h : Lawful s) (d : EyeDef) :
    Lawful (s.unblockedAtItems d) := by
  unfold State.unblockedAtItems
  split
  · exact endSpan_lawful h
  · exact h

theorem unblockedEdge_lawful {s : State} (h : Lawful s) (e : EyeId) :
    Lawful (s.unblockedEdge e) := by
  have read : Lawful (s.setEyeBlocked e false) := h.same (.of_zones rfl rfl)
  unfold State.unblockedEdge
  dsimp only
  split
  · exact unblockedAtItems_lawful (h.same (edge_same s e false .clear)) _
  · exact unblockedAtItems_lawful (h.same (edge_same s e false .jamHeld)) _
  · exact unblockedAtItems_lawful read _
  · exact read

/-! ### Requests that leave the records -/

/-- A request that leaves the records, the claims and the slots. -/
def OpSame (op : State → State × Answer) : Prop := ∀ s : State, SameRecords s (op s).1

/-- A request that keeps the record laws. -/
def OpLawful (op : State → State × Answer) : Prop := ∀ s : State, Lawful s → Lawful (op s).1

theorem OpSame.lawful {op : State → State × Answer} (h : OpSame op) : OpLawful op :=
  fun s hs => hs.same (h s)

theorem opStatus_same (body : List Byte) : OpSame (opStatus body) := fun s => by
  unfold opStatus
  repeat' split
  all_goals exact .of_zones rfl rfl

theorem opIdentify_same (body : List Byte) : OpSame (opIdentify body) := fun s => by
  unfold opIdentify
  repeat' split
  all_goals exact .of_zones rfl rfl

theorem opSetLink_same (body : List Byte) : OpSame (opSetLink body) := fun s => by
  unfold opSetLink
  split
  · dsimp only
    split <;> exact .of_zones rfl rfl
  · exact .refl s

theorem opReportAck_same (body : List Byte) : OpSame (opReportAck body) := fun s => by
  unfold opReportAck
  split
  · dsimp only
    split_ifs <;> exact .of_zones rfl rfl
  · exact .refl s

theorem setStopped_same (s : State) (m : ModuleState) (r : Report) (tracking : Bool) :
    SameRecords s (({ s with module := m }.post r).setStopped tracking) := by
  have posted : SameRecords s ({ s with module := m }.post r) := .of_zones rfl rfl
  exact posted.trans (mapZones_same _ _ fun _ _ => rfl)

theorem opStart_same (body : List Byte) : OpSame (opStart body) := fun s => by
  unfold opStart
  split
  · split
    · exact setStopped_same s ..
    · exact .refl s
  · exact .refl s

theorem opStop_same (body : List Byte) : OpSame (opStop body) := fun s => by
  unfold opStop
  split
  · split
    · exact setStopped_same s ..
    · exact .refl s
  · exact .refl s

theorem editPending_same (s : State) (f : Layout → Layout) : SameRecords s (editPending f s).1 :=
  .of_zones rfl rfl

theorem opDefineZone_same (body : List Byte) : OpSame (opDefineZone body) := fun s => by
  unfold opDefineZone
  split
  · dsimp only
    split
    · split
      · exact editPending_same s _
      · exact .refl s
    · exact .refl s
  · exact .refl s

theorem opDefineEye_same (body : List Byte) : OpSame (opDefineEye body) := fun s => by
  unfold opDefineEye
  repeat' split
  all_goals exact .of_zones rfl rfl

theorem opDefineDiverter_same (body : List Byte) : OpSame (opDefineDiverter body) := fun s => by
  unfold opDefineDiverter
  split
  · split
    · dsimp only
      split
      · exact editPending_same s _
      · exact .refl s
    · exact .refl s
  · exact .refl s

theorem opDefineDestination_same (body : List Byte) : OpSame (opDefineDestination body) :=
  fun s => by
    unfold opDefineDestination
    repeat' split
    all_goals exact .of_zones rfl rfl

theorem opUndefine_same (body : List Byte) : OpSame (opUndefine body) := fun s => by
  unfold opUndefine
  repeat' split
  all_goals exact .of_zones rfl rfl

theorem opSetLine_same (body : List Byte) : OpSame (opSetLine body) := fun s => by
  unfold opSetLine
  split
  · split
    · dsimp only
      split
      · exact editPending_same s _
      · exact .refl s
    · exact .refl s
  · exact .refl s

theorem opClearPending_same (body : List Byte) : OpSame (opClearPending body) := fun s => by
  unfold opClearPending
  repeat' split
  all_goals exact .of_zones rfl rfl

theorem opCopyActive_same (body : List Byte) : OpSame (opCopyActive body) := fun s => by
  unfold opCopyActive
  repeat' split
  all_goals exact .of_zones rfl rfl

theorem opReadLayout_same (body : List Byte) : OpSame (opReadLayout body) := fun s => by
  unfold opReadLayout
  repeat' split
  all_goals exact .of_zones rfl rfl

theorem opQueryItem_same (body : List Byte) : OpSame (opQueryItem body) := fun s => by
  unfold opQueryItem
  repeat' split
  all_goals exact .of_zones rfl rfl

theorem opListZone_same (body : List Byte) : OpSame (opListZone body) := fun s => by
  unfold opListZone
  repeat' split
  all_goals exact .of_zones rfl rfl

theorem deriveDownstream_same (s : State) : SameRecords s s.deriveDownstream :=
  mapZones_same s _ fun _ _ => rfl

theorem opHaltZone_same (body : List Byte) : OpSame (opHaltZone body) := fun s => by
  unfold opHaltZone
  split
  · split
    · exact .refl s
    · split
      · exact .refl s
      · exact (modifyReasons_same s _ _).trans (deriveDownstream_same _)
  · exact .refl s

theorem freeEye_same (s : State) (e : EyeId) (x : EyeState) (z : ZoneId) :
    SameRecords s ((s.setEye e x).post (.jam e z false)) := .of_zones rfl rfl

theorem withdrawJam_same (s : State) (z : ZoneId) : SameRecords s (s.withdrawJam z) :=
  modifyReasons_same s z _

theorem resume_same (s : State) (z : ZoneId) : SameRecords s (s.resume z) := by
  have unheld : SameRecords s (s.setHost z false) := modifyReasons_same s z _
  have cleared := foldl_same (State.clearHeld z) (fun s e => freeEye_same s e .clear z)
    (s.eyesIn z .jamHeld) (s.setHost z false)
  exact (unheld.trans cleared).trans (withdrawJam_same _ z)

theorem opResumeZone_same (body : List Byte) : OpSame (opResumeZone body) := fun s => by
  unfold opResumeZone
  split
  · split
    · exact .refl s
    · split
      · exact .refl s
      · exact resume_same s _
  · exact .refl s

theorem disableEye_same (s : State) (e : EyeId) (z : ZoneId) :
    SameRecords s (s.disableEye e z) := by
  unfold State.disableEye
  split_ifs
  · exact .refl s
  · exact (freeEye_same s e .disabled z).trans (withdrawJam_same _ z)
  · exact .of_zones rfl rfl

theorem opDisableEye_same (body : List Byte) : OpSame (opDisableEye body) := fun s => by
  unfold opDisableEye
  split
  · split
    · exact .refl s
    · split
      · exact .refl s
      · split
        · exact .refl s
        · exact disableEye_same s _ _
  · exact .refl s

theorem enableEye_same (s : State) (e : EyeId) : SameRecords s (s.enableEye e) := by
  unfold State.enableEye
  split
  · exact .of_zones rfl rfl
  · exact .refl s

theorem opEnableEye_same (body : List Byte) : OpSame (opEnableEye body) := fun s => by
  unfold opEnableEye
  split
  · split
    · exact .refl s
    · split
      · exact .refl s
      · exact enableEye_same s _
  · exact .refl s

/-! ### Requests that change the records -/

theorem opRestart_lawful (body : List Byte) : OpLawful (opRestart body) := fun s h => by
  unfold opRestart
  split
  · exact restart_lawful h
  · exact h

/-- R141: a commit is refused while an item or an announcement is held. -/
theorem opCommitLayout_lawful (body : List Byte) : OpLawful (opCommitLayout body) := fun s h => by
  unfold opCommitLayout
  split
  · split_ifs with _ hi
    · exact h
    · exact h
    · split
      · exact h
      · simp only [Bool.or_eq_true, Bool.not_eq_true', not_or, Bool.not_eq_false,
          List.isEmpty_iff] at hi
        exact commit_lawful h hi.1 hi.2
  · exact h

theorem tagHeld_iff {s : State} {tag : Nat} : s.tagHeld tag = true ↔ tag ∈ s.heldTags := by
  simp [State.tagHeld, State.heldTags, State.findItem]

/-- R43: an accepted announcement holds a host tag. -/
theorem announcementOf_range {f : AnnounceFields} {a : Announcement}
    (h : announcementOf f = some a) : 1 ≤ a.tag ∧ a.tag ≤ Config.lastHostTag := by
  unfold announcementOf at h
  split at h
  · next hr =>
    split at h
    · split at h <;> cases h
      exact hr
    · cases h
  · cases h

/-- R43: an announcement with a tag that nothing holds joins the queue. -/
theorem announce_lawful {s : State} (h : Lawful s) {a : Announcement} (hf : a.tag ∉ s.heldTags)
    (hr : 1 ≤ a.tag ∧ a.tag ≤ Config.lastHostTag)
    (hl : s.announcements.length < Config.announceCapacity) :
    Lawful { s with announcements := s.announcements ++ [a] } := by
  obtain ⟨free, nodup, hostTags, room, positive, zone, anonymous⟩ := h.booked.pool
  refine h.of_pool ⟨free, ?_, fun b hb => ?_, ?_, positive, zone, anonymous⟩ rfl rfl rfl
  · change ((s.announcements ++ [a]).map Announcement.tag ++ s.lineTags).Nodup
    rw [List.map_append, List.append_assoc]
    exact List.nodup_middle.2 (List.nodup_cons.2 ⟨hf, nodup⟩)
  · rcases List.mem_append.1 hb with hb | hb
    · exact hostTags b hb
    · exact List.mem_singleton.1 hb ▸ hr
  · simpa using hl

theorem opAnnounce_lawful (body : List Byte) : OpLawful (opAnnounce body) := fun s h => by
  unfold opAnnounce
  split
  · exact h
  · split
    · exact h
    · split
      · exact h
      · next a ha =>
        split_ifs with hf hl
        · exact h
        · exact h
        · exact announce_lawful h (fun hx => hf (tagHeld_iff.2 hx)) (announcementOf_range ha)
            (Nat.lt_of_not_le hl)

/-- R45: announcements taken from the queue. -/
theorem withdraw_lawful {s : State} (h : Lawful s) {rest : List Announcement}
    (hr : rest.Sublist s.announcements) : Lawful { s with announcements := rest } := by
  obtain ⟨free, nodup, hostTags, room, positive, zone, anonymous⟩ := h.booked.pool
  exact h.of_pool ⟨free, nodup.sublist ((hr.map _).append_right _),
    fun b hb => hostTags b (hr.subset hb), hr.length_le.trans room, positive, zone, anonymous⟩
    rfl rfl rfl

theorem opWithdraw_lawful (body : List Byte) : OpLawful (opWithdraw body) := fun s h => by
  unfold opWithdraw
  split
  · split
    · exact withdraw_lawful h List.filter_sublist
    · exact h
  · exact h

theorem opPurge_lawful (body : List Byte) : OpLawful (opPurge body) := fun s h => by
  unfold opPurge
  split
  · split
    · exact h
    · next i hf =>
      split
      · exact h
      · obtain ⟨hi, -⟩ := findItem_eq_some hf
        exact h.release (List.mem_map_of_mem hi)
  · exact h

theorem reroute_lawful {s : State} (h : Lawful s) {i : Item} (hi : i ∈ s.lineItems)
    (hs : i.state = .tracked) (c : DestinationCode) : Lawful (s.reroute i c).1 := by
  have tracked : s.Tracks i.tag := ⟨i.assigned, hs ▸ holds_of_mem hi⟩
  have rerouted : Lawful (s.updateItem i.tag fun j => { j with destination := some c }) :=
    h.updateItem i.tag _ (fun _ => rfl) (fun _ => rfl) fun _ => ⟨rfl, rfl⟩
  exact rerouted.reassign
    (tracks_updateItem_same tracked i.tag (fun _ => rfl) fun _ => ⟨rfl, rfl⟩) none

theorem opReroute_lawful (body : List Byte) : OpLawful (opReroute body) := fun s h => by
  unfold opReroute
  split
  · split
    · exact h
    · split
      · exact h
      · next i hf =>
        split
        · exact h
        · next hs =>
          obtain ⟨hi, -⟩ := findItem_eq_some hf
          have tracked : i.state = .tracked := by cases hi : i.state <;> simp_all
          exact reroute_lawful h hi tracked _
  · exact h

/-- R119: a diverter request is refused, or has its effect on a diverter that it may have it on. -/
theorem diverterRequest_lawful {allowed : State → DiverterId → Bool}
    {effect : DiverterId → State → State}
    (he : ∀ s d, Lawful s → allowed s d = true → Lawful (effect d s)) (body : List Byte) :
    OpLawful (diverterRequest allowed effect body) := fun s h => by
  unfold diverterRequest
  split
  · split
    · exact h
    · split
      · exact h
      · split
        · next ha => exact he s _ h ha
        · exact h
  · exact h

theorem testStroke_lawful (s : State) (d : DiverterId) (h : Lawful s) (ha : s.mayTest d = true) :
    Lawful (s.testStroke d) := by
  simp only [State.mayTest, Bool.and_eq_true, decide_eq_true_eq] at ha
  obtain ⟨⟨-, idle⟩, -⟩ := ha
  have empty := h.struck d (idle ▸ nofun)
  exact h.modifyDiverter d _ empty.symm nofun empty

theorem opTestDiverter_lawful (body : List Byte) : OpLawful (opTestDiverter body) :=
  diverterRequest_lawful testStroke_lawful body

theorem opDisableDiverter_lawful (body : List Byte) : OpLawful (opDisableDiverter body) :=
  diverterRequest_lawful (fun _ d h _ => disableDiverter_lawful h d) body

theorem opEnableDiverter_lawful (body : List Byte) : OpLawful (opEnableDiverter body) :=
  diverterRequest_lawful
    (fun _ _ h ha => enterSettling_outOfService h (by rw [of_decide_eq_true ha]; rfl)) body

theorem opClearDiverterFault_lawful (body : List Byte) : OpLawful (opClearDiverterFault body) :=
  diverterRequest_lawful
    (fun _ _ h ha => clearFault_lawful h (by rw [of_decide_eq_true ha]; rfl)) body

/-- R154 steps 4 to 6: whatever request a KIND names. -/
theorem runKind_lawful (kind : Byte) (body : List Byte) : OpLawful (runKind kind body) := by
  unfold runKind
  split
  · exact (opStatus_same body).lawful
  · exact (opIdentify_same body).lawful
  · exact (opSetLink_same body).lawful
  · exact (opReportAck_same body).lawful
  · exact opRestart_lawful body
  · exact (opStart_same body).lawful
  · exact (opStop_same body).lawful
  · exact (opDefineZone_same body).lawful
  · exact (opDefineEye_same body).lawful
  · exact (opDefineDiverter_same body).lawful
  · exact (opDefineDestination_same body).lawful
  · exact (opUndefine_same body).lawful
  · exact (opSetLine_same body).lawful
  · exact (opClearPending_same body).lawful
  · exact (opCopyActive_same body).lawful
  · exact (opReadLayout_same body).lawful
  · exact opCommitLayout_lawful body
  · exact opAnnounce_lawful body
  · exact opWithdraw_lawful body
  · exact (opQueryItem_same body).lawful
  · exact (opListZone_same body).lawful
  · exact opPurge_lawful body
  · exact opReroute_lawful body
  · exact (opHaltZone_same body).lawful
  · exact (opResumeZone_same body).lawful
  · exact (opDisableEye_same body).lawful
  · exact (opEnableEye_same body).lawful
  · exact opTestDiverter_lawful body
  · exact opDisableDiverter_lawful body
  · exact opEnableDiverter_lawful body
  · exact opClearDiverterFault_lawful body
  · exact fun _ h => h

/-! ### The end of a happening, and frames -/

theorem settleZones_same (s : State) : SameRecords s s.settleZones := by
  rw [settleZones_eq, postAll_frame]
  exact ⟨rfl, fun z => by simp [State.settledZone, ZoneUnit.settled]⟩

theorem chooseFrame_same (s : State) : SameRecords s s.chooseFrame := by
  rw [chooseFrame_frame]
  exact .of_zones rfl rfl

theorem supervise_same (s : State) : SameRecords s s.supervise :=
  (modifyReasons_same s 0 fun r => { r with link := false }).trans (.of_zones rfl rfl)

theorem linkDown_same (s : State) : SameRecords s s.linkDown :=
  (modifyReasons_same s 0 fun r =>
    { r with link := r.link || (s.configured && s.activeLayout.line.infeedHold) }).trans
    (.of_zones rfl rfl)

theorem countDiscard_same (s : State) : SameRecords s s.countDiscard := count_same s _

theorem dropFrame_same (s : State) : SameRecords s s.dropFrame :=
  (supervise_same s).trans (countDiscard_same _)

theorem takeLater_same (s : State) (later : List ScanEvent) :
    SameRecords s (s.takeLater later) := by
  refine foldl_same _ (fun t ev => ?_) later s
  cases ev with
  | frame f => exact dropFrame_same t
  | discard => exact countDiscard_same t

theorem placeReply_same (s : State) (kind seq : Byte) (a : Answer) :
    SameRecords s (s.placeReply kind seq a) := .of_zones rfl rfl

theorem fillSlot_same (s : State) (reply : Frame) :
    SameRecords s { s with link := { s.link with slot := some reply } } := .of_zones rfl rfl

theorem handle_lawful (kind seq : Byte) {op : State → State × Answer} (hop : OpLawful op)
    (later : List ScanEvent) {s : State} (h : Lawful s) : Lawful (s.handle kind seq op later) := by
  have supervised := h.same (supervise_same s)
  unfold State.handle
  split
  · exact ((h.same (dropFrame_same s)).same (takeLater_same _ later)).same (settleZones_same _)
  · split
    · exact ((supervised.same (takeLater_same _ later)).same (settleZones_same _)).same
        (fillSlot_same _ _)
    · exact (((hop _ supervised).same (takeLater_same _ later)).same (settleZones_same _)).same
        (placeReply_same _ kind seq _)

theorem request_lawful {kind seq : Byte} {op : State → State × Answer} (hop : OpLawful op)
    {s t : State} (hs : Lawful s) (h : request kind seq op s = .next t) : Lawful t := by
  unfold request at h
  split at h <;> cases h
  · exact hs
  · have rested : Lawful s.rest := hs.same (.of_zones rfl rfl)
    exact (handle_lawful kind seq hop [] rested).same (chooseFrame_same _)

theorem takeEvents_lawful (events : List ScanEvent) {s : State} (h : Lawful s) :
    Lawful (s.takeEvents events) := by
  induction events generalizing s with
  | nil => exact h.same (settleZones_same s)
  | cons ev later ih =>
    cases ev with
    | frame f => exact handle_lawful f.kind f.seq (runKind_lawful f.kind f.body) later h
    | discard => exact ih (h.same (countDiscard_same s))

theorem receive_lawful {s : State} (h : Lawful s) (scanned : List ScanEvent × Receiver) :
    Lawful (s.receive scanned) := by
  have taken : Lawful (s.setReceiver scanned.2) := h.same (.of_zones rfl rfl)
  exact (takeEvents_lawful scanned.1 taken).same (chooseFrame_same _)

/-! ### Commands -/

/-- A happening that occurs, and whose effect keeps the laws, keeps them whole. -/
theorem happening_lawful {occurs : Bool} {effect : State → State} {s t : State} (hs : Lawful s)
    (he : occurs = true → Lawful (effect s)) (h : happening occurs effect s = .next t) :
    Lawful t := by
  unfold happening at h
  split at h <;> cases h
  · next ho =>
    exact ((he (Bool.and_eq_true_iff.1 ho).2).same (settleZones_same _)).same (chooseFrame_same _)
  · exact hs

/-- R151, R154: every request command is the frame of its kind. -/
theorem exec_request {c : Instr} {f : Frame} (h : requestParts c = some f) (s : State) :
    exec c s = request f.kind f.seq (runKind f.kind f.body) s := by
  cases c <;> cases h <;> rfl

/-- R14: the ESTOP input is read into the halt reasons. -/
theorem estopAtZones_same (s : State) (active : Bool) : SameRecords s (s.estopAtZones active) :=
  (mapZones_same s (fun _ u => { u with reasons := { u.reasons with estop := active } })
    fun _ _ => rfl).trans (.of_zones rfl rfl)

theorem estopAtDiverters_lawful {s : State} (h : Lawful s) (active : Bool) :
    Lawful (s.estopAtDiverters active) := by
  have read : Lawful { s with inputs := { s.inputs with estop := active } } :=
    h.same (.of_zones rfl rfl)
  unfold State.estopAtDiverters
  dsimp only
  split
  · exact withdrawStrokes_lawful read
  · exact read

theorem jamEye_same (s : State) (e : EyeId) : SameRecords s (s.jamEye e) := by
  unfold State.jamEye
  split
  · exact .refl s
  · next d hd =>
    have posted : SameRecords s ((s.setEye e .jammed).post (.jam e d.zone true)) :=
      .of_zones rfl rfl
    exact posted.trans (modifyReasons_same _ _ _)

/-- R104: the dwell timer runs in HOLDING alone. -/
theorem holding_of_dwell {s : State} {d : DiverterId} {p : Timer → Bool}
    (h : (s.dwellTimer d).any p = true) : s.diverters[d].state = .holding := by
  obtain ⟨τ, hτ, -⟩ := Option.any_eq_true .. |>.1 h
  exact ((s.dwellTimer_eq_some d τ).1 hτ).2

theorem rescan_lawful {p : Prop} [Decidable p] {s t : State} {buffer : List Byte} (hs : Lawful s)
    (h : (if p then .next (s.receive (rescan buffer)) else .next s :
      Host.Outcome State Fault Refusal) = .next t) : Lawful t := by
  split at h <;> cases h
  · exact receive_lawful hs _
  · exact hs

theorem exec_lawful {c : Instr} {s t : State} (hs : Lawful s) (h : exec c s = .next t) :
    Lawful t := by
  cases hc : requestParts c with
  | some f =>
    rw [exec_request hc] at h
    exact request_lawful (runKind_lawful f.kind f.body) hs h
  | none =>
    cases c with
    | powerOn i =>
      cases h
      exact begin_lawful s .powerOn i
    | resetinActive =>
      cases h
      exact void_lawful s
    | resetinInactive i =>
      rcases resetinInactive_cases h with ⟨-, rfl⟩ | ⟨-, rfl⟩
      exacts [begin_lawful s .resetLine i, hs]
    | encoderPulse z => exact happening_lawful hs (fun _ => pulse_lawful hs z) h
    | estopChangeAtZones active =>
      exact happening_lawful hs (fun _ => hs.same (estopAtZones_same s active)) h
    | estopChangeAtDiverters active =>
      exact happening_lawful hs (fun _ => estopAtDiverters_lawful hs active) h
    | blockedEdge e => exact happening_lawful hs (fun _ => blockedEdge_lawful hs e) h
    | unblockedEdge e => exact happening_lawful hs (fun _ => unblockedEdge_lawful hs e) h
    | homeActiveEdge d => exact happening_lawful hs (fun _ => homeActive_lawful hs d) h
    | homeInactiveEdge d => exact happening_lawful hs (fun _ => homeInactive_lawful hs d) h
    | jamTimerExpiry e => exact happening_lawful hs (fun _ => hs.same (jamEye_same s e)) h
    | strokeTimerExpiry d => exact happening_lawful hs (fun _ => enterFault_lawful hs d _) h
    | dwellTimerExpiry d =>
      exact happening_lawful hs
        (fun ho => enterRetracting_lawful hs (holding_of_dwell ho ▸ nofun)) h
    | returnTimerExpiry d => exact happening_lawful hs (fun _ => enterFault_lawful hs d _) h
    | interByteTimeout => exact rescan_lawful hs h
    | frameDiscarded buffer => exact rescan_lawful hs h
    | linkTimerExpiry => exact happening_lawful hs (fun _ => hs.same (linkDown_same s)) h
    | resendTimerExpiry => exact happening_lawful hs (fun _ => hs.same (.of_zones rfl rfl)) h
    | frameSent => exact happening_lawful hs (fun _ => hs.same (.of_zones rfl rfl)) h
    | receivedByte b =>
      change (if s.resetActive then _ else _) = _ at h
      split at h <;> cases h
      exacts [hs, receive_lawful hs _]
    | _ => cases hc

/-- R1: a millisecond changes timers alone. -/
theorem tick_same (s : State) : SameRecords s s.tick := by
  unfold State.tick
  split
  · exact .refl s
  · have advanced : (Vector.ofFn fun d : DiverterId =>
          { s.diverters[d] with timer := s.diverters[d].timer.map Timer.advance }).map
            (fun x => (x.state, x.slot)) = s.diverters.map fun x => (x.state, x.slot) := by
      ext i hi <;> simp
    exact ⟨by simp only [State.register, advanced], fun _ => rfl⟩

/-- Settles O9: every command keeps the laws whole, through effects that keep their parts, and a
millisecond does not touch what they speak of. -/
theorem stepKeepsRecordLaws : Obligations.StepKeepsRecordLaws := by
  intro s t hs h
  rw [recordLaws_iff] at hs ⊢
  unfold step at h
  split at h
  · rcases idleStep_cases s with ⟨-, hi⟩ | ⟨c, -, hi⟩ | ⟨-, c, -, hi⟩ <;> rw [hi] at h
    · cases h
      exact hs.same (tick_same s)
    · exact exec_lawful hs h
    · have counted : Lawful { s with freeIndex := s.freeIndex + 1 } := hs.same (.of_zones rfl rfl)
      exact exec_lawful counted h
  · next c rest _ =>
    have taken : Lawful { s with pending := rest } := hs.same (.of_zones rfl rfl)
    exact exec_lawful taken h

end Sys2Proof.Machine
end

section
/-! PROOFS. The requests that read what the module holds: the bytes of records and announcements,
what a tag is held by, and the statement that follows, `QueriesAnswerWhatIsHeld` (R38, R39). -/

namespace Sys2Proof.Machine

/-! ### The bytes of records and announcements (Table 10-8) -/

theorem optionalByte_eq {n : Nat} (f : Option (Fin n)) : optionalByte f = sentOr f := by
  cases f <;> rfl

theorem optionalBytes2_eq (e : Option Nat) : optionalBytes2 e = sent2 (e.getD 65535) := by
  cases e <;> rfl

theorem referenceBytes_eq (r : Option (BitVec 16)) : referenceBytes r = sentReference r :=
  optionalBytes2_eq _

theorem presenceByte_eq (a b : Bool) : presenceByte a b = sentSet [a, b] := by
  cases a <;> cases b <;> rfl

theorem flagsByte_eq (f : Flags) : f.byte = sentFlags f := by
  obtain ⟨a, b, c, d⟩ := f
  cases a <;> cases b <;> cases c <;> cases d <;> rfl

theorem originCode_eq (o : Origin) :
    o.code = match o with | .announced => 0x00#8 | .anonymous => 0x01#8 := by
  cases o <;> rfl

theorem itemStateCode_eq (x : ItemState) :
    x.code = match x with | .tracked => 0x00#8 | .diverting => 0x01#8 := by
  cases x <;> rfl

theorem item_bytes (i : Item) (p : Nat) : i.bytes p = sentItem i p := by
  unfold Item.bytes sentItem
  rw [originCode_eq, itemStateCode_eq, presenceByte_eq, referenceBytes_eq, optionalByte_eq,
    optionalByte_eq, optionalByte_eq, optionalByte_eq, optionalBytes2_eq, flagsByte_eq]
  rfl

theorem announcement_bytes (a : Announcement) : a.bytes = sentAnnouncement a := by
  unfold Announcement.bytes sentAnnouncement
  rw [presenceByte_eq, optionalBytes2_eq, referenceBytes_eq]
  rfl

/-! ### What a tag is held by -/

theorem PoolLaws.findItem_of_mem {s : State} (h : PoolLaws s) {i : Item} (hi : i ∈ s.lineItems) :
    s.findItem i.tag = some i := by
  cases hf : s.findItem i.tag with
  | none => exact absurd (List.mem_map_of_mem hi) (findItem_eq_none.1 hf)
  | some j =>
    obtain ⟨hj, ht⟩ := findItem_eq_some hf
    rw [h.eq_of_tag hj hi ht]

/-- R28: the tag of a waiting announcement is not held a second time, ahead of it or in line. -/
theorem PoolLaws.announcement_alone {s : State} (h : PoolLaws s) {ahead behind : List Announcement}
    {a : Announcement} (ha : s.announcements = ahead ++ a :: behind) :
    (∀ b ∈ ahead, b.tag ≠ a.tag) ∧ a.tag ∉ s.lineTags := by
  obtain ⟨tags, -, apart⟩ := List.nodup_append.1 h.nodup
  rw [ha, List.map_append, List.map_cons] at tags
  refine ⟨fun b hb => (List.nodup_append.1 tags).2.2 b.tag (List.mem_map_of_mem hb) a.tag
    List.mem_cons_self, fun hx => apart a.tag ?_ a.tag hx rfl⟩
  rw [ha]
  simp

theorem find_announcement {ahead behind : List Announcement} {a : Announcement}
    (h : ∀ b ∈ ahead, b.tag ≠ a.tag) :
    (ahead ++ a :: behind).find? (fun b => b.tag = a.tag) = some a := by
  have none : ahead.find? (fun b => b.tag = a.tag) = none := by simpa using h
  simp [List.find?_append, none]

/-- R38: an announcement's place counts those ahead of it. -/
theorem placeOf_announcement {ahead behind : List Announcement} {a : Announcement}
    (h : ∀ b ∈ ahead, b.tag ≠ a.tag) :
    placeOf a.tag (ahead ++ a :: behind) = ahead.length + 1 := by
  induction ahead with
  | nil => simp [placeOf, List.findIdx_cons]
  | cons b ahead ih =>
    have hb : b.tag ≠ a.tag := h b List.mem_cons_self
    have place := ih fun c hc => h c (List.mem_cons_of_mem _ hc)
    simpa [placeOf, List.findIdx_cons, hb] using place

/-- R39: a zone byte names the zone of its number, where the active layout defines it. -/
theorem namedZone_of_number (s : State) {b : Byte} {z : ZoneId} (hz : b.toNat = z.val) :
    s.namedZone b = (some z).filter s.zoneDefined := by
  simp [State.namedZone, numberBelow, hz]

theorem namedZone_of_defined {s : State} {b : Byte} {z : ZoneId} (hz : b.toNat = z.val)
    (hd : s.activeLayout.zones[z].isSome = true) : s.namedZone b = some z := by
  rw [namedZone_of_number s hz, Option.filter_some, if_pos (show s.zoneDefined z = true from hd)]

theorem namedZone_of_undefined {s : State} {b : Byte}
    (h : 4 ≤ b.toNat ∨ ∃ z : ZoneId, b.toNat = z.val ∧ s.activeLayout.zones[z] = none) :
    s.namedZone b = none := by
  rcases h with h | ⟨z, hz, hd⟩
  · simp [State.namedZone, numberBelow, Nat.not_lt.2 h]
  · rw [namedZone_of_number s hz, Option.filter_some, if_neg (by simp [State.zoneDefined, ← hd])]

/-! ### Requests that read (R38, R39) -/

/-- R154 step 1: a valid frame's signs of life leave a zone all but LINK. -/
theorem supervised_zone (s : State) (z : ZoneId) :
    s.rest.supervise.zones[z] = { s.zones[z] with
      reasons :=
        if 0 = z then { s.zones[z].reasons with link := false } else s.zones[z].reasons } :=
  modifyReasons_zone s.rest 0 z fun r => { r with link := false }

theorem supervised_position (s : State) (i : Item) :
    s.rest.supervise.position i = s.position i := by
  unfold State.position
  rw [supervised_zone]

theorem supervised_findItem (s : State) (tag : Nat) :
    s.rest.supervise.findItem tag = s.findItem tag := by
  unfold State.findItem
  rw [lineItems_congr (supervise_same s.rest).track]
  rfl

/-- A request that changes nothing, and answers the same before and after its frame's signs of
life. -/
def OpReads (op : State → State × Answer) : Prop :=
  ∀ s : State, op s.rest.supervise = (s.rest.supervise, (op s).2)

theorem opQueryItem_reads (b0 b1 : Byte) : OpReads (opQueryItem [b0, b1]) := fun s => by
  unfold opQueryItem
  dsimp only
  rw [supervised_findItem, State.supervise_announcements, State.rest_announcements]
  split
  · rw [supervised_position]
  · split <;> rfl

theorem opListZone_reads (b0 b1 : Byte) : OpReads (opListZone [b0, b1]) := fun s => by
  have named : s.rest.supervise.namedZone b0 = s.namedZone b0 := rfl
  unfold opListZone
  dsimp only
  rw [named, State.supervise_module, State.rest_module]
  split
  · rfl
  · split
    · rfl
    · rw [supervised_zone]

/-- R154: a fresh request that reads changes nothing but the link, and its answer is cached. -/
theorem request_reads (kind : Byte) {seq : Byte} {op : State → State × Answer} {s : State}
    {body : List Byte} (h : FreshRequest s seq) (hop : OpReads op) (ha : (op s).2 = .fixed body) :
    ∃ t, request kind seq op s = .next t ∧ Brings s s t [] ∧
      t.link.cache = some ⟨replyKind kind, seq, body⟩ := by
  refine request_takes kind seq op s s s.rest.supervise [] body h (ha ▸ hop s) rfl (fun z => ?_)
    fun _ => rfl
  rw [supervised_zone]
  split <;> rfl

theorem queryItem_takes {s : State} {seq b0 b1 : Byte} (h : FreshRequest s seq) {body : List Byte}
    (ha : (opQueryItem [b0, b1] s).2 = .fixed body) :
    Takes (.queryItem seq [b0, b1]) s s [] ⟨0xA2#8, seq, body⟩ :=
  request_reads 0x22#8 h (opQueryItem_reads b0 b1) ha

theorem listZone_takes {s : State} {seq b0 b1 : Byte} (h : FreshRequest s seq) {body : List Byte}
    (ha : (opListZone [b0, b1] s).2 = .fixed body) :
    Takes (.listZone seq [b0, b1]) s s [] ⟨0xA3#8, seq, body⟩ :=
  request_reads 0x23#8 h (opListZone_reads b0 b1) ha

/-! ### The answers -/

theorem queryItem_item {s : State} (h : PoolLaws s) {b0 b1 : Byte} {i : Item}
    (hi : i ∈ s.lineItems) (ht : i.tag = le16 b0 b1) :
    (opQueryItem [b0, b1] s).2 =
      .fixed ([0x00#8, 0x00#8] ++ sentItem i (s.place i.zone i)) := by
  unfold opQueryItem
  dsimp only
  rw [← ht, h.findItem_of_mem hi]
  dsimp only
  rw [item_bytes]
  rfl

theorem queryItem_announcement {s : State} (h : PoolLaws s) {b0 b1 : Byte}
    {ahead behind : List Announcement} {a : Announcement}
    (ha : s.announcements = ahead ++ a :: behind) (ht : a.tag = le16 b0 b1) :
    (opQueryItem [b0, b1] s).2 =
      .fixed ([0x00#8, 0x01#8] ++ sentAnnouncement a ++ [BitVec.ofNat 8 (ahead.length + 1)]) := by
  obtain ⟨first, apart⟩ := h.announcement_alone ha
  unfold opQueryItem
  dsimp only
  rw [← ht, findItem_eq_none.2 apart, ha, find_announcement first]
  dsimp only
  rw [placeOf_announcement first, announcement_bytes]
  rfl

theorem queryItem_unknown {s : State} {b0 b1 : Byte} (h : le16 b0 b1 ∉ s.heldTags) :
    (opQueryItem [b0, b1] s).2 = .fixed [0x06#8] := by
  obtain ⟨announced, line⟩ := not_or.1 (mt List.mem_append.2 h)
  have none : s.announcements.find? (fun a => a.tag = le16 b0 b1) = none := by
    simpa using announced
  unfold opQueryItem
  dsimp only
  rw [findItem_eq_none.2 line, none]
  rfl

theorem listZone_unconfigured {s : State} (b0 b1 : Byte) (h : s.module = .unconfigured) :
    (opListZone [b0, b1] s).2 = .fixed [0x04#8] := by
  unfold opListZone
  dsimp only
  rw [if_pos h]
  rfl

theorem listZone_unnamed {s : State} {b0 : Byte} (b1 : Byte) (h : s.module ≠ .unconfigured)
    (hz : s.namedZone b0 = none) : (opListZone [b0, b1] s).2 = .fixed [0x03#8] := by
  unfold opListZone
  dsimp only
  rw [if_neg h, hz]
  rfl

theorem listZone_named {s : State} {b0 : Byte} (b1 : Byte) {z : ZoneId}
    (h : s.module ≠ .unconfigured) (hz : s.namedZone b0 = some z) :
    (opListZone [b0, b1] s).2 = .fixed ([0x00#8, BitVec.ofNat 8 s.zones[z].track.length, b1,
      BitVec.ofNat 8 (tagsFrom b1.toNat s.zones[z].track).length] ++
        (tagsFrom b1.toNat s.zones[z].track).flatMap sent2) := by
  unfold opListZone
  dsimp only
  rw [if_neg h, hz]
  rfl

/-- Settles O41: each clause is the answer of the one branch of the request that its premises leave,
and a request that reads leaves the module as it is. -/
theorem queriesAnswerWhatIsHeld : Obligations.QueriesAnswerWhatIsHeld := by
  intro s seq b0 b1 hf hr
  have pool : PoolLaws s := ((recordLaws_iff s).1 hr).booked.pool
  refine ⟨fun i hi ht => ?_, fun ahead behind a ha ht => ?_, fun hx => ?_, fun hm => ?_,
    fun hm hz => ?_, fun z hm hz hd => ?_⟩
  · exact queryItem_takes hf (queryItem_item pool hi ht)
  · exact queryItem_takes hf (queryItem_announcement pool ha ht)
  · exact queryItem_takes hf (queryItem_unknown hx)
  · exact listZone_takes hf (listZone_unconfigured b0 b1 hm)
  · exact listZone_takes hf (listZone_unnamed b1 hm (namedZone_of_undefined hz))
  · exact listZone_takes hf (listZone_named b1 hm (namedZone_of_defined hz hd))

end Sys2Proof.Machine
end

section
/-! PROOFS. The requests that edit the announce queue: what a body of ANNOUNCE says, the answers in the
order of the checks, and the statement that follows, `AnnounceAndWithdrawEditTheQueue` (R43, R45). -/

namespace Sys2Proof.Machine

/-! ### The body of ANNOUNCE (R43, R183) -/

/-- R180: the number that a two-byte field's bytes, low byte first, stand for. -/
def fieldValue (b : Byte × Byte) : Nat := b.1.toNat + 256 * b.2.toNat

/-- R183: the bytes of a field that may be absent. -/
def fieldBytes (b : Option (Byte × Byte)) : List Byte := (b.map fun x => [x.1, x.2]).getD []

/-- R183: an ANNOUNCE body, with a presence byte that says which fields follow. -/
def announceBody (t0 t1 c : Byte) (expected reference : Option (Byte × Byte)) : List Byte :=
  [t0, t1, c, (if reference.isSome then 1#8 else 0#8) ||| (if expected.isSome then 2#8 else 0#8)] ++
    fieldBytes expected ++ fieldBytes reference

/-- What the body announces. -/
def sentFields (t0 t1 c : Byte) (expected reference : Option (Byte × Byte)) : AnnounceFields :=
  ⟨le16 t0 t1, c, expected.map fieldValue, reference.map fun b => b.2 ++ b.1⟩

theorem announceFields_body (t0 t1 c : Byte) (expected reference : Option (Byte × Byte)) :
    announceFields (announceBody t0 t1 c expected reference) =
      some (sentFields t0 t1 c expected reference) := by
  cases expected <;> cases reference <;>
    simp [announceFields, announceBody, fieldBytes, sentFields, fieldValue, le16]

/-- Table 3-2, the first three checks: the tag, the destination and the length are in range. -/
def AnnounceFields.InRange (f : AnnounceFields) : Prop :=
  (1 ≤ f.tag ∧ f.tag ≤ 61439) ∧ f.destination.toNat < 64 ∧ ∀ x ∈ f.expected, 1 ≤ x ∧ x ≤ 4095

theorem sentFields_inRange (t0 t1 c : Byte) (expected reference : Option (Byte × Byte)) :
    (sentFields t0 t1 c expected reference).InRange ↔
      (1 ≤ le16 t0 t1 ∧ le16 t0 t1 ≤ 61439) ∧ c.toNat < 64 ∧
        ∀ b ∈ expected, 1 ≤ fieldValue b ∧ fieldValue b ≤ 4095 := by
  have lengths : (∀ x ∈ expected.map fieldValue, 1 ≤ x ∧ x ≤ 4095) ↔
      ∀ b ∈ expected, 1 ≤ fieldValue b ∧ fieldValue b ≤ 4095 := by cases expected <;> simp
  exact and_congr .rfl (and_congr .rfl lengths)

theorem lengthInRange_iff (e : Option Nat) :
    (e.all fun x => decide (1 ≤ x ∧ x ≤ 4095)) = true ↔ ∀ x ∈ e, 1 ≤ x ∧ x ≤ 4095 := by
  cases e <;> simp

theorem announcementOf_inRange {f : AnnounceFields} {code : DestinationCode}
    (hc : f.destination.toNat = code.val) (h : f.InRange) :
    announcementOf f = some ⟨f.tag, code, f.expected, f.reference⟩ := by
  obtain ⟨tag, -, length⟩ := h
  have named : numberBelow 64 f.destination.toNat = some code := by simp [numberBelow, hc]
  unfold announcementOf
  rw [if_pos (show 1 ≤ f.tag ∧ f.tag ≤ Config.lastHostTag from tag), named]
  exact if_pos ((lengthInRange_iff _).2 length)

theorem announcementOf_outOfRange {f : AnnounceFields} (h : ¬ f.InRange) :
    announcementOf f = none := by
  unfold announcementOf
  split
  · next tag =>
    split
    · next code named =>
      have hd : f.destination.toNat < 64 := by
        by_contra hd
        simp [numberBelow, hd] at named
      exact if_neg fun length => h ⟨tag, hd, (lengthInRange_iff _).1 length⟩
    · rfl
  · rfl

/-! ### The effect of ANNOUNCE, check by check (R43, Table 3-2) -/

section

variable {s : State} {body : List Byte} {f : AnnounceFields}

theorem opAnnounce_unconfigured (hb : announceFields body = some f)
    (hm : s.module = .unconfigured) : opAnnounce body s = refuse .wrongState s := by
  unfold opAnnounce
  rw [hb]
  exact if_pos hm

theorem opAnnounce_outOfRange (hb : announceFields body = some f)
    (hm : s.module ≠ .unconfigured) (hr : ¬ f.InRange) :
    opAnnounce body s = refuse .badField s := by
  unfold opAnnounce
  rw [hb]
  dsimp only
  rw [if_neg hm, announcementOf_outOfRange hr]

/-- A body whose fields are in range comes to the last two checks. -/
theorem opAnnounce_inRange (hb : announceFields body = some f)
    (hm : s.module ≠ .unconfigured) {code : DestinationCode}
    (hc : f.destination.toNat = code.val) (hr : f.InRange) :
    opAnnounce body s =
      if s.tagHeld f.tag then refuse .duplicateTag s
      else if 16 ≤ s.announcements.length then refuse .queueFull s
      else
        ({ s with announcements :=
            s.announcements ++ [⟨f.tag, code, f.expected, f.reference⟩] },
          answer .ok [byteOf (s.announcements.length + 1)]) := by
  unfold opAnnounce
  rw [hb]
  dsimp only
  rw [if_neg hm, announcementOf_inRange hc hr]
  rfl

theorem opAnnounce_held (hb : announceFields body = some f) (hm : s.module ≠ .unconfigured)
    (hr : f.InRange) (ht : f.tag ∈ s.heldTags) :
    opAnnounce body s = refuse .duplicateTag s := by
  rw [opAnnounce_inRange hb hm (code := ⟨_, hr.2.1⟩) rfl hr, if_pos (tagHeld_iff.2 ht)]

theorem opAnnounce_full (hb : announceFields body = some f) (hm : s.module ≠ .unconfigured)
    (hr : f.InRange) (ht : f.tag ∉ s.heldTags) (hq : 16 ≤ s.announcements.length) :
    opAnnounce body s = refuse .queueFull s := by
  rw [opAnnounce_inRange hb hm (code := ⟨_, hr.2.1⟩) rfl hr, if_neg (tagHeld_iff.not.2 ht),
    if_pos hq]

theorem opAnnounce_accepted (hb : announceFields body = some f) (hm : s.module ≠ .unconfigured)
    {code : DestinationCode} (hc : f.destination.toNat = code.val) (hr : f.InRange)
    (ht : f.tag ∉ s.heldTags) (hq : s.announcements.length < 16) :
    opAnnounce body s =
      ({ s with announcements := s.announcements ++ [⟨f.tag, code, f.expected, f.reference⟩] },
        answer .ok [byteOf (s.announcements.length + 1)]) := by
  rw [opAnnounce_inRange hb hm hc hr, if_neg (tagHeld_iff.not.2 ht), if_neg (Nat.not_le.2 hq)]

end

/-! ### The effect of WITHDRAW (R45) -/

theorem filter_announcement {ahead behind : List Announcement} {a : Announcement}
    (h : ∀ b ∈ ahead ++ behind, b.tag ≠ a.tag) :
    (ahead ++ a :: behind).filter (fun b => b.tag != a.tag) = ahead ++ behind := by
  have others : (ahead ++ behind).filter (fun b => b.tag != a.tag) = ahead ++ behind :=
    List.filter_eq_self.2 fun b hb => by simpa using h b hb
  rw [← others]
  simp

theorem opWithdraw_waiting {s : State} {t0 t1 : Byte} {ahead behind : List Announcement}
    {a : Announcement} (ha : s.announcements = ahead ++ a :: behind) (ht : a.tag = le16 t0 t1)
    (h : ∀ b ∈ ahead ++ behind, b.tag ≠ a.tag) :
    opWithdraw [t0, t1] s =
      ({ s with announcements := ahead ++ behind },
        answer .ok (sentAnnouncement a ++ [byteOf (ahead.length + behind.length)])) := by
  unfold opWithdraw
  dsimp only
  rw [ha, ← ht, find_announcement fun b hb => h b (List.mem_append_left _ hb)]
  dsimp only
  rw [filter_announcement h, announcement_bytes, List.length_append]

theorem opWithdraw_unknown {s : State} {t0 t1 : Byte}
    (h : ∀ a ∈ s.announcements, a.tag ≠ le16 t0 t1) :
    opWithdraw [t0, t1] s = refuse .unknownTag s := by
  have none : s.announcements.find? (fun a => a.tag = le16 t0 t1) = none := by simpa using h
  unfold opWithdraw
  dsimp only
  rw [none]

/-! ### Requests that edit the queue -/

/-- A request that changes at most the announce queue, and does to it and answers the same before and
after its frame's signs of life. -/
def OpEditsQueue (op : State → State × Answer) : Prop :=
  ∀ s : State, op s.rest.supervise =
    ({ s.rest.supervise with announcements := (op s).1.announcements }, (op s).2)

theorem supervised_tagHeld (s : State) (tag : Nat) :
    s.rest.supervise.tagHeld tag = s.tagHeld tag := by
  unfold State.tagHeld
  rw [supervised_findItem, State.supervise_announcements, State.rest_announcements]

theorem opAnnounce_editsQueue (body : List Byte) : OpEditsQueue (opAnnounce body) := fun s => by
  unfold opAnnounce
  split
  · rfl
  · rw [State.supervise_module, State.rest_module]
    split
    · rfl
    · split
      · rfl
      · rw [supervised_tagHeld, State.supervise_announcements, State.rest_announcements]
        split
        · rfl
        · split <;> rfl

theorem opWithdraw_editsQueue (body : List Byte) : OpEditsQueue (opWithdraw body) := fun s => by
  unfold opWithdraw
  rw [State.supervise_announcements, State.rest_announcements]
  split
  · split <;> rfl
  · rfl

/-- R154: a fresh request that edits the queue changes nothing else but the link, and its answer is
cached. -/
theorem request_editsQueue (kind : Byte) {seq : Byte} {op : State → State × Answer} {s : State}
    {q : List Announcement} {body : List Byte} (h : FreshRequest s seq) (hop : OpEditsQueue op)
    (ha : op s = ({ s with announcements := q }, .fixed body)) :
    ∃ t, request kind seq op s = .next t ∧ Brings s { s with announcements := q } t [] ∧
      t.link.cache = some ⟨replyKind kind, seq, body⟩ := by
  have effect := hop s
  rw [ha] at effect
  refine request_takes kind seq op s { s with announcements := q }
    { s.rest.supervise with announcements := q } [] body h effect rfl (fun z => ?_) fun _ => rfl
  dsimp only
  rw [supervised_zone]
  split <;> rfl

theorem announce_takes {s : State} {seq : Byte} (h : FreshRequest s seq)
    {q : List Announcement} {sent body : List Byte}
    (ha : opAnnounce sent s = ({ s with announcements := q }, .fixed body)) :
    Takes (.announce seq sent) s { s with announcements := q } [] ⟨0xA0#8, seq, body⟩ :=
  request_editsQueue 0x20#8 h (opAnnounce_editsQueue sent) ha

theorem withdraw_takes {s : State} {seq : Byte} (h : FreshRequest s seq)
    {q : List Announcement} {sent body : List Byte}
    (ha : opWithdraw sent s = ({ s with announcements := q }, .fixed body)) :
    Takes (.withdraw seq sent) s { s with announcements := q } [] ⟨0xA1#8, seq, body⟩ :=
  request_editsQueue 0x21#8 h (opWithdraw_editsQueue sent) ha

/-- Settles O40: each clause is the branch of the request that its premises leave, and a request that
edits the queue leaves the rest of the module as it is. -/
theorem announceAndWithdrawEditTheQueue : Obligations.AnnounceAndWithdrawEditTheQueue := by
  intro s seq t0 t1 c expected reference hf
  have hb := announceFields_body t0 t1 c expected reference
  have range := sentFields_inRange t0 t1 c expected reference
  refine ⟨fun hm => ?_, fun hm hr => ?_, fun hm hr ht => ?_, fun hm hr ht hq => ?_,
    fun code hc hm hr ht hq => ?_, fun ahead behind a ha ht h => ?_, fun h => ?_⟩
  · exact announce_takes hf (opAnnounce_unconfigured hb hm)
  · exact announce_takes hf (opAnnounce_outOfRange hb hm (range.not.2 hr))
  · exact announce_takes hf (opAnnounce_held hb hm (range.2 hr) ht)
  · exact announce_takes hf (opAnnounce_full hb hm (range.2 hr) ht hq)
  · exact announce_takes hf (opAnnounce_accepted hb hm hc (range.2 hr) ht hq)
  · exact withdraw_takes hf (opWithdraw_waiting ha ht fun b hb => ht ▸ h b hb)
  · exact withdraw_takes hf (opWithdraw_unknown h)

end Sys2Proof.Machine
end

section
/-! PROOFS. The requests to the eyes: the eye that a request names, what each does to it, and the
statement that follows, `EyesAreDisabledAndEnabled` (R76 to R78). -/

namespace Sys2Proof.Machine

/-! ### The eye that a request names (R76) -/

theorem namedEye_of_number (s : State) {b : Byte} {e : EyeId} (he : b.toNat = e.val) :
    s.namedEye b = (s.activeLayout.eyes[e]).map fun d => (e, d) := by
  simp [State.namedEye, numberBelow, he]

theorem namedEye_of_defined {s : State} {b : Byte} {e : EyeId} {d : EyeDef} (he : b.toNat = e.val)
    (hd : s.activeLayout.eyes[e] = some d) : s.namedEye b = some (e, d) := by
  rw [namedEye_of_number s he, hd, Option.map_some]

theorem namedEye_of_undefined {s : State} {b : Byte}
    (h : 12 ≤ b.toNat ∨ ∃ e : EyeId, b.toNat = e.val ∧ s.activeLayout.eyes[e] = none) :
    s.namedEye b = none := by
  rcases h with h | ⟨e, he, hd⟩
  · simp [State.namedEye, numberBelow, Nat.not_lt.2 h]
  · rw [namedEye_of_number s he, hd, Option.map_none]

/-! ### The first two checks of Table 4-8 -/

section

variable {s : State} {b : Byte}

theorem opDisableEye_unconfigured (hm : s.module = .unconfigured) :
    opDisableEye [b] s = refuse .wrongState s := if_pos hm

theorem opEnableEye_unconfigured (hm : s.module = .unconfigured) :
    opEnableEye [b] s = refuse .wrongState s := if_pos hm

theorem opDisableEye_unnamed (hm : s.module ≠ .unconfigured) (hn : s.namedEye b = none) :
    opDisableEye [b] s = refuse .badField s := by
  unfold opDisableEye
  dsimp only
  rw [if_neg hm, hn]

theorem opEnableEye_unnamed (hm : s.module ≠ .unconfigured) (hn : s.namedEye b = none) :
    opEnableEye [b] s = refuse .badField s := by
  unfold opEnableEye
  dsimp only
  rw [if_neg hm, hn]

end

/-! ### What becomes of the eye (R77, R78) -/

section

variable {s : State} {e : EyeId}

theorem disableEye_of_disabled (z : ZoneId) (h : s.eyes[e].state = .disabled) :
    s.disableEye e z = s := if_pos h

theorem disableEye_of_free (z : ZoneId) (h : s.eyes[e].state ≠ .disabled)
    (hj : s.eyes[e].state.holdsJam = false) : s.disableEye e z = s.setEye e .disabled := by
  unfold State.disableEye
  rw [if_neg h, if_neg (Bool.eq_false_iff.1 hj)]

/-- R77: an eye that holds JAM is cleared of it, and its zone too if no other eye jams it. -/
theorem disableEye_of_holdsJam (z : ZoneId) (hj : s.eyes[e].state.holdsJam = true) :
    s.disableEye e z = ((s.setEye e .disabled).withdrawJam z).post (.jam e z false) := by
  have h : s.eyes[e].state ≠ .disabled := fun h => by rw [h] at hj; cases hj
  unfold State.disableEye
  rw [if_neg h, if_pos hj]
  rfl

theorem enableEye_of_enabled (h : s.eyes[e].state ≠ .disabled) : s.enableEye e = s := if_neg h

theorem enableEye_of_disabled (h : s.eyes[e].state = .disabled) :
    s.enableEye e = s.setEye e (if s.eyeBlocked e then .blocked else .clear) := if_pos h

/-- R62: the blocked condition of a defined eye. -/
theorem eyeBlocked_of_defined {d : EyeDef} (hd : s.activeLayout.eyes[e] = some d) :
    s.eyeBlocked e = if d.sense = .darkOn then s.inputs.eyes[e] else !s.inputs.eyes[e] := by
  unfold State.eyeBlocked
  rw [hd]
  dsimp only
  cases d.sense <;> rfl

/-- R15: with eye `e` freed, a zone is jammed by the eyes other than `e`. -/
theorem setEye_zoneJammed {x : EyeState} (z : ZoneId) (hx : x.holdsJam = false) :
    (s.setEye e x).zoneJammed z = allEyes.any fun f => f != e && s.eyes[f].state.holdsJam &&
      s.activeLayout.eyes[f].any fun v => v.zone = z := by
  refine congrArg allEyes.any (funext fun f => ?_)
  rw [State.setEye_eyes, getElem_set_fin]
  by_cases h : e = f
  · simp [h, hx]
  · rw [if_neg h, bne_iff_ne.2 (Ne.symm h)]
    rfl

end

/-! ### The request for a named eye (Table 4-8, R77, R78) -/

section

variable {s : State} {b : Byte} {e : EyeId} {d : EyeDef}

/-- A named eye comes to the last check, its role. -/
theorem opDisableEye_named (hm : s.module ≠ .unconfigured) (hn : s.namedEye b = some (e, d)) :
    opDisableEye [b] s =
      if d.role = .induct then refuse .wrongState s
      else (s.disableEye e d.zone, .fixed [0x00#8, 0x04#8]) := by
  unfold opDisableEye
  dsimp only
  rw [if_neg hm, hn]
  rfl

theorem opDisableEye_induct (hm : s.module ≠ .unconfigured) (hn : s.namedEye b = some (e, d))
    (hr : d.role = .induct) : opDisableEye [b] s = refuse .wrongState s := by
  rw [opDisableEye_named hm hn, if_pos hr]

theorem opDisableEye_confirm (hm : s.module ≠ .unconfigured) (hn : s.namedEye b = some (e, d))
    (hr : d.role = .confirm) :
    opDisableEye [b] s = (s.disableEye e d.zone, .fixed [0x00#8, 0x04#8]) := by
  rw [opDisableEye_named hm hn, if_neg (by rw [hr]; decide)]

theorem opDisableEye_disabled (hm : s.module ≠ .unconfigured) (hn : s.namedEye b = some (e, d))
    (hr : d.role = .confirm) (h : s.eyes[e].state = .disabled) :
    opDisableEye [b] s = (s, .fixed [0x00#8, 0x04#8]) := by
  rw [opDisableEye_confirm hm hn hr, disableEye_of_disabled d.zone h]

theorem opDisableEye_free (hm : s.module ≠ .unconfigured) (hn : s.namedEye b = some (e, d))
    (hr : d.role = .confirm) (h : s.eyes[e].state ≠ .disabled)
    (hj : s.eyes[e].state.holdsJam = false) :
    opDisableEye [b] s = (s.setEye e .disabled, .fixed [0x00#8, 0x04#8]) := by
  rw [opDisableEye_confirm hm hn hr, disableEye_of_free d.zone h hj]

theorem opDisableEye_holdsJam (hm : s.module ≠ .unconfigured) (hn : s.namedEye b = some (e, d))
    (hr : d.role = .confirm) (hj : s.eyes[e].state.holdsJam = true) :
    opDisableEye [b] s = (((s.setEye e .disabled).withdrawJam d.zone).post (.jam e d.zone false),
      .fixed [0x00#8, 0x04#8]) := by
  rw [opDisableEye_confirm hm hn hr, disableEye_of_holdsJam d.zone hj]

theorem eyeStateCode_eq (x : EyeState) : x.code = sentEyeState x := by cases x <;> rfl

theorem opEnableEye_named (hm : s.module ≠ .unconfigured) (hn : s.namedEye b = some (e, d)) :
    opEnableEye [b] s =
      (s.enableEye e, .fixed [0x00#8, sentEyeState (s.enableEye e).eyes[e].state]) := by
  unfold opEnableEye
  dsimp only
  rw [if_neg hm, hn, ← eyeStateCode_eq]
  rfl

theorem opEnableEye_enabled (hm : s.module ≠ .unconfigured) (hn : s.namedEye b = some (e, d))
    (h : s.eyes[e].state ≠ .disabled) :
    opEnableEye [b] s = (s, .fixed [0x00#8, sentEyeState s.eyes[e].state]) := by
  rw [opEnableEye_named hm hn, enableEye_of_enabled h]

theorem opEnableEye_disabled (hm : s.module ≠ .unconfigured) (hn : s.namedEye b = some (e, d))
    (h : s.eyes[e].state = .disabled) :
    opEnableEye [b] s = (s.setEye e (if s.eyeBlocked e then .blocked else .clear),
      .fixed [0x00#8, if s.eyeBlocked e then 0x01#8 else 0x00#8]) := by
  rw [opEnableEye_named hm hn, enableEye_of_disabled h, State.setEye_eyes, getElem_set_fin,
    if_pos rfl]
  cases s.eyeBlocked e <;> rfl

end

/-! ### Requests that write the eyes -/

/-- R154: a fresh request that at most writes the eyes changes nothing else but the link, and its answer
is cached. -/
theorem request_writesEyes (kind : Byte) {seq : Byte} {op : State → State × Answer} {s : State}
    {eyes : Vector Eye 12} {body : List Byte} (h : FreshRequest s seq)
    (he : op s.rest.supervise = ({ s.rest.supervise with eyes := eyes }, .fixed body)) :
    ∃ t, request kind seq op s = .next t ∧ Brings s { s with eyes := eyes } t [] ∧
      t.link.cache = some ⟨replyKind kind, seq, body⟩ := by
  refine request_takes kind seq op s _ { s.rest.supervise with eyes := eyes } [] body h he rfl
    (fun z => ?_) fun _ => rfl
  dsimp only
  rw [supervised_zone]
  split <;> rfl

/-- R77: a fresh request that frees an eye and withdraws JAM from its zone, with a JAM report. -/
theorem request_freesEye (kind : Byte) {seq : Byte} {op : State → State × Answer} {s : State}
    {e : EyeId} {z : ZoneId} {x : EyeState} {r : Report} {body : List Byte} (h : FreshRequest s seq)
    (he : op s.rest.supervise =
      (((s.rest.supervise.setEye e x).withdrawJam z).post r, .fixed body)) :
    ∃ t, request kind seq op s = .next t ∧ Brings s ((s.setEye e x).withdrawJam z) t [r] ∧
      t.link.cache = some ⟨replyKind kind, seq, body⟩ := by
  refine request_takes kind seq op s _ ((s.rest.supervise.setEye e x).withdrawJam z) [r] body h he
    rfl (fun y => ?_) fun y => ?_
  · unfold State.withdrawJam
    rw [modifyReasons_zone, modifyReasons_zone, State.setEye_zones, State.setEye_zones,
      supervised_zone]
    split <;> split <;> rfl
  · unfold State.withdrawJam
    rw [modifyReasons_zone]
    rfl

section

variable {s : State} {seq b : Byte} {eyes : Vector Eye 12} {body : List Byte}

theorem disableEye_takes (h : FreshRequest s seq)
    (he : opDisableEye [b] s.rest.supervise =
      ({ s.rest.supervise with eyes := eyes }, .fixed body)) :
    Takes (.disableEye seq [b]) s { s with eyes := eyes } [] ⟨0xAA#8, seq, body⟩ :=
  request_writesEyes 0x2A#8 h he

theorem enableEye_takes (h : FreshRequest s seq)
    (he : opEnableEye [b] s.rest.supervise =
      ({ s.rest.supervise with eyes := eyes }, .fixed body)) :
    Takes (.enableEye seq [b]) s { s with eyes := eyes } [] ⟨0xAB#8, seq, body⟩ :=
  request_writesEyes 0x2B#8 h he

end

/-- Settles O46: each clause is the branch of the request that its premises leave, taken by
the state as the frame's signs of life leave it. -/
theorem eyesAreDisabledAndEnabled : Obligations.EyesAreDisabledAndEnabled := by
  intro s seq b hf
  refine ⟨fun hm => ⟨?_, ?_⟩, fun hm he => ?_, fun e d hd hm he => ?_⟩
  · exact disableEye_takes hf (opDisableEye_unconfigured hm)
  · exact enableEye_takes hf (opEnableEye_unconfigured hm)
  · have hn : s.rest.supervise.namedEye b = none := namedEye_of_undefined he
    exact ⟨disableEye_takes hf (opDisableEye_unnamed hm hn),
      enableEye_takes hf (opEnableEye_unnamed hm hn)⟩
  · have hn : s.rest.supervise.namedEye b = some (e, d) := namedEye_of_defined he hd
    refine ⟨fun hr => ?_, fun hr h => ?_, fun hr h hj => ?_, fun hr hj => ?_, fun h => ?_,
      fun h => ?_⟩
    · exact disableEye_takes hf (opDisableEye_induct hm hn hr)
    · exact disableEye_takes hf (opDisableEye_disabled hm hn hr h)
    · exact disableEye_takes hf (opDisableEye_free hm hn hr h hj)
    · rw [← setEye_zoneJammed d.zone (x := .disabled) rfl]
      exact request_freesEye 0x2A#8 hf (opDisableEye_holdsJam hm hn hr hj)
    · exact enableEye_takes hf (opEnableEye_enabled hm hn h)
    · rw [← eyeBlocked_of_defined hd]
      exact enableEye_takes hf (opEnableEye_disabled hm hn h)

end Sys2Proof.Machine
end

section
/-! PROOFS. REROUTE: when a diverter is claimable, where a claim joins its list, what an assignment
reads of the state, and the statement that follows, `RerouteAssignsAfresh` (R84, R85, R87, R93). -/

namespace Sys2Proof.Machine

/-! ### Claimability and assignment (R84, R85) -/

/-- R84: a diverter is claimable in service, from upstream of its trigger point. -/
theorem claimable_eq (s : State) (i : Item) (d : DiverterId) :
    s.claimable i d = (s.diverters[d].state.inService && s.activeLayout.diverters[d].any fun v =>
      decide (i.zone < v.zone ∨
        i.zone = v.zone ∧ s.place i.zone i + v.lead < v.firePosition)) := by
  unfold State.claimable
  cases s.activeLayout.diverters[d] with
  | none => simp
  | some v =>
    have upstream : (s.position i : Int) < v.triggerPoint ↔
        s.place i.zone i + v.lead < v.firePosition := by
      unfold DiverterDef.triggerPoint State.position State.place
      omega
    simp only [upstream, Option.any_some, Bool.decide_or, Bool.decide_and]

/-- R93 step 1: the item with its destination replaced. -/
def Item.sentTo (c : DestinationCode) (i : Item) : Item := { i with destination := some c }

/-- R85, with no diverter excluded: the primary diverter if claimable, or else the alternate. -/
theorem assignment_sentTo (s : State) (i : Item) (c : DestinationCode) :
    s.assignment (i.sentTo c) none =
      if s.activeLayout.destinations[c].primary.any (s.claimable i) then
        s.activeLayout.destinations[c].primary
      else if s.activeLayout.destinations[c].alternate.any (s.claimable i) then
        s.activeLayout.destinations[c].alternate
      else none := rfl

/-- An assignment reads the layout, the diverters and where the item stands. -/
theorem assignment_congr {s t : State} {i : Item} (hl : t.activeLayout = s.activeLayout)
    (hd : t.diverters = s.diverters) (hp : t.position i = s.position i)
    (excluded : Option DiverterId) : t.assignment i excluded = s.assignment i excluded := by
  unfold State.assignment State.takes State.claimable
  rw [hl, hd, hp]

/-! ### The place of a claim in its list (R87) -/

theorem precedes_iff (s : State) (a b : Item) : s.precedes a b = true ↔ s.before a b := by
  unfold State.precedes downstreamOf State.before
  rw [eq_comm (a := a.zone)]
  simp only [Bool.or_eq_true, Bool.and_eq_true, decide_eq_true_eq]
  rfl

/-- R87: a claim is put ahead of the first item of the list that it precedes in line. -/
theorem insertClaim_place (s : State) (i : Item) (l : List Nat) : ∃ k : Fin (l.length + 1),
    s.insertClaim i l = l.take k ++ i.tag :: l.drop k ∧
    (∀ x ∈ l.take k, (s.findItem x).any (s.precedes i) = false) ∧
    (∀ x, (l.drop k).head? = some x → (s.findItem x).any (s.precedes i) = true) := by
  induction l with
  | nil => exact ⟨0, rfl, nofun, nofun⟩
  | cons y l ih =>
    unfold State.insertClaim
    split
    · next hy => exact ⟨0, rfl, nofun, fun x hx => Option.some.inj hx ▸ hy⟩
    · next hy =>
      obtain ⟨k, split, past, next⟩ := ih
      refine ⟨k.succ, by rw [split]; rfl, fun x hx => ?_, next⟩
      rcases List.mem_cons.1 hx with rfl | hx
      · exact Bool.eq_false_iff.2 hy
      · exact past x hx

/-- R87: the claim lists that an assignment leaves. -/
theorem PoolLaws.claimsWith {s : State} (h : PoolLaws s) (i : Item) (new : Option DiverterId) :
    ClaimsWith s i new (s.claimLists i new) := by
  have ahead {j : Item} (hj : j ∈ s.lineItems) :
      (s.findItem j.tag).any (s.precedes i) = true ↔ s.before i j := by
    rw [h.findItem_of_mem hj, Option.any_some, precedes_iff]
  intro d
  have list : (s.claimLists i new)[d] =
      if new = some d then if i.tag ∈ s.claims[d] then s.claims[d] else s.insertClaim i s.claims[d]
      else s.claims[d].filter fun t => t != i.tag := by simp [State.claimLists]
  refine ⟨fun hn => ?_, fun hn ht => ?_, fun hn ht => ?_⟩
  · rw [list, if_neg hn]
  · rw [list, if_pos hn, if_pos ht]
  · obtain ⟨k, split, past, next⟩ := insertClaim_place s i s.claims[d]
    refine ⟨k, by rw [list, if_pos hn, if_neg ht, split], fun j hj hx => ?_, fun j hj hx => ?_⟩
    · rw [← ahead hj, past _ hx]
      decide
    · exact (ahead hj).1 (next _ hx)

/-- The claim lists read the items' places in line order. -/
theorem claimLists_congr {s t : State} {i j : Item} (hc : t.claims = s.claims)
    (ht : j.tag = i.tag)
    (hp : ∀ x, (t.findItem x).any (t.precedes j) = (s.findItem x).any (s.precedes i))
    (new : Option DiverterId) : t.claimLists j new = s.claimLists i new := by
  have insert (l : List Nat) : t.insertClaim j l = s.insertClaim i l := by
    induction l with
    | nil => simp only [State.insertClaim, ht]
    | cons y l ih => simp only [State.insertClaim, ht, hp, ih]
  simp only [State.claimLists, hc, ht, insert]

/-! ### A record changed where it stands -/

theorem updateItem_zone (s : State) (tag : Nat) (f : Item → Item) (z : ZoneId) :
    (s.updateItem tag f).zones[z] = { s.zones[z] with
      track := s.zones[z].track.map fun j => if j.tag = tag then f j else j } := by
  simp [State.updateItem]

theorem updateItem_position (s : State) (tag : Nat) (f : Item → Item) (i : Item) :
    (s.updateItem tag f).position i = s.position i := by
  unfold State.position
  rw [updateItem_zone]

section

variable {tag : Nat} {f : Item → Item}

theorem updateItem_findItem (s : State) (hf : ∀ j, (f j).tag = j.tag) (x : Nat) :
    (s.updateItem tag f).findItem x =
      (s.findItem x).map fun j => if j.tag = tag then f j else j := by
  have tags (j : Item) : (if j.tag = tag then f j else j).tag = j.tag := by
    split <;> simp only [hf]
  simp only [State.findItem, lineItems_updateItem, List.find?_map, Function.comp_def, tags]

theorem updateItem_updateItem (s : State) (g : Item → Item) (hf : ∀ j, (f j).tag = j.tag) :
    (s.updateItem tag f).updateItem tag g = s.updateItem tag fun j => g (f j) := by
  have twice : (fun j => if j.tag = tag then g j else j) ∘
      (fun j => if j.tag = tag then f j else j) = fun j => if j.tag = tag then g (f j) else j := by
    funext j
    by_cases h : j.tag = tag <;> simp [h, hf]
  simp [State.updateItem, State.mapZones, twice]

/-- A record changed in nothing of its place keeps the line order. -/
theorem updateItem_precedes (s : State) (hf : ∀ j, (f j).tag = j.tag)
    (hz : ∀ j, (f j).zone = j.zone) (hb : ∀ j, (f j).base = j.base) (i : Item) (x : Nat) :
    ((s.updateItem tag f).findItem x).any ((s.updateItem tag f).precedes (f i)) =
      (s.findItem x).any (s.precedes i) := by
  have stands (j : Item) : s.position (f j) = s.position j := by
    simp only [State.position, hz, hb]
  rw [updateItem_findItem s hf]
  cases s.findItem x with
  | none => rfl
  | some j =>
    simp only [Option.map_some, Option.any_some, State.precedes, updateItem_position]
    split <;> simp only [hz, stands]

end

/-! ### REROUTE (R93) -/

/-- R93 steps 1 to 3: the state with item `i` given a destination and an assignment. -/
def State.rerouted (s : State) (i : Item) (c : DestinationCode) (new : Option DiverterId) : State :=
  { s.updateItem i.tag fun j => { j with destination := some c, assigned := new } with
    claims := s.claimLists i new }

theorem reassign_found {s : State} {tag : Nat} {i : Item} (h : s.findItem tag = some i)
    (excluded : Option DiverterId) : s.reassign tag excluded =
      (s.writeClaim i (s.assignment i excluded), s.assignment i excluded) := by
  unfold State.reassign
  rw [h]

theorem reroute_eq {s : State} {i : Item} (h : s.findItem i.tag = some i) (c : DestinationCode) :
    s.reroute i c = (s.rerouted i c (s.assignment (i.sentTo c) none),
      s.assignment (i.sentTo c) none) := by
  have tags (j : Item) : (j.sentTo c).tag = j.tag := rfl
  have found : (s.updateItem i.tag (Item.sentTo c)).findItem i.tag = some (i.sentTo c) := by
    rw [updateItem_findItem s tags, h, Option.map_some, if_pos rfl]
  have assigned : (s.updateItem i.tag (Item.sentTo c)).assignment (i.sentTo c) none =
      s.assignment (i.sentTo c) none :=
    assignment_congr (State.updateItem_activeLayout ..) (State.updateItem_diverters ..)
      (updateItem_position ..) none
  have claims := claimLists_congr (s := s) (t := s.updateItem i.tag (Item.sentTo c))
    (State.updateItem_claims ..) (tags i)
    (updateItem_precedes s tags (fun _ => rfl) (fun _ => rfl) i)
  calc s.reroute i c
      = (s.updateItem i.tag (Item.sentTo c)).reassign i.tag none := rfl
    _ = _ := by
      rw [reassign_found found, assigned, State.writeClaim, claims, tags,
        updateItem_updateItem s _ tags]
      rfl

/-! ### The checks of REROUTE (Table 5-2) -/

theorem bytes2_le16 (lo hi : Byte) : bytes2 (le16 lo hi) = [lo, hi] := by
  have low : byteOf (le16 lo hi) = lo := BitVec.eq_of_toNat_eq (by simp [byteOf, le16]; omega)
  have high : byteOf (le16 lo hi / 256) = hi :=
    BitVec.eq_of_toNat_eq (by simp [byteOf, le16]; omega)
  rw [bytes2, low, high]

section

variable {s : State} {t0 t1 c : Byte}

theorem opReroute_badField (hc : 64 ≤ c.toNat) :
    opReroute [t0, t1, c] s = refuse .badField s := by
  simp [opReroute, numberBelow, Nat.not_lt.2 hc]

/-- A destination in range leaves the checks of the tag and of the record's state. -/
theorem opReroute_inRange {code : DestinationCode} (hc : c.toNat = code.val) :
    opReroute [t0, t1, c] s =
      (s.findItem (le16 t0 t1)).elim (refuse .unknownTag s) fun i =>
        if i.state = .diverting then refuse .tooLate s
        else ((s.reroute i code).1, answer .ok
          (bytes2 i.tag ++ [c, optionalByte i.assigned, optionalByte (s.reroute i code).2])) := by
  have named : numberBelow 64 c.toNat = some code := by simp [numberBelow, hc]
  unfold opReroute
  dsimp only
  rw [named]
  cases s.findItem (le16 t0 t1) <;> rfl

theorem opReroute_unknownTag (hc : c.toNat < 64) (hf : s.findItem (le16 t0 t1) = none) :
    opReroute [t0, t1, c] s = refuse .unknownTag s := by
  rw [opReroute_inRange (code := ⟨_, hc⟩) rfl, hf, Option.elim_none]

theorem opReroute_tooLate (hc : c.toNat < 64) {i : Item}
    (hf : s.findItem (le16 t0 t1) = some i) (hs : i.state = .diverting) :
    opReroute [t0, t1, c] s = refuse .tooLate s := by
  rw [opReroute_inRange (code := ⟨_, hc⟩) rfl, hf, Option.elim_some, if_pos hs]

theorem opReroute_tracked {code : DestinationCode} (hc : c.toNat = code.val) {i : Item}
    (hf : s.findItem (le16 t0 t1) = some i) (hs : i.state = .tracked) :
    opReroute [t0, t1, c] s = (s.rerouted i code (s.assignment (i.sentTo code) none),
      .fixed [0x00#8, t0, t1, c, sentOr i.assigned,
        sentOr (s.assignment (i.sentTo code) none)]) := by
  obtain ⟨-, tag⟩ := findItem_eq_some hf
  rw [opReroute_inRange hc, hf, Option.elim_some, if_neg (by rw [hs]; decide),
    reroute_eq (tag ▸ hf), tag, bytes2_le16, optionalByte_eq, optionalByte_eq]
  rfl

end

/-! ### The request (R154, R156) -/

section

variable {s : State} {seq t0 t1 c : Byte}

/-- R154: a fresh request that is refused changes nothing but the link, and the refusal is cached. -/
theorem request_refused (kind : Byte) {op : State → State × Answer} {r : ResultCode}
    (h : FreshRequest s seq) (hop : op s.rest.supervise = refuse r s.rest.supervise) :
    ∃ t, request kind seq op s = .next t ∧ Brings s s t [] ∧
      t.link.cache = some ⟨replyKind kind, seq, [r.code]⟩ := by
  refine request_takes kind seq op s s s.rest.supervise [] [r.code] h hop rfl (fun z => ?_)
    fun _ => rfl
  rw [supervised_zone]
  split <;> rfl

theorem reroute_refused {r : ResultCode} (h : FreshRequest s seq)
    (hop : opReroute [t0, t1, c] s.rest.supervise = refuse r s.rest.supervise) :
    Takes (.reroute seq [t0, t1, c]) s s [] ⟨0xA5#8, seq, [r.code]⟩ :=
  request_refused 0x25#8 h hop

theorem supervised_claimLists (s : State) (i : Item) (new : Option DiverterId) :
    s.rest.supervise.claimLists i new = s.claimLists i new := by
  refine claimLists_congr (by rw [State.supervise_claims, State.rest_claims]) rfl (fun x => ?_) new
  rw [supervised_findItem]
  cases s.findItem x with
  | none => rfl
  | some j => simp only [Option.any_some, State.precedes, supervised_position]

/-- R93, R154: a fresh REROUTE of a tracked item. -/
theorem reroute_takes (h : FreshRequest s seq) {code : DestinationCode} (hc : c.toNat = code.val)
    {i : Item} (hf : s.findItem (le16 t0 t1) = some i) (hs : i.state = .tracked) :
    Takes (.reroute seq [t0, t1, c]) s (s.rerouted i code (s.assignment (i.sentTo code) none)) []
      ⟨0xA5#8, seq, [0x00#8, t0, t1, c, sentOr i.assigned,
        sentOr (s.assignment (i.sentTo code) none)]⟩ := by
  have effect := opReroute_tracked hc ((supervised_findItem s _).trans hf) hs
  have assigned : s.rest.supervise.assignment (i.sentTo code) none =
      s.assignment (i.sentTo code) none :=
    assignment_congr (by rw [State.supervise_activeLayout, State.rest_activeLayout])
      (by rw [State.supervise_diverters, State.rest_diverters]) (supervised_position ..) none
  rw [assigned] at effect
  generalize s.assignment (i.sentTo code) none = new at effect ⊢
  refine request_takes 0x25#8 seq _ s (s.rerouted i code new) (s.rest.supervise.rerouted i code new)
    [] _ h effect ?_ (fun z => ?_) fun z => ?_
  · unfold State.rerouted
    rw [supervised_claimLists]
    rfl
  · unfold State.rerouted
    dsimp only
    rw [updateItem_zone, updateItem_zone, supervised_zone]
    split <;> rfl
  · unfold State.rerouted
    dsimp only
    rw [updateItem_zone]

end

/-- Settles O43: each clause is the branch of the request that its premises leave. An accepted REROUTE
leaves the state `rerouted`, with the assignment that R85 gives and the claim lists that R87 gives. -/
theorem rerouteAssignsAfresh : Obligations.RerouteAssignsAfresh := by
  intro s seq t0 t1 c hf hr
  have pool : PoolLaws s := ((recordLaws_iff s).1 hr).booked.pool
  have found {i : Item} (hi : i ∈ s.lineItems) (ht : i.tag = le16 t0 t1) :
      s.findItem (le16 t0 t1) = some i := ht ▸ pool.findItem_of_mem hi
  refine ⟨fun hc => ?_, fun hc ht => ?_, fun hc i hi ht hs => ?_, fun i hi code ht hs hc => ?_⟩
  · exact reroute_refused hf (opReroute_badField hc)
  · have none : s.findItem (le16 t0 t1) = none := findItem_eq_none.2 fun hx => by
      obtain ⟨i, hi, tag⟩ := List.mem_map.1 hx
      exact ht i hi tag
    exact reroute_refused hf (opReroute_unknownTag hc ((supervised_findItem s _).trans none))
  · exact reroute_refused hf
      (opReroute_tooLate hc ((supervised_findItem s _).trans (found hi ht)) hs)
  · intro claimable entry new
    have assigned : s.assignment (i.sentTo code) none = new := by
      rw [assignment_sentTo, funext (claimable_eq s i)]
    obtain ⟨t, next, brings, cache⟩ := reroute_takes hf hc (found hi ht) hs
    rw [assigned] at brings cache
    have claims : t.claims = s.claimLists i new := congrArg State.claims brings.1.1
    refine ⟨t, next, ?_, claims ▸ pool.claimsWith i new, cache⟩
    rw [claims, ← show i.tag = t0.toNat + 256 * t1.toNat from ht]
    exact brings

end Sys2Proof.Machine
end

section
/-! PROOFS. The requests on the layout copies: a request that writes at most the pending copy, and the
statements that follow, `SetLineChangesAllSevenOrNone` (R137),
`ClearPendingAndCopyActiveReplaceThePendingCopy` (R139) and `ReadLayoutAnswersOneEntry` (R140). -/

namespace Sys2Proof.Machine

/-! ### Requests that write the pending copy or nothing -/

/-- R154: a fresh request that at most writes the pending copy changes nothing else but the link, and its
answer is cached. -/
theorem request_writesPending (kind : Byte) {seq : Byte} {op : State → State × Answer} {s : State}
    {l : Layout} {body : List Byte} (h : FreshRequest s seq)
    (he : op s.rest.supervise = ({ s.rest.supervise with pendingLayout := l }, .fixed body)) :
    ∃ t, request kind seq op s = .next t ∧ Brings s { s with pendingLayout := l } t [] ∧
      t.link.cache = some ⟨replyKind kind, seq, body⟩ := by
  refine request_takes kind seq op s _ { s.rest.supervise with pendingLayout := l } [] body h he rfl
    (fun z => ?_) fun _ => rfl
  dsimp only
  rw [supervised_zone]
  split <;> rfl

/-- R154: a fresh request that the supervised state leaves as it is changes nothing but the link, and its
answer is cached. -/
theorem request_unchanged (kind : Byte) {seq : Byte} {op : State → State × Answer} {s : State}
    {body : List Byte} (h : FreshRequest s seq)
    (he : op s.rest.supervise = (s.rest.supervise, .fixed body)) :
    ∃ t, request kind seq op s = .next t ∧ Brings s s t [] ∧
      t.link.cache = some ⟨replyKind kind, seq, body⟩ :=
  request_writesPending kind (l := s.pendingLayout) h he

/-! ### Numbers and marks in a body (R180, R181) -/

theorem numberBelow_of_val {n : Nat} {k : Nat} {i : Fin n} (h : k = i.val) :
    numberBelow n k = some i := by simp [numberBelow, h]

theorem numberBelow_of_le {n k : Nat} (h : n ≤ k) : numberBelow n k = none :=
  dif_neg (Nat.not_lt.2 h)

/-- R137: a reject destination is named by a number that is not FFh. -/
theorem optionalField_of_val {n : Nat} {b : Byte} {i : Fin n} (hn : n ≤ 255) (h : b.toNat = i.val) :
    optionalField n b = some (some i) := by
  have present : b ≠ 0xFF#8 := fun hb => by
    subst hb
    have := i.isLt
    simp at h
    omega
  rw [optionalField, if_neg present, numberBelow_of_val h, Option.map_some]

theorem optionalField_of_le {n : Nat} {b : Byte} (hb : b ≠ 0xFF#8) (h : n ≤ b.toNat) :
    optionalField n b = none := by
  rw [optionalField, if_neg hb, numberBelow_of_le h, Option.map_none]

/-- R181: a mark byte of a request is 00h or 01h. -/
theorem markOf_of_le {b : Byte} (h : b.toNat ≤ 1) : markOf b = some (decide (b = 0x01#8)) := by
  obtain rfl | rfl : b = 0x00#8 ∨ b = 0x01#8 := by bv_omega
  all_goals rfl

theorem markOf_of_lt {b : Byte} (h : 1 < b.toNat) : markOf b = none := by
  have h0 : b ≠ 0 := by bv_omega
  have h1 : b ≠ 1 := by bv_omega
  rw [markOf, if_neg h0, if_neg h1]

/-! ### SET_LINE (R137) -/

theorem lineSettings_inRange_iff (l : LineSettings) : l.inRange = true ↔
    (8 ≤ l.minLength ∧ l.minLength ≤ 2000) ∧ (16 ≤ l.maxLength ∧ l.maxLength ≤ 4095) ∧
      l.lengthTolerance ≤ 1000 ∧ (1 ≤ l.missLimit ∧ l.missLimit ≤ 3) ∧ l.poolReserve ≤ 16 := by
  simp [LineSettings.inRange, and_assoc]

section

variable {s : State} {a0 a1 b0 b1 t0 t1 m p r h : Byte} {reject : Option DestinationCode}

/-- The settings that a SET_LINE body gives, with its reject destination and its infeed hold as read. -/
abbrev sentLine (a0 a1 b0 b1 t0 t1 m p : Byte) (reject : Option DestinationCode) (hold : Bool) :
    LineSettings :=
  ⟨le16 a0 a1, le16 b0 b1, le16 t0 t1, m.toNat, p.toNat, reject, hold⟩

theorem opSetLine_accepted (hr : optionalField 64 r = some reject) (hh : h.toNat ≤ 1)
    (hl : (sentLine a0 a1 b0 b1 t0 t1 m p reject (decide (h = 0x01#8))).inRange = true) :
    opSetLine [a0, a1, b0, b1, t0, t1, m, p, r, h] s = editPending (fun copy =>
      { copy with line := sentLine a0 a1 b0 b1 t0 t1 m p reject (decide (h = 0x01#8)) }) s := by
  unfold opSetLine
  dsimp only
  rw [hr, markOf_of_le hh]
  exact if_pos hl

theorem opSetLine_refused (hx : optionalField 64 r = none ∨ 1 < h.toNat ∨
      ∀ reject hold, (sentLine a0 a1 b0 b1 t0 t1 m p reject hold).inRange = false) :
    opSetLine [a0, a1, b0, b1, t0, t1, m, p, r, h] s = refuse .badField s := by
  unfold opSetLine
  dsimp only
  split
  · next reject hold hr hh =>
    rcases hx with hx | hx | hx
    · cases hr.symm.trans hx
    · cases hh.symm.trans (markOf_of_lt hx)
    · exact if_neg (by rw [hx]; decide)
  · rfl

end

/-- Settles O34: the body's settings in range are the model's own check, its reject destination and its
infeed hold included; an accepted body replaces the line settings of the pending copy whole. -/
theorem setLineChangesAllSevenOrNone : Obligations.SetLineChangesAllSevenOrNone := by
  intro s seq a0 a1 b0 b1 t0 t1 m p r h hf minimum maximum tolerance command inRange written
  have accepted {reject : Option DestinationCode} (hx : inRange)
      (hr : optionalField 64 r = some reject) :
      Takes command s (written reject) [] ⟨0x95#8, seq, [0x00#8]⟩ := by
    obtain ⟨hmin, hmax, htol, hmiss, hpool, hhold⟩ := hx
    exact request_writesPending 0x15#8 hf (opSetLine_accepted hr hhold
      ((lineSettings_inRange_iff _).2 ⟨hmin, hmax, htol, hmiss, hpool⟩))
  refine ⟨fun code hx hc => accepted hx (optionalField_of_val (by decide) hc),
    fun hx hr => accepted hx (by rw [hr]; rfl), fun hx => ?_⟩
  refine request_refused 0x15#8 hf (opSetLine_refused ?_)
  rcases hx with hx | ⟨hr, hff⟩
  · by_cases hhold : h.toNat ≤ 1
    · refine .inr (.inr fun reject hold => Bool.eq_false_iff.2 fun hl => hx ?_)
      obtain ⟨hmin, hmax, htol, hmiss, hpool⟩ := (lineSettings_inRange_iff _).1 hl
      exact ⟨hmin, hmax, htol, hmiss, hpool, hhold⟩
    · exact .inr (.inl (Nat.not_le.1 hhold))
  · exact .inl (optionalField_of_le hff hr)

/-! ### CLEAR_PENDING and COPY_ACTIVE (R139) -/

/-- Settles O35: either request replaces the pending copy whole, whatever the module state; that the active
copy is empty in UNCONFIGURED is one of the layout laws. -/
theorem clearPendingAndCopyActiveReplaceThePendingCopy :
    Obligations.ClearPendingAndCopyActiveReplaceThePendingCopy := fun _ _ hf =>
  ⟨request_writesPending 0x16#8 hf rfl, request_writesPending 0x17#8 hf rfl,
    fun ⟨_, _, unconfigured, _⟩ hm => unconfigured hm⟩

/-! ### The bytes of layout entries (Tables 10-2 and 10-7) -/

theorem zoneDef_bytes (d : ZoneDef) :
    d.bytes = sent2 d.length ++ [BitVec.ofNat 8 d.entryOffset] := rfl

theorem eyeDef_bytes (d : EyeDef) :
    d.bytes = [BitVec.ofNat 8 d.zone.val] ++ sent2 d.position ++
      [BitVec.ofNat 8 d.tolerance, sentRole d.role, sentSense d.sense] ++ sent2 d.jamTime := by
  have role : d.role.code = sentRole d.role := by cases d.role <;> rfl
  have sense : d.sense.code = sentSense d.sense := by cases d.sense <;> rfl
  rw [EyeDef.bytes, role, sense]
  rfl

theorem diverterDef_bytes (d : DiverterDef) :
    d.bytes = [BitVec.ofNat 8 d.zone.val] ++ sent2 d.firePosition ++ sent2 d.lead ++
      sent2 d.minimumGap ++ sent2 d.strokeTimeout ++ sent2 d.dwell ++ sent2 d.returnTimeout := rfl

theorem destination_bytes (c : Destination) : c.bytes = [sentOr c.primary, sentOr c.alternate] := by
  rw [Destination.bytes, optionalByte_eq, optionalByte_eq]

theorem lineSettings_bytes (l : LineSettings) :
    l.bytes = sent2 l.minLength ++ sent2 l.maxLength ++ sent2 l.lengthTolerance ++
      [BitVec.ofNat 8 l.missLimit, BitVec.ofNat 8 l.poolReserve, sentOr l.rejectDestination,
        if l.infeedHold then 0x01#8 else 0x00#8] := by
  rw [LineSettings.bytes, optionalByte_eq]
  rfl

/-! ### READ_LAYOUT (R140) -/

theorem entryKindCode_eq (k : EntryKind) : k.code = sentEntryKind k := by cases k <;> rfl

theorem entryKindOf_sent (k : EntryKind) : entryKindOf (sentEntryKind k) = some k := by
  cases k <;> rfl

/-- R181: the listed entry kinds are five. -/
theorem entryKindOf_of_le {b : Byte} (h : 5 ≤ b.toNat) : entryKindOf b = none := by
  have n0 : b ≠ 0#8 := by bv_omega
  have n1 : b ≠ 1#8 := by bv_omega
  have n2 : b ≠ 2#8 := by bv_omega
  have n3 : b ≠ 3#8 := by bv_omega
  have n4 : b ≠ 4#8 := by bv_omega
  simp [entryKindOf, n0, n1, n2, n3, n4]

section

variable {s : State} {copy kind number : Byte}

/-- R136: the copy that a copy byte names. -/
abbrev State.copyNamed (s : State) (copy : Byte) : Layout :=
  if copy = 0x01#8 then s.activeLayout else s.pendingLayout

theorem opReadLayout_entry {k : EntryKind} {fields : List Byte} (hc : copy.toNat ≤ 1)
    (hk : kind = sentEntryKind k) (he : (s.copyNamed copy).read k number = some fields) :
    opReadLayout [copy, kind, number] s = (s, .fixed (0x00#8 :: copy :: kind :: fields)) := by
  unfold opReadLayout
  dsimp only
  rw [markOf_of_le hc, hk, entryKindOf_sent]
  simp only [decide_eq_true_eq]
  rw [he]
  rfl

theorem opReadLayout_badField (hx : 1 < copy.toNat ∨ entryKindOf kind = none ∨
      ∃ k, kind = sentEntryKind k ∧ ∀ l : Layout, l.read k number = none) :
    opReadLayout [copy, kind, number] s = refuse .badField s := by
  unfold opReadLayout
  dsimp only
  split
  · next active k hc hk =>
    rcases hx with hx | hx | ⟨j, hj, hx⟩
    · cases hc.symm.trans (markOf_of_lt hx)
    · cases hk.symm.trans hx
    · rw [hj, entryKindOf_sent] at hk
      cases hk
      rw [hx]
  · rfl

end

/-- Settles O36: the reply is the entry of the copy named, byte for byte as Table 10-7 gives it, and a
refusal's reason is the copy byte, the kind or the number. -/
theorem readLayoutAnswersOneEntry : Obligations.ReadLayoutAnswersOneEntry := by
  intro s seq copy kind number hf l command reply entry
  have read {k : EntryKind} {n : Byte} {fields : Option (List Byte)} (hc : copy.toNat ≤ 1)
      (hk : kind = sentEntryKind k) (he : l.read k number = some (n :: entryBytes fields)) :
      Takes command s s [] (entry n fields) := by
    have frame : entry n fields =
        ⟨0x98#8, seq, 0x00#8 :: copy :: kind :: n :: entryBytes fields⟩ := by
      cases fields <;> rfl
    rw [frame]
    exact request_unchanged 0x18#8 hf (opReadLayout_entry hc hk he)
  refine ⟨fun z hc hk hn => read (k := .zone) hc hk ?_, fun e hc hk hn => read (k := .eye) hc hk ?_,
    fun v hc hk hn => read (k := .diverter) hc hk ?_,
    fun c hc hk hn => read (k := .destination) (fields := some _) hc hk ?_,
    fun hc hk => read (k := .line) (fields := some _) hc hk ?_,
    fun hx => request_refused 0x18#8 hf (opReadLayout_badField ?_)⟩
  · simp only [Layout.read, numberBelow_of_val hn, Option.map_some, ← zoneDef_bytes]
  · simp only [Layout.read, numberBelow_of_val hn, Option.map_some, ← eyeDef_bytes]
  · simp only [Layout.read, numberBelow_of_val hn, Option.map_some, ← diverterDef_bytes]
  · simp only [Layout.read, numberBelow_of_val hn, Option.map_some, ← destination_bytes]
  · simp only [Layout.read, ← lineSettings_bytes]
  · rcases hx with hc | hk | ⟨hk, hn⟩ | ⟨hk, hn⟩ | ⟨hk, hn⟩ | ⟨hk, hn⟩
    · exact .inl hc
    · exact .inr (.inl (entryKindOf_of_le hk))
    · exact .inr (.inr ⟨.zone, hk, fun l => by simp [Layout.read, numberBelow_of_le hn]⟩)
    · exact .inr (.inr ⟨.eye, hk, fun l => by simp [Layout.read, numberBelow_of_le hn]⟩)
    · exact .inr (.inr ⟨.diverter, hk, fun l => by simp [Layout.read, numberBelow_of_le hn]⟩)
    · exact .inr (.inr ⟨.destination, hk, fun l => by simp [Layout.read, numberBelow_of_le hn]⟩)

end Sys2Proof.Machine
end

section
/-! PROOFS. START and STOP, and the requests that answer what the module is: STOPPED zone by zone, a reply
whose fields are read at the end of its happening, and the statements that follow,
`StartAndStopMoveBetweenStandbyAndTracking` (R131, R132) and `StatusAndIdentifyAnswerAndChangeNothing`
(R145, R146). -/

namespace Sys2Proof.Machine

/-! ### START and STOP (R131, R132) -/

theorem moduleStateCode_eq (m : ModuleState) : m.code = sentModuleState m := by cases m <;> rfl

/-- R13: the zones with STOPPED written in each. -/
abbrev stoppedAs (stopped : ZoneId → Bool) (zones : Vector ZoneUnit 4) : Vector ZoneUnit 4 :=
  Vector.ofFn fun z => { zones[z] with reasons := { zones[z].reasons with stopped := stopped z } }

/-- R154: a fresh request that moves the module to state `m`, writes STOPPED in every zone and posts the
report. -/
theorem request_movesModule (kind : Byte) {seq : Byte} {op : State → State × Answer} {s : State}
    {m : ModuleState} {stopped : ZoneId → Bool} {r : Report} {body : List Byte}
    (h : FreshRequest s seq)
    (he : op s.rest.supervise = (({ s.rest.supervise with
      module := m, zones := stoppedAs stopped s.rest.supervise.zones } : State).post r,
        .fixed body)) :
    ∃ t, request kind seq op s = .next t ∧
      Brings s { s with module := m, zones := stoppedAs stopped s.zones } t [r] ∧
      t.link.cache = some ⟨replyKind kind, seq, body⟩ := by
  refine request_takes kind seq op s _ { s.rest.supervise with
    module := m, zones := stoppedAs stopped s.rest.supervise.zones } [r] body h he rfl
    (fun z => ?_) fun z => by simp
  simp only [Fin.getElem_fin, Vector.getElem_ofFn]
  rw [← Fin.getElem_fin, supervised_zone]
  split <;> rfl

section

variable {s : State}

theorem opStart_standby (h : s.module = .standby) :
    opStart [] s = (({ s with
      module := .tracking
      zones := stoppedAs (fun z => s.activeLayout.zones[z].isNone) s.zones } : State).post
        (.moduleState .tracking .start), .fixed [0x00#8, 0x02#8]) := by
  have stopped (z : ZoneId) : s.activeLayout.zones[z].isNone = !(true && s.zoneDefined z) := by
    simp [State.zoneDefined]
  unfold opStart
  dsimp only
  rw [if_pos h]
  simp only [stopped]
  rfl

theorem opStop_tracking (h : s.module = .tracking) :
    opStop [] s = (({ s with
      module := .standby, zones := stoppedAs (fun _ => true) s.zones } : State).post
        (.moduleState .standby .stop), .fixed [0x00#8, 0x01#8]) := if_pos h

theorem opStart_refused (h : s.module ≠ .standby) :
    opStart [] s = (s, .fixed [0x04#8, sentModuleState s.module]) := by
  rw [← moduleStateCode_eq]
  exact if_neg h

theorem opStop_refused (h : s.module ≠ .tracking) :
    opStop [] s = (s, .fixed [0x04#8, sentModuleState s.module]) := by
  rw [← moduleStateCode_eq]
  exact if_neg h

end

/-- Settles O29: each request has one module state in which it moves the module and writes STOPPED, and is
refused with the module state in the other two. -/
theorem startAndStopMoveBetweenStandbyAndTracking :
    Obligations.StartAndStopMoveBetweenStandbyAndTracking := fun _ _ hf =>
  ⟨fun hm => request_movesModule 0x06#8 hf (opStart_standby hm),
    fun hm => request_unchanged 0x06#8 hf (opStart_refused hm),
    fun hm => request_movesModule 0x07#8 hf (opStop_tracking hm),
    fun hm => request_unchanged 0x07#8 hf (opStop_refused hm)⟩

/-! ### The bytes of the STATUS reply (Table 10-9) -/

theorem reasonsByte_eq (r : Reasons) : r.byte = sentReasons r := by
  obtain ⟨a, b, c, d, e, f, g⟩ := r
  cases a <;> cases b <;> cases c <;> cases d <;> cases e <;> cases f <;> cases g <;> rfl

theorem bytes4_eq (c : Counter) : bytes4 c = sent4 c := by
  simp only [bytes4, sent4, sent2, List.cons_append, List.nil_append, List.cons.injEq, and_true]
  refine ⟨?_, ?_, ?_, ?_⟩ <;> apply BitVec.eq_of_toNat_eq <;>
    simp [Nat.shiftRight_eq_div_pow, Nat.div_div_eq_div_mul]

theorem counters_bytes (c : Counters) : c.bytes =
    sent4 c.inducted ++ sent4 c.diverted ++ sent4 c.exited ++ sent4 c.lost ++ sent4 c.phantom ++
      sent4 c.noiseDiscards ++ sent4 c.framesDiscarded ++ sent4 c.reportsSuperseded := by
  simp only [Counters.bytes, bytes4_eq]

theorem statusZone_eq (t : State) (z : ZoneId) : t.statusZone z =
    [if t.activeLayout.zones[z].isSome then 1#8 else 0#8, sentReasons t.zones[z].reasons,
      if t.zones[z].permit then 1#8 else 0#8, BitVec.ofNat 8 t.zones[z].track.length] := by
  rw [State.statusZone, reasonsByte_eq]
  rfl

theorem statusBody_eq {t : State} (h : t.link.up = true) : t.statusBody =
    [0x00#8, sentModuleState t.module] ++
      ([0, 1, 2, 3] : List ZoneId).flatMap (fun z =>
        [if t.activeLayout.zones[z].isSome then 1#8 else 0#8, sentReasons t.zones[z].reasons,
          if t.zones[z].permit then 1#8 else 0#8, BitVec.ofNat 8 t.zones[z].track.length]) ++
      [BitVec.ofNat 8 t.freeRecords, BitVec.ofNat 8 t.announcements.length,
        BitVec.ofNat 8 t.reports.entries.length, BitVec.ofNat 8 t.reports.outstanding, 0x01#8] ++
      sent4 t.counters.inducted ++ sent4 t.counters.diverted ++ sent4 t.counters.exited ++
      sent4 t.counters.lost ++ sent4 t.counters.phantom ++ sent4 t.counters.noiseDiscards ++
      sent4 t.counters.framesDiscarded ++ sent4 t.counters.reportsSuperseded := by
  simp only [← statusZone_eq, State.statusBody, counters_bytes, moduleStateCode_eq, h,
    List.flatMap_cons, List.flatMap_nil, List.append_nil, List.append_assoc]
  rfl

/-! ### An answer read at the end of its happening (R145, R174) -/

/-- An answer reads nothing that the reply placed or the transmitter's choice changes. -/
theorem answerBody_chosen (kind seq : Byte) (a b : Answer) (w : State) :
    (w.placeReply kind seq a).chooseFrame.answerBody b = w.answerBody b := by
  have chosen := chooseFrame_frame (w.placeReply kind seq a)
  rw [placeReply_reports] at chosen
  rw [chosen]
  cases b <;> rfl

/-- R154, R156, R162: a fresh request whose effect is that of the supervised state's `v` and `rs`, as in
`request_takes`, is answered with fields that hold of the state it leaves, with the link UP. -/
theorem request_answers (kind seq : Byte) (op : State → State × Answer) (s u v : State)
    (rs : List Report) (a : Answer) (h : FreshRequest s seq)
    (he : op s.rest.supervise = (v.postAll rs, a))
    (hv : { v with link := u.link, zones := u.zones } = u)
    (hz : ∀ z : ZoneId, { v.zones[z] with
      reasons := { v.zones[z].reasons with link := u.zones[z].reasons.link } } = u.zones[z])
    (hp : ∀ z : ZoneId, u.zones[z].permit = s.zones[z].permit) :
    ∃ t, request kind seq op s = .next t ∧ Brings s u t rs ∧
      t.link.cache = some ⟨replyKind kind, seq, t.answerBody a⟩ ∧ t.link.up = v.link.up := by
  generalize hw : (v.postAll rs).settleZones = w
  have fixed := request_takes kind seq (fun t => ((op t).1, .fixed (w.answerBody a))) s u v rs
    (w.answerBody a) h (by rw [he]) hv hz hp
  have same : request kind seq op s =
      request kind seq (fun t => ((op t).1, .fixed (w.answerBody a))) s := by
    rw [request_fresh _ _ _ _ h, request_fresh _ _ _ _ h, he]
    dsimp only
    rw [hw]
    rfl
  obtain ⟨t, next, brings, cache⟩ := fixed
  have left : t = (w.placeReply kind seq a).chooseFrame := by
    have fresh := request_fresh kind seq op s h
    rw [same, next, he] at fresh
    cases fresh
    rw [hw]
  have up : t.link.up = v.link.up := by
    rw [left, chooseFrame_frame, ← hw, settleZones_frame, postAll_frame]
    rfl
  exact ⟨t, same.trans next, brings, by rw [cache, left, answerBody_chosen], up⟩

/-! ### STATUS and IDENTIFY (R145, R146) -/

/-- R145: a fresh STATUS changes nothing, and its reply is composed of what it leaves, with the link UP. -/
theorem status_takes {s : State} {seq : Byte} (h : FreshRequest s seq) :
    Leads (.status seq []) s fun t => Brings s s t [] ∧ t.link.up = true ∧
      t.link.cache = some ⟨0x81#8, seq, t.statusBody⟩ := by
  obtain ⟨t, next, brings, cache, up⟩ := request_answers 0x01#8 seq (opStatus []) s s
    s.rest.supervise [] .status h rfl rfl (fun z => by rw [supervised_zone]; split <;> rfl)
    fun _ => rfl
  exact ⟨t, next, brings, up, cache⟩

/-- R23: a happening that changes no record leaves a free count and list lengths that make 96. -/
theorem Brings.records {s t : State} {rs : List Report} (h : Brings s s t rs) (hr : RecordLaws s) :
    t.freeRecords + (t.zones[(0 : ZoneId)].track.length + t.zones[(1 : ZoneId)].track.length +
      t.zones[(2 : ZoneId)].track.length + t.zones[(3 : ZoneId)].track.length) = 96 := by
  obtain ⟨⟨same, -, track, -, -⟩, -⟩ := h
  obtain ⟨total, -⟩ := hr
  have free : t.freeRecords = s.freeRecords := (congrArg State.freeRecords same :)
  have line : s.lineItems.length = s.zones[(3 : ZoneId)].track.length +
      s.zones[(2 : ZoneId)].track.length + s.zones[(1 : ZoneId)].track.length +
      s.zones[(0 : ZoneId)].track.length := by simp [State.lineItems, Nat.add_assoc]
  rw [line, show Config.itemRecords = 96 from rfl] at total
  rw [free, track, track, track, track]
  omega

/-- R146: the board's revision is 1 to 255. -/
theorem hardwareRevision_pos : 1 ≤ Config.hardwareRevision.toNat := by
  have := Config.revisionLessOne.isLt
  simp only [Config.hardwareRevision, BitVec.toNat_ofNat]
  omega

/-- Settles O25: STATUS reads the state that its happening leaves, and IDENTIFY the board's constants; the
one revision is `Config.hardwareRevision`. -/
theorem statusAndIdentifyAnswerAndChangeNothing :
    Obligations.StatusAndIdentifyAnswerAndChangeNothing := by
  refine ⟨Config.hardwareRevision, hardwareRevision_pos, fun s seq hf =>
    ⟨?_, request_unchanged 0x02#8 hf rfl⟩⟩
  obtain ⟨t, next, brings, up, cache⟩ := status_takes hf
  exact ⟨t, next, brings, brings.records, by rw [cache, statusBody_eq up]⟩

end Sys2Proof.Machine
end

section
/-! PROOFS. The nine checks of a layout, one by one, as Table 7-5 prints them: when each holds, and which
entry offends when it fails (R142). -/

namespace Sys2Proof.Machine

/-! ### Searches for a lowest number -/

section

variable {n : Nat} {p : Fin n → Bool} {P : Fin n → Prop}

theorem find?_eq_some_iff_lowest (h : ∀ i, p i = true ↔ P i) (i : Fin n) :
    (List.finRange n).find? p = some i ↔ Lowest P i := by
  rw [← Fin.find?_eq_find?_finRange, Fin.find?_eq_some_iff]
  simp only [Lowest, ← h, Bool.not_eq_true]

theorem find?_eq_none_iff_forall (h : ∀ i, p i = true ↔ P i) :
    (List.finRange n).find? p = none ↔ ∀ i, ¬ P i := by
  simp [← h]

end

/-! ### What a check comes to -/

/-- `o` is the outcome of check `n` as Table 7-5 has it: nothing where the check holds, and its offending
entry where it fails. -/
structure Layout.Judges (l : Layout) (n : Nat) (o : Option Offender) : Prop where
  holds : o = none ↔ CheckHolds l n
  offends (kind : EntryKind) (number : Byte) : o = some (kind, number) ↔ Offends l kind number n

/-- An offender is known by its kind and its number. -/
theorem offender_iff {k kind : EntryKind} {m number : Byte} :
    ((k, m) : Offender) = (kind, number) ↔ kind = k ∧ number = m := by
  rw [Prod.mk.injEq]
  exact and_congr eq_comm eq_comm

theorem some_offender_iff {k kind : EntryKind} {m number : Byte} :
    (some (k, m) : Option Offender) = some (kind, number) ↔ kind = k ∧ number = m := by
  rw [Option.some.injEq, offender_iff]

/-- A check of one condition and one offender. -/
theorem judges_ite {l : Layout} {n : Nat} {k : EntryKind} {m : Byte} {c : Prop} [Decidable c]
    (holds : CheckHolds l n ↔ c)
    (offends : ∀ kind number, Offends l kind number n ↔ ¬ c ∧ kind = k ∧ number = m) :
    l.Judges n (if c then none else some (k, m)) := by
  by_cases h : c
  · rw [if_pos h]
    exact ⟨iff_of_true rfl (holds.2 h), fun kind number =>
      iff_of_false nofun fun fails => ((offends kind number).1 fails).1 h⟩
  · rw [if_neg h]
    refine ⟨iff_of_false nofun (mt holds.1 h), fun kind number => ?_⟩
    rw [some_offender_iff, offends, and_iff_right h]

section

variable {n : Nat} {p : Fin n → Bool} {P : Fin n → Prop} {k kind : EntryKind} {number : Byte}

/-- A check that looks for the lowest offender. -/
theorem lowestOffender_iff (h : ∀ i, p i = true ↔ P i) :
    ((List.finRange n).find? p).map (fun i => (k, byteOf i.val)) = some (kind, number) ↔
      ∃ i, Lowest P i ∧ kind = k ∧ number = BitVec.ofNat 8 i.val := by
  rw [Option.map_eq_some_iff]
  exact exists_congr fun i => and_congr (find?_eq_some_iff_lowest h i) offender_iff

theorem lowestOffender_none (h : ∀ i, p i = true ↔ P i) {f : Fin n → Offender} :
    ((List.finRange n).find? p).map f = none ↔ ∀ i, ¬ P i := by
  rw [Option.map_eq_none_iff, find?_eq_none_iff_forall h]

end

/-- Checks 2 and 6: the lowest offender of one kind, or else of another. -/
theorem orElse_judges {m n : Nat} {p : Fin m → Bool} {q : Fin n → Bool} {P : Fin m → Prop}
    {Q : Fin n → Prop} (hp : ∀ i, p i = true ↔ P i) (hq : ∀ j, q j = true ↔ Q j) (k k' : EntryKind) :
    let first := ((List.finRange m).find? p).map fun i => (k, byteOf i.val)
    let second := ((List.finRange n).find? q).map fun j => (k', byteOf j.val)
    (first.or second = none ↔ (∀ i, ¬ P i) ∧ ∀ j, ¬ Q j) ∧
    ∀ kind number, first.or second = some (kind, number) ↔
      (∃ i, Lowest P i ∧ kind = k ∧ number = BitVec.ofNat 8 i.val) ∨
      (∀ i, ¬ P i) ∧ ∃ j, Lowest Q j ∧ kind = k' ∧ number = BitVec.ofNat 8 j.val := by
  intro first second
  refine ⟨?_, fun kind number => ?_⟩
  · rw [Option.or_eq_none_iff, lowestOffender_none hp, lowestOffender_none hq]
  · rw [Option.or_eq_some_iff, lowestOffender_iff hp, lowestOffender_none hp, lowestOffender_iff hq]

/-! ### Check 1: the zones -/

/-- The zone that breaks the run of defined zones from zone 0. -/
def runBreak (defined : ZoneId → Bool) : Option ZoneId :=
  if !defined 0 then some 0
  else if defined 2 && !defined 1 then some 2
  else if defined 3 && !defined 2 then some 3
  else none

theorem runBreak_eq_none_iff : ∀ defined : ZoneId → Bool, runBreak defined = none ↔
    defined 0 = true ∧ ∀ y z : ZoneId, y < z → defined z = true → defined y = true := by
  decide

theorem runBreak_eq_some_iff : ∀ (defined : ZoneId → Bool) (z : ZoneId),
    runBreak defined = some z ↔ defined 0 = false ∧ z = 0 ∨ defined 0 = true ∧
      Lowest (fun y => defined y = true ∧ ∃ x : ZoneId, x.val + 1 = y.val ∧ defined x = false) z := by
  decide

theorem check1_eq (l : Layout) : l.check1 =
    (runBreak fun z => l.zones[z].isSome).map fun z => (.zone, byteOf z.val) := by
  unfold Layout.check1 runBreak
  simp only [Option.not_isSome]
  split_ifs <;> rfl

theorem check1_judges (l : Layout) : l.Judges 1 l.check1 := by
  rw [check1_eq]
  refine ⟨Option.map_eq_none_iff.trans (runBreak_eq_none_iff _), fun kind number => ?_⟩
  simp only [Option.map_eq_some_iff, runBreak_eq_some_iff, offender_iff, Offends, or_and_right,
    exists_or, and_assoc, exists_and_left, exists_eq_left, Option.isSome_eq_false_iff,
    Option.isNone_iff_eq_none, Option.isSome_iff_ne_none]
  rfl

/-! ### Check 2: positions below the zones' lengths -/

/-- R3: an undefined zone has no position below its length. -/
theorem zoneLength_le_iff (l : Layout) (z : ZoneId) (p : Nat) :
    l.zoneLength z ≤ p ↔ ∀ zone ∈ l.zones[z], zone.length ≤ p := by
  unfold Layout.zoneLength
  cases l.zones[z] <;> simp

theorem lt_zoneLength_iff (l : Layout) (z : ZoneId) (p : Nat) :
    p < l.zoneLength z ↔ ∃ zone ∈ l.zones[z], p < zone.length := by
  unfold Layout.zoneLength
  cases l.zones[z] <;> simp

theorem check2_judges (l : Layout) : l.Judges 2 l.check2 := by
  have eyes (e : EyeId) : (l.eyes[e].any fun d => l.zoneLength d.zone ≤ d.position) = true ↔
      EyeOutside l e := by
    simp only [Option.any_eq_true, decide_eq_true_eq, zoneLength_le_iff]
    rfl
  have diverters (v : DiverterId) :
      (l.diverters[v].any fun d => l.zoneLength d.zone ≤ d.firePosition) = true ↔
        DiverterOutside l v := by
    simp only [Option.any_eq_true, decide_eq_true_eq, zoneLength_le_iff]
    rfl
  obtain ⟨holds, offends⟩ := orElse_judges eyes diverters .eye .diverter
  have check : l.check2 = (((List.finRange 12).find? fun e =>
      l.eyes[e].any fun d => l.zoneLength d.zone ≤ d.position).map eyeOffender).or
      (((List.finRange 16).find? fun d =>
        l.diverters[d].any fun v => l.zoneLength v.zone ≤ v.firePosition).map diverterOffender) := by
    unfold Layout.check2
    rw [show allEyes = List.finRange 12 from rfl]
    cases (List.finRange 12).find? _ <;> rfl
  rw [check]
  exact ⟨holds, offends⟩

/-! ### Check 3: the induction eye -/

theorem isInduct_iff (l : Layout) (e : EyeId) :
    (l.eyes[e].any fun d => d.role = .induct) = true ↔ IsInduct l e := by
  simp only [Option.any_eq_true, decide_eq_true_eq]
  rfl

/-- The eyes of role INDUCT, lowest number first. -/
def Layout.inductEyes (l : Layout) : List EyeId :=
  allEyes.filter fun e => l.eyes[e].any fun d => d.role = .induct

theorem mem_inductEyes (l : Layout) (e : EyeId) : e ∈ l.inductEyes ↔ IsInduct l e := by
  rw [Layout.inductEyes, List.mem_filter, isInduct_iff]
  exact and_iff_right (List.mem_finRange e)

theorem inductEyes_sorted (l : Layout) : l.inductEyes.Pairwise (· < ·) :=
  (List.pairwise_lt_finRange 12).filter _

theorem Lowest.unique {n : Nat} {P : Fin n → Prop} {i j : Fin n} (hi : Lowest P i)
    (hj : Lowest P j) : i = j :=
  le_antisymm (not_lt.1 fun h => hi.2 j h hj.1) (not_lt.1 fun h => hj.2 i h hi.1)

/-- Check 3 of a layout whose one INDUCT eye is `e`. -/
theorem check3_judges_sole {l : Layout} {e : EyeId} (sole : ∀ f : EyeId, IsInduct l f ↔ f = e) :
    l.Judges 3 (if l.eyes[e].any fun d => d.zone = 0 then none else some (eyeOffender e)) := by
  obtain ⟨d, defined, role⟩ := (sole e).2 rfl
  have only (v : EyeDef) (hv : v ∈ l.eyes[e]) : v = d := Option.some.inj (hv.symm.trans defined)
  have inZone : (l.eyes[e].any fun d => d.zone = 0) = true ↔ d.zone = 0 := by
    rw [show l.eyes[e] = some d from defined, Option.any_some, decide_eq_true_iff]
  refine judges_ite (Iff.trans ⟨?_, fun zone => ?_⟩ inZone.symm)
    fun kind number => Iff.trans ⟨?_, fun ⟨zone, h⟩ => ?_⟩ (and_congr_left' (not_congr inZone.symm))
  · rintro ⟨i, hi, -, zone⟩
    obtain rfl := (sole i).1 hi
    exact zone d defined
  · exact ⟨e, ⟨d, defined, role⟩, fun f => (sole f).1, fun v hv => (only v hv).symm ▸ zone⟩
  · rintro (⟨none, -⟩ | ⟨a, b, ⟨ha, -⟩, ⟨⟨hab, hb⟩, -⟩, -⟩ | ⟨i, hi, -, ⟨v, hv, zone⟩, h⟩)
    · exact absurd ⟨d, defined, role⟩ (none e)
    · exact absurd (((sole a).1 ha).trans ((sole b).1 hb).symm) hab.ne
    · obtain rfl := (sole i).1 hi
      exact ⟨only v hv ▸ zone, h⟩
  · exact .inr (.inr ⟨e, ⟨d, defined, role⟩, fun f => (sole f).1, ⟨d, defined, zone⟩, h⟩)

/-- Check 3 of a layout whose two lowest INDUCT eyes are `a` and `e`. -/
theorem check3_judges_many {l : Layout} {a e : EyeId} (first : Lowest (IsInduct l) a)
    (second : Lowest (fun f => a < f ∧ IsInduct l f) e) : l.Judges 3 (some (eyeOffender e)) := by
  have many {i : EyeId} (h : ∀ f, IsInduct l f → f = i) : False :=
    second.1.1.ne ((h a first.1).trans (h e second.1.2).symm)
  refine ⟨iff_of_false nofun fun ⟨i, _, h, _⟩ => many h,
    fun kind number => some_offender_iff.trans ⟨fun h => .inr (.inl ⟨a, e, first, second, h⟩), ?_⟩⟩
  rintro (⟨none, -⟩ | ⟨b, f, hb, hf, h⟩ | ⟨i, -, h, -⟩)
  · exact absurd first.1 (none a)
  · obtain rfl := first.unique hb
    obtain rfl := second.unique hf
    exact h
  · exact (many h).elim

theorem check3_judges (l : Layout) : l.Judges 3 l.check3 := by
  have mem := mem_inductEyes l
  have sorted := inductEyes_sorted l
  have check : l.check3 = match l.inductEyes with
    | [] => some lineOffender
    | [e] => if l.eyes[e].any fun d => d.zone = 0 then none else some (eyeOffender e)
    | _ :: e :: _ => some (eyeOffender e) := rfl
  rw [check]
  split
  · next eyes =>
    have none (e : EyeId) : ¬ IsInduct l e := by simp [← mem, eyes]
    refine ⟨by simp [CheckHolds, none], fun kind number => some_offender_iff.trans ?_⟩
    simp [Offends, none]
  · next e eyes => exact check3_judges_sole fun f => by simp [← mem, eyes]
  · next a e rest eyes =>
    rw [eyes, List.pairwise_cons, List.pairwise_cons] at sorted
    obtain ⟨above, behind, -⟩ := sorted
    have induct (f : EyeId) : IsInduct l f ↔ f = a ∨ f = e ∨ f ∈ rest := by simp [← mem, eyes]
    refine check3_judges_many (a := a) ⟨(induct a).2 (.inl rfl), fun f hf h => ?_⟩
      ⟨⟨above e List.mem_cons_self, (induct e).2 (.inr (.inl rfl))⟩, fun f hf ⟨haf, h⟩ => ?_⟩
    · rcases (induct f).1 h with rfl | h
      · exact hf.false
      · exact hf.not_gt (above f (List.mem_cons.2 h))
    · rcases (induct f).1 h with rfl | rfl | h
      · exact haf.false
      · exact hf.false
      · exact hf.not_gt (behind f h)

/-! ### Check 4: the item lengths -/

theorem check4_judges (l : Layout) : l.Judges 4 l.check4 :=
  judges_ite .rfl fun _ _ => and_congr_left' Nat.not_lt.symm

/-! ### Checks 5 and 6: an item at its induction -/

/-- R142, check 3: eye `i`, with definition `d`, is the one eye of role INDUCT. -/
structure SoleInduct (l : Layout) (i : EyeId) (d : EyeDef) : Prop where
  defined : l.eyes[i] = some d
  role : d.role = .induct
  sole (f : EyeId) (v : EyeDef) (hf : l.eyes[f] = some v) (hv : v.role = .induct) : f = i ∧ v = d

theorem exists_soleInduct {l : Layout} (h : CheckHolds l 3) : ∃ i d, SoleInduct l i d := by
  obtain ⟨i, ⟨d, defined, role⟩, sole, -⟩ := h
  refine ⟨i, d, defined, role, fun f v hf hv => ?_⟩
  obtain rfl : f = i := sole f ⟨v, hf, hv⟩
  exact ⟨rfl, Option.some.inj (hf.symm.trans defined)⟩

section

variable {l : Layout} {i : EyeId} {d : EyeDef}

theorem SoleInduct.inductionEye (h : SoleInduct l i d) : l.inductionEye = some i := by
  refine (find?_eq_some_iff_lowest (isInduct_iff l) i).2 ⟨⟨d, h.defined, h.role⟩, ?_⟩
  rintro f hf ⟨v, defined, role⟩
  exact hf.ne (h.sole f v defined role).1

theorem SoleInduct.inductionBound (h : SoleInduct l i d) :
    l.inductionBound = d.position + l.line.maxLength + 1 := by
  unfold Layout.inductionBound
  rw [h.inductionEye, Option.bind_some, h.defined]
  rfl

/-- What is said of some induction eye is said of the one there is. -/
theorem SoleInduct.exists_iff (h : SoleInduct l i d) (Q : EyeId → EyeDef → Prop) :
    (∃ f : EyeId, ∃ v ∈ l.eyes[f], v.role = .induct ∧ Q f v) ↔ Q i d := by
  constructor
  · rintro ⟨f, v, defined, role, hq⟩
    obtain ⟨rfl, rfl⟩ := h.sole f v defined role
    exact hq
  · exact fun hq => ⟨i, d, h.defined, h.role, hq⟩

theorem SoleInduct.forall_iff (h : SoleInduct l i d) (Q : EyeDef → Prop) :
    (∀ f : EyeId, ∀ v ∈ l.eyes[f], v.role = .induct → Q v) ↔ Q d := by
  refine ⟨fun hq => hq i d h.defined h.role, fun hq f v defined role => ?_⟩
  rw [(h.sole f v defined role).2]
  exact hq

end

theorem check5_judges {l : Layout} (h : CheckHolds l 3) : l.Judges 5 l.check5 := by
  obtain ⟨i, d, sole⟩ := exists_soleInduct h
  unfold Layout.check5
  rw [sole.inductionBound, sole.inductionEye]
  refine judges_ite ((sole.forall_iff _).trans (lt_zoneLength_iff l 0 _).symm)
    fun kind number => (sole.exists_iff _).trans (and_congr_left' ?_)
  rw [Nat.not_lt, zoneLength_le_iff]

theorem check6_judges {l : Layout} (h : CheckHolds l 3) : l.Judges 6 l.check6 := by
  obtain ⟨i, d, sole⟩ := exists_soleInduct h
  have diverters (v : DiverterId) :
      l.diverters[v].any l.triggerFails = true ↔ TriggerTooNear l v := by
    rw [Option.any_eq_true]
    refine exists_congr fun u => and_congr .rfl ?_
    rw [sole.exists_iff fun _ eye => u.firePosition ≤ eye.position + l.line.maxLength + 1 + u.lead]
    simp only [Layout.triggerFails, DiverterDef.triggerPoint, sole.inductionBound,
      Bool.or_eq_true, Bool.and_eq_true, decide_eq_true_eq]
    exact or_congr (decide_eq_true_iff.trans (by omega)) (and_congr .rfl (by omega))
  have eyes (e : EyeId) : l.eyes[e].any l.windowFails = true ↔ WindowTooNear l e := by
    rw [Option.any_eq_true]
    refine exists_congr fun u => and_congr .rfl ?_
    rw [sole.exists_iff fun _ eye => u.position ≤ eye.position + l.line.maxLength + 1 + u.tolerance]
    simp only [Layout.windowFails, sole.inductionBound, Bool.and_eq_true, decide_eq_true_eq,
      and_assoc]
    exact and_congr .rfl (and_congr .rfl (by omega))
  obtain ⟨holds, offends⟩ := orElse_judges diverters eyes .diverter .eye
  have check : l.check6 =
      (((List.finRange 16).find? fun d => l.diverters[d].any l.triggerFails).map
        diverterOffender).or
      (((List.finRange 12).find? fun e => l.eyes[e].any l.windowFails).map eyeOffender) := by
    unfold Layout.check6
    rw [show allDiverters = List.finRange 16 from rfl]
    cases (List.finRange 16).find? _ <;> rfl
  rw [check]
  exact ⟨holds, offends⟩

/-! ### Check 7: the windows -/

theorem overlaps_iff (a b : EyeDef) : a.overlaps b = true ↔ b.zone = a.zone ∧
    b.position ≤ a.position + (b.tolerance + a.tolerance) ∧
    a.position ≤ b.position + (b.tolerance + a.tolerance) := by
  simp only [EyeDef.overlaps, Bool.and_eq_true, decide_eq_true_eq]
  exact and_congr eq_comm (by omega)

theorem windowsShare_symm {l : Layout} {a b : EyeId} (h : WindowsShare l a b) :
    WindowsShare l b a := by
  obtain ⟨d, hd, e, he, zone, near, far⟩ := h
  exact ⟨e, he, d, hd, zone.symm, by omega, by omega⟩

theorem check7_judges (l : Layout) : l.Judges 7 l.check7 := by
  have shares (e : EyeId) : (allEyes.any fun b =>
      decide (b < e) && l.eyes[e].any fun d => l.eyes[b].any d.overlaps) = true ↔
        ∃ b : EyeId, b < e ∧ WindowsShare l b e := by
    rw [List.any_eq_true]
    refine exists_congr fun b => (and_iff_right (List.mem_finRange b)).trans ?_
    simp only [Bool.and_eq_true, decide_eq_true_eq, Option.any_eq_true, overlaps_iff]
    refine and_congr .rfl ⟨?_, ?_⟩
    · exact fun ⟨d, hd, v, hv, h⟩ => ⟨v, hv, d, hd, h⟩
    · exact fun ⟨v, hv, d, hd, h⟩ => ⟨d, hd, v, hv, h⟩
  refine ⟨(lowestOffender_none shares).trans ⟨fun h a b hab hs => ?_, fun h e ⟨b, hb, hs⟩ =>
    h b e hb.ne hs⟩, fun kind number => lowestOffender_iff shares⟩
  rcases lt_or_gt_of_ne hab with lt | lt
  · exact h b ⟨a, lt, hs⟩
  · exact h a ⟨b, lt, windowsShare_symm hs⟩

/-! ### Checks 8 and 9: the destinations -/

theorem check8_judges (l : Layout) : l.Judges 8 l.check8 := by
  have wrong (c : DestinationCode) :
      l.destinationFails l.destinations[c] = true ↔ DestinationWrong l c := by
    simp only [Layout.destinationFails, Bool.or_eq_true, Bool.and_eq_true, Option.any_eq_true,
      Option.isNone_iff_eq_none, Option.isSome_iff_ne_none, beq_iff_eq, or_assoc]
    rfl
  exact ⟨lowestOffender_none wrong, fun kind number => lowestOffender_iff wrong⟩

theorem check9_judges (l : Layout) : l.Judges 9 l.check9 := by
  unfold Layout.check9
  cases reject : l.line.rejectDestination with
  | none =>
    exact ⟨iff_of_true rfl (by simp [CheckHolds, reject]), fun kind number =>
      iff_of_false nofun (by simp [Offends, reject])⟩
  | some c =>
    rw [Option.bind_some, ← ite_not]
    exact judges_ite (by simp [CheckHolds, reject, or_iff_not_imp_left])
      fun kind number => by simp [Offends, reject, and_assoc, byteOf]

/-! ### Validation (R142) -/

/-- R142: each check of the list, once those before it hold. Checks 5 and 6 need the one induction eye that
check 3 makes sure of. -/
theorem checks_judge {l : Layout} {n : Nat} {o : Option Offender} (ho : l.checks[n]? = some o)
    (h : ∀ m, m < n + 1 → CheckHolds l m) : l.Judges (n + 1) o := by
  match n, ho with
  | 0, ho => exact Option.some.inj ho ▸ check1_judges l
  | 1, ho => exact Option.some.inj ho ▸ check2_judges l
  | 2, ho => exact Option.some.inj ho ▸ check3_judges l
  | 3, ho => exact Option.some.inj ho ▸ check4_judges l
  | 4, ho => exact Option.some.inj ho ▸ check5_judges (h 3 (by decide))
  | 5, ho => exact Option.some.inj ho ▸ check6_judges (h 3 (by decide))
  | 6, ho => exact Option.some.inj ho ▸ check7_judges l
  | 7, ho => exact Option.some.inj ho ▸ check8_judges l
  | 8, ho => exact Option.some.inj ho ▸ check9_judges l

theorem firstFailing_eq_some {cs : List (Option Offender)} {j : Nat} {o : Offender}
    (hj : cs[j]? = some (some o)) (before : ∀ i, i < j → cs[i]? = some none) (n : Nat) :
    firstFailing n cs = some (n + j, o) := by
  induction cs generalizing j n with
  | nil => cases hj
  | cons c cs ih =>
    cases j with
    | zero =>
      obtain rfl : c = some o := Option.some.inj hj
      rfl
    | succ j =>
      obtain rfl : c = none := Option.some.inj (before 0 j.succ_pos)
      have rest := ih hj (fun i hi => before (i + 1) (Nat.succ_lt_succ hi)) (n + 1)
      rw [firstFailing, rest, Nat.add_right_comm, Nat.add_assoc]

/-- Table 7-5 gives an offending entry for checks 1 to 9 alone. -/
theorem Offends.number {l : Layout} {kind : EntryKind} {number : Byte} :
    ∀ {n : Nat}, Offends l kind number n → ∃ j, n = j + 1 ∧ j < 9
  | 0, h => h.elim
  | 1, _ | 2, _ | 3, _ | 4, _ | 5, _ | 6, _ | 7, _ | 8, _ | 9, _ => ⟨_, rfl, by decide⟩
  | _ + 10, h => h.elim

/-- R142: validation names the first check that fails, and its offending entry. -/
theorem validate_of_firstFails {l : Layout} {n : Nat} {kind : EntryKind} {number : Byte}
    (h : FirstFails l n kind number) : l.validate = some (n, kind, number) := by
  obtain ⟨hold, offends⟩ := h
  obtain ⟨j, rfl, hj⟩ := offends.number
  have outcome {i : Nat} (hi : i < 9) : ∃ o, l.checks[i]? = some o :=
    ⟨_, List.getElem?_eq_getElem (show i < l.checks.length from hi)⟩
  have fails : l.checks[j]? = some (some (kind, number)) := by
    obtain ⟨o, ho⟩ := outcome hj
    rw [ho, ((checks_judge ho hold).offends kind number).2 offends]
  have before (i : Nat) (hi : i < j) : l.checks[i]? = some none := by
    obtain ⟨o, ho⟩ := outcome (hi.trans hj)
    have judged := checks_judge ho fun m hm => hold m (by omega)
    rw [ho, judged.holds.2 (hold (i + 1) (by omega))]
  rw [Layout.validate, firstFailing_eq_some fails before, Nat.add_comm]

end Sys2Proof.Machine
end

section
/-! PROOFS. A COMMIT_LAYOUT that is refused, check by check in the order taken, and the statement that
follows, `RefusedCommitChangesNothing` (R141, R142). -/

namespace Sys2Proof.Machine

section

variable {s : State}

theorem opCommitLayout_tracking (h : s.module = .tracking) :
    opCommitLayout [] s = (s, .fixed [0x04#8, 0x02#8]) := by
  have state : (stateAnswer .wrongState s).2 = .fixed [0x04#8, 0x02#8] := by
    rw [stateAnswer, h]
    rfl
  rw [← state]
  exact if_pos h

theorem opCommitLayout_itemsPresent (h : s.module ≠ .tracking)
    (hw : s.lineItems ≠ [] ∨ s.announcements ≠ []) :
    opCommitLayout [] s = (s, .fixed [0x09#8, BitVec.ofNat 8 s.lineItems.length,
      BitVec.ofNat 8 s.announcements.length]) := by
  unfold opCommitLayout
  dsimp only
  rw [if_neg h, if_pos (by simpa using hw)]
  rfl

theorem opCommitLayout_invalid (h : s.module ≠ .tracking)
    (hw : ¬ (s.lineItems ≠ [] ∨ s.announcements ≠ [])) {n : Nat} {kind : EntryKind} {number : Byte}
    (hv : s.pendingLayout.validate = some (n, kind, number)) :
    opCommitLayout [] s =
      (s, .fixed [0x0A#8, BitVec.ofNat 8 n, sentEntryKind kind, number]) := by
  unfold opCommitLayout
  dsimp only
  rw [if_neg h, if_neg (by simpa using hw), hv, ← entryKindCode_eq]
  rfl

end

/-- Settles O38: each clause is the refusal that its premises leave, in the order of the checks; the records
and the announcements are those that the request finds. -/
theorem refusedCommitChangesNothing : Obligations.RefusedCommitChangesNothing := by
  intro s seq hf command waiting
  have items : s.rest.supervise.lineItems = s.lineItems :=
    lineItems_congr (supervise_same s.rest).track
  refine ⟨fun hm => request_unchanged 0x19#8 hf (opCommitLayout_tracking hm), fun hm hw => ?_,
    fun hm hw n kind number hv => request_unchanged 0x19#8 hf
      (opCommitLayout_invalid (s := s.rest.supervise) hm (items.symm ▸ hw)
        (validate_of_firstFails hv))⟩
  rw [← items]
  exact request_unchanged 0x19#8 hf (opCommitLayout_itemsPresent hm (items.symm ▸ hw))

end Sys2Proof.Machine
end

section
/-! PROOFS. The report queue: the laws of its numbers, of its sent marks and of its resend timer,
what each operation of the module keeps of them, and the statement that follows,
`StepKeepsReportQueueLaws` (R164 to R177).

Most operations do no more to the link and the queue than post reports: such an operation has a
lemma that ends in `_posts`. The others keep the laws by a lemma that ends in `_orderly`. -/

namespace Sys2Proof.Machine

/-! ### The laws, in the parts that the operations keep -/

/-- R164, R165: the queue's room, and the numbers and superseded counts of its entries. -/
structure ReportQueue.Numbered (q : ReportQueue) : Prop where
  room : q.entries.length ≤ Config.reportCapacity
  entry : ∀ e ∈ q.entries, 1 ≤ e.number ∧ e.number ≤ 65535 ∧ e.superseded ≤ 255
  next : 1 ≤ q.nextNumber ∧ q.nextNumber ≤ 65535
  consecutive : numberedTo q.nextNumber q.entries = true

/-- R169: the OUTSTANDING entries `sent` are the oldest, and `rest` are UNSENT. -/
structure ReportQueue.Parts (q : ReportQueue) (sent rest : List Entry) : Prop where
  entries : q.entries = sent ++ rest
  count : sent.length = q.outstanding
  sent : ∀ e ∈ sent, e.outstanding = true
  rest : ∀ e ∈ rest, e.outstanding = false

/-- R1, R171: the resend timer runs exactly while an entry is OUTSTANDING, and not past its time. -/
structure ReportQueue.Timed (q : ReportQueue) : Prop where
  runs : q.resendTimer.isSome = true ↔ 1 ≤ q.outstanding
  elapsed : ∀ τ ∈ q.resendTimer, τ.elapsed ≤ τ.duration + 1

/-- The laws of the report queue, in parts. -/
structure Orderly (s : State) : Prop where
  numbered : s.reports.Numbered
  parts : ∃ sent rest, s.reports.Parts sent rest
  timed : s.reports.Timed
  window : s.reports.outstanding ≤ s.link.settings.sendWindow
  widest : s.link.settings.sendWindow ≤ 8
  down : s.link.up = false → s.reports.outstanding = 0

theorem ReportQueue.exists_parts_iff (q : ReportQueue) : (∃ sent rest, q.Parts sent rest) ↔
    (∀ e ∈ q.entries.take q.outstanding, e.outstanding = true) ∧
    (∀ e ∈ q.entries.drop q.outstanding, e.outstanding = false) ∧
    q.outstanding ≤ q.entries.length := by
  constructor
  · rintro ⟨sent, rest, entries, count, marked, unmarked⟩
    rw [entries, ← count, List.take_left, List.drop_left]
    exact ⟨marked, unmarked, by simp⟩
  · rintro ⟨marked, unmarked, held⟩
    exact ⟨_, _, (List.take_append_drop _ _).symm, List.length_take_of_le held, marked, unmarked⟩

theorem reportQueueLaws_iff (s : State) : ReportQueueLaws s ↔ Orderly s := by
  constructor
  · rintro ⟨room, entry, next, consecutive, marked, unmarked, held, window, widest, down, runs,
      elapsed⟩
    exact ⟨⟨room, entry, next, consecutive⟩,
      s.reports.exists_parts_iff.2 ⟨marked, unmarked, held⟩, ⟨runs, elapsed⟩, window, widest, down⟩
  · rintro ⟨⟨room, entry, next, consecutive⟩, parts, ⟨runs, elapsed⟩, window, widest, down⟩
    obtain ⟨marked, unmarked, held⟩ := s.reports.exists_parts_iff.1 parts
    exact ⟨room, entry, next, consecutive, marked, unmarked, held, window, widest, down, runs,
      elapsed⟩

/-- The laws read the queue, the link's state and its send window. -/
theorem Orderly.of_eq {s t : State} (h : Orderly s) (hq : t.reports = s.reports)
    (hu : t.link.up = s.link.up) (hl : t.link.settings = s.link.settings) : Orderly t := by
  obtain ⟨numbered, parts, timed, window, widest, down⟩ := h
  constructor <;> simpa only [hq, hu, hl]

/-- R169, R171: a queue with nothing OUTSTANDING has no resend timer, and any link will do. -/
theorem orderly_of_unsent {s : State} (hn : s.reports.Numbered) (ho : s.reports.outstanding = 0)
    (he : ∀ e ∈ s.reports.entries, e.outstanding = false) (ht : s.reports.resendTimer = none)
    (hw : s.link.settings.sendWindow ≤ 8) : Orderly s :=
  { numbered := hn
    parts := ⟨[], s.reports.entries, rfl, ho.symm, List.forall_mem_nil _, he⟩
    timed := ⟨by simp [ho, ht], by simp [ht]⟩
    window := ho ▸ Nat.zero_le _
    widest := hw
    down := fun _ => ho }

/-! ### Consecutive numbers (R165) -/

theorem numberAfter_range {n : Nat} (h : n ≤ 65535) :
    1 ≤ numberAfter n ∧ numberAfter n ≤ 65535 := by
  unfold numberAfter
  split <;> omega

theorem numberedTo_concat (next : Nat) (es : List Entry) (e : Entry) :
    numberedTo next (es ++ [e]) = (numberedTo e.number es && next == numberAfter e.number) := by
  induction es with
  | nil => simp [numberedTo]
  | cons x es ih =>
    cases es with
    | nil => simp [numberedTo]
    | cons y es =>
      simp only [List.cons_append] at ih ⊢
      simp only [numberedTo, ih, Bool.and_assoc]

theorem numberedTo_of_suffix {next : Nat} {es fs : List Entry} (h : fs <:+ es)
    (hn : numberedTo next es = true) : numberedTo next fs = true := by
  induction es with
  | nil => rwa [List.suffix_nil.1 h]
  | cons x es ih =>
    rcases List.suffix_cons_iff.1 h with rfl | h
    · exact hn
    · refine ih h ?_
      cases es with
      | nil => rfl
      | cons y es => exact (Bool.and_eq_true_iff.1 hn).2

@[simp] theorem numberedTo_map_unsend (next : Nat) (es : List Entry) :
    numberedTo next (es.map Entry.unsend) = numberedTo next es := by
  induction es with
  | nil => rfl
  | cons x es ih =>
    cases es with
    | nil => rfl
    | cons y es => exact congrArg (y.number == numberAfter x.number && ·) ih

/-- The numbers are laws of the entries apart from their sent marks. -/
theorem ReportQueue.Numbered.of_unsend {p q : ReportQueue} (h : q.Numbered)
    (hn : p.nextNumber = q.nextNumber)
    (he : p.entries.map Entry.unsend = q.entries.map Entry.unsend) : p.Numbered := by
  obtain ⟨room, entry, next, consecutive⟩ := h
  have length := congrArg List.length he
  rw [List.length_map, List.length_map] at length
  refine ⟨length ▸ room, fun e hm => ?_, hn ▸ next, ?_⟩
  · obtain ⟨f, hf, hef⟩ : ∃ f ∈ q.entries, f.unsend = e.unsend :=
      List.mem_map.1 (he ▸ List.mem_map_of_mem hm)
    simp only [Entry.unsend, Entry.mk.injEq] at hef
    obtain ⟨number, -, superseded, -⟩ := hef
    exact number ▸ superseded ▸ entry f hf
  · rw [hn, ← numberedTo_map_unsend, he, numberedTo_map_unsend]
    exact consecutive

/-! ### Posting (R166, R167) -/

theorem replaceNewest_concat (r : Report) (es : List Entry) (e : Entry) :
    replaceNewest r (es ++ [e]) = es ++ [e.supersede r] := by
  induction es with
  | nil => rfl
  | cons x es ih =>
    cases es with
    | nil => rfl
    | cons y es =>
      simp only [List.cons_append] at ih ⊢
      simp only [replaceNewest, ih]

theorem post_of_hasRoom {q : ReportQueue} (h : q.hasRoom = true) (r : Report) :
    q.post r =
      { q with
        entries := q.entries ++ [⟨q.nextNumber, r, 0, false⟩]
        nextNumber := numberAfter q.nextNumber } := by
  simp [ReportQueue.post, h]

theorem post_of_full {q : ReportQueue} (h : q.hasRoom = false) {es : List Entry} {e : Entry}
    (he : q.entries = es ++ [e]) (r : Report) :
    q.post r = { q with entries := es ++ [e.supersede r] } := by
  simp [ReportQueue.post, h, he, replaceNewest_concat]

/-- R166: the new entry takes the next number and stands last, UNSENT. -/
theorem post_appends {q : ReportQueue} (h : q.hasRoom = true) (hn : q.Numbered)
    {sent rest : List Entry} (hp : q.Parts sent rest) (r : Report) :
    (q.post r).Numbered ∧ (q.post r).Parts sent (rest ++ [⟨q.nextNumber, r, 0, false⟩]) := by
  obtain ⟨room, entry, next, consecutive⟩ := hn
  obtain ⟨entries, count, marked, unmarked⟩ := hp
  have less : q.entries.length < Config.reportCapacity := of_decide_eq_true h
  rw [post_of_hasRoom h]
  refine ⟨⟨by simpa using less, List.forall_mem_append.2 ⟨entry, ?_⟩, numberAfter_range next.2, ?_⟩,
    by simp [entries], count, marked, List.forall_mem_append.2 ⟨unmarked, by simp⟩⟩
  · exact List.forall_mem_singleton.2 ⟨next.1, next.2, Nat.zero_le _⟩
  · simpa [numberedTo_concat] using consecutive

theorem supersede_superseded (r : Report) {e : Entry} (h : e.superseded ≤ 255) :
    (e.supersede r).superseded ≤ 255 := by
  unfold Entry.supersede
  dsimp only
  split <;> omega

/-- R167: the newest entry of a full queue, which is UNSENT, keeps its number and its place. -/
theorem post_supersedes {q : ReportQueue} (h : q.hasRoom = false) (hn : q.Numbered)
    {sent rest : List Entry} {e : Entry} (hp : q.Parts sent (rest ++ [e])) (r : Report) :
    (q.post r).Numbered ∧ (q.post r).Parts sent (rest ++ [e.supersede r]) := by
  obtain ⟨room, entry, next, consecutive⟩ := hn
  obtain ⟨entries, count, marked, unmarked⟩ := hp
  rw [← List.append_assoc] at entries
  rw [post_of_full h entries]
  rw [entries] at room entry consecutive
  rw [numberedTo_concat] at consecutive
  rw [List.forall_mem_append, List.forall_mem_singleton] at entry unmarked
  obtain ⟨older, positive, bounded, superseded⟩ := entry
  obtain ⟨olderUnsent, newestUnsent⟩ := unmarked
  refine ⟨⟨by simpa using room, List.forall_mem_append.2 ⟨older, ?_⟩, next, ?_⟩, by simp, count,
    marked, List.forall_mem_append.2 ⟨olderUnsent, List.forall_mem_singleton.2 newestUnsent⟩⟩
  · exact List.forall_mem_singleton.2 ⟨positive, bounded, supersede_superseded r superseded⟩
  · rw [numberedTo_concat]
    exact consecutive

/-- R169: a full queue has an entry that is not OUTSTANDING. -/
theorem ReportQueue.Parts.rest_ne_nil {q : ReportQueue} {sent rest : List Entry}
    (h : q.Parts sent rest) (hr : q.hasRoom = false) (ho : q.outstanding ≤ 8) : rest ≠ [] := by
  rintro rfl
  have full : Config.reportCapacity ≤ q.entries.length := Nat.le_of_not_lt (of_decide_eq_false hr)
  rw [h.entries, List.append_nil, h.count] at full
  exact absurd (full.trans ho) (by decide)

theorem post_orderly {s : State} (h : Orderly s) (r : Report) : Orderly (s.post r) := by
  obtain ⟨numbered, ⟨sent, rest, parts⟩, ⟨runs, elapsed⟩, window, widest, down⟩ := h
  have posted : (s.reports.post r).Numbered ∧ ∃ sent rest, (s.reports.post r).Parts sent rest := by
    cases hr : s.reports.hasRoom with
    | true => exact (post_appends hr numbered parts r).imp_right fun p => ⟨_, _, p⟩
    | false =>
      rcases List.eq_nil_or_concat' rest with hn | ⟨older, e, rfl⟩
      · exact absurd hn (parts.rest_ne_nil hr (window.trans widest))
      · exact (post_supersedes hr numbered parts r).imp_right fun p => ⟨_, _, p⟩
  exact ⟨posted.1, posted.2, ⟨runs, elapsed⟩, window, widest, down⟩

/-! ### Sending, sending again and acknowledging (R168 to R177) -/

/-- R170, R171: the oldest UNSENT entry begins to be sent. -/
theorem begin_parts {q : ReportQueue} {sent rest : List Entry} {e : Entry}
    (h : q.Parts sent (e :: rest)) (resendTime : Nat) :
    (q.begin resendTime).Parts (sent ++ [{ e with outstanding := true }]) rest := by
  obtain ⟨entries, count, marked, unmarked⟩ := h
  obtain ⟨unsent, others⟩ := List.forall_mem_cons.1 unmarked
  have oldest := (markOldest_append sent rest e marked unsent).1
  exact ⟨by simp [ReportQueue.begin, entries, oldest], by simp [ReportQueue.begin, count],
    List.forall_mem_append.2 ⟨marked, by simp⟩, others⟩

theorem map_unsend_markOldest (es : List Entry) :
    (markOldest es).map Entry.unsend = es.map Entry.unsend := by
  induction es with
  | nil => rfl
  | cons e es ih =>
    unfold markOldest
    split
    · rw [List.map_cons, ih, List.map_cons]
    · rfl

theorem begin_timed {q : ReportQueue} (h : q.Timed) (resendTime : Nat) :
    (q.begin resendTime).Timed := by
  obtain ⟨runs, elapsed⟩ := h
  by_cases ho : q.outstanding = 0
  · exact ⟨by simp [ReportQueue.begin, ho, startTimer], by simp [ReportQueue.begin, ho, startTimer]⟩
  · have running := runs.2 (Nat.one_le_iff_ne_zero.2 ho)
    exact ⟨by simpa [ReportQueue.begin, ho] using running,
      by simpa [ReportQueue.begin, ho] using elapsed⟩

/-- R170: what is sendable is an UNSENT entry, with the link UP and room in the window. -/
theorem sendable_eq_some {s : State} {e : Entry} (h : s.sendable = some e) :
    s.link.up = true ∧ s.reports.outstanding < s.link.settings.sendWindow ∧
      e ∈ s.reports.entries ∧ e.outstanding = false := by
  unfold State.sendable at h
  split at h
  · next hs =>
    obtain ⟨up, room⟩ := Bool.and_eq_true_iff.1 hs
    exact ⟨up, of_decide_eq_true room, List.mem_of_find?_eq_some h,
      by simpa using List.find?_some h⟩
  · cases h

theorem chooseFrame_orderly {s : State} (h : Orderly s) : Orderly s.chooseFrame := by
  rcases chooseFrame_cases s with ⟨hc, -⟩ | ⟨reply, -, -, hc⟩ | ⟨e, -, -, he, hc⟩ <;> rw [hc]
  · exact h
  · exact h.of_eq rfl rfl rfl
  · obtain ⟨numbered, ⟨sent, rest, parts⟩, timed, window, widest, down⟩ := h
    obtain ⟨up, room, mem, unsent⟩ := sendable_eq_some he
    cases rest with
    | nil =>
      rw [parts.entries, List.append_nil] at mem
      rw [parts.sent e mem] at unsent
      cases unsent
    | cons x rest =>
      exact ⟨numbered.of_unsend rfl (map_unsend_markOldest _), ⟨_, _, begin_parts parts _⟩,
        begin_timed timed _, room, widest, fun hu => absurd up (by rw [hu]; decide)⟩

/-- R172, R176: every entry is made UNSENT, and the timer stopped. -/
theorem unsendAll_orderly {s t : State} (h : Orderly s) (hq : t.reports = s.reports.unsendAll)
    (hl : t.link.settings = s.link.settings) : Orderly t := by
  have numbered : s.reports.unsendAll.Numbered :=
    h.numbered.of_unsend rfl (by simp [ReportQueue.unsendAll, Entry.unsend])
  refine orderly_of_unsent (hq ▸ numbered) ?_ ?_ ?_ (hl ▸ h.widest) <;> rw [hq]
  · rfl
  · simp [ReportQueue.unsendAll, Entry.unsend]
  · rfl

theorem limitOutstanding_unsent (window : Nat) {e : Entry} (h : e.outstanding = false)
    (es : List Entry) : limitOutstanding window (e :: es) = e :: limitOutstanding window es := by
  simp [limitOutstanding, h]

theorem limitOutstanding_beyond {e : Entry} (h : e.outstanding = true) (es : List Entry) :
    limitOutstanding 0 (e :: es) = e.unsend :: limitOutstanding 0 es := by
  simp [limitOutstanding, h]

theorem limitOutstanding_within (window : Nat) {e : Entry} (h : e.outstanding = true)
    (es : List Entry) :
    limitOutstanding (window + 1) (e :: es) = e :: limitOutstanding window es := by
  simp [limitOutstanding, h]

/-- R177: of the OUTSTANDING entries those beyond the window are made UNSENT. -/
theorem limitOutstanding_append (window : Nat) {sent rest : List Entry}
    (hs : ∀ e ∈ sent, e.outstanding = true) (hr : ∀ e ∈ rest, e.outstanding = false) :
    limitOutstanding window (sent ++ rest) =
      sent.take window ++ ((sent.drop window).map Entry.unsend ++ rest) := by
  induction sent generalizing window with
  | nil =>
    rw [List.nil_append, List.take_nil, List.drop_nil, List.map_nil, List.nil_append,
      List.nil_append]
    induction rest with
    | nil => rfl
    | cons x rest ih =>
      rw [limitOutstanding_unsent window (hr x List.mem_cons_self),
        ih fun e he => hr e (List.mem_cons_of_mem x he)]
  | cons x sent ih =>
    have marked := hs x List.mem_cons_self
    have tail := ih (hs := fun e he => hs e (List.mem_cons_of_mem x he))
    cases window with
    | zero =>
      rw [List.cons_append, limitOutstanding_beyond marked]
      simpa using tail 0
    | succ w =>
      rw [List.cons_append, limitOutstanding_within w marked]
      simpa using tail w

theorem applySettings_parts {q : ReportQueue} {sent rest : List Entry} (h : q.Parts sent rest)
    (l : LinkSettings) :
    (q.applySettings l).Parts (sent.take l.sendWindow)
      ((sent.drop l.sendWindow).map Entry.unsend ++ rest) := by
  obtain ⟨entries, count, marked, unmarked⟩ := h
  refine ⟨?_, ?_, fun e he => marked e (List.mem_of_mem_take he), ?_⟩
  · simp only [ReportQueue.applySettings, entries]
    exact limitOutstanding_append _ marked unmarked
  · simp [ReportQueue.applySettings, count, Nat.min_comm]
  · exact List.forall_mem_append.2 ⟨List.forall_mem_map.2 fun _ _ => rfl, unmarked⟩

theorem map_unsend_limitOutstanding (window : Nat) (es : List Entry) :
    (limitOutstanding window es).map Entry.unsend = es.map Entry.unsend := by
  induction es generalizing window with
  | nil => rfl
  | cons e es ih =>
    cases h : e.outstanding with
    | false => rw [limitOutstanding_unsent window h, List.map_cons, ih, List.map_cons]
    | true =>
      cases window with
      | zero =>
        rw [limitOutstanding_beyond h, List.map_cons, ih]
        rfl
      | succ w => rw [limitOutstanding_within w h, List.map_cons, ih, List.map_cons]

/-- R160, R177: accepted settings keep the laws, as the window is 1 to 8. -/
theorem applyLinkSettings_orderly {s : State} (h : Orderly s) {l : LinkSettings}
    (hl : l.inRange = true) : Orderly (s.applyLinkSettings l) := by
  obtain ⟨numbered, ⟨sent, rest, parts⟩, ⟨runs, -⟩, -, -, down⟩ := h
  simp only [LinkSettings.inRange, Bool.and_eq_true, decide_eq_true_eq] at hl
  obtain ⟨⟨⟨narrowest, widest⟩, -⟩, -⟩ := hl
  have timed : (s.reports.applySettings l).Timed := by
    refine ⟨?_, ?_⟩ <;> simp only [ReportQueue.applySettings]
    · rw [Nat.le_min, ← runs]
      split <;> simp_all [startTimer]
    · split <;> simp [startTimer]
  refine ⟨numbered.of_unsend rfl (map_unsend_limitOutstanding _ _),
    ⟨_, _, applySettings_parts parts l⟩, timed, Nat.min_le_right _ _, widest, fun hu => ?_⟩
  rw [show (s.applyLinkSettings l).reports.outstanding = min s.reports.outstanding l.sendWindow
    from rfl, down hu, Nat.zero_min]

theorem dropThrough_suffix (n : Nat) (es : List Entry) : dropThrough n es <:+ es := by
  induction es with
  | nil => exact List.suffix_rfl
  | cons e es ih =>
    unfold dropThrough
    split
    · exact List.suffix_cons e es
    · exact ih.trans (List.suffix_cons e es)

/-- R173: an acknowledged number is looked for among the OUTSTANDING entries first. -/
theorem dropThrough_append {n : Nat} {sent : List Entry} (rest : List Entry)
    (h : ∃ e ∈ sent, e.number = n) :
    dropThrough n (sent ++ rest) = dropThrough n sent ++ rest := by
  induction sent with
  | nil =>
    obtain ⟨e, he, -⟩ := h
    cases he
  | cons x sent ih =>
    rw [List.cons_append, dropThrough, dropThrough]
    split
    · rfl
    · next hx =>
      obtain ⟨e, he, hn⟩ := h
      rcases List.mem_cons.1 he with rfl | he
      · exact absurd hn hx
      · exact ih ⟨e, he, hn⟩

/-- R173: the number of an OUTSTANDING entry stands among those sent. -/
theorem ReportQueue.Parts.exists_sent {q : ReportQueue} {sent rest : List Entry}
    (h : q.Parts sent rest) {n : Nat} (hn : q.isOutstanding n = true) :
    ∃ e ∈ sent, e.number = n := by
  simp only [ReportQueue.isOutstanding, List.any_eq_true, Bool.and_eq_true, decide_eq_true_eq] at hn
  obtain ⟨e, he, marked, number⟩ := hn
  rw [h.entries] at he
  rcases List.mem_append.1 he with he | he
  · exact ⟨e, he, number⟩
  · rw [h.rest e he] at marked
    cases marked

theorem acknowledge_parts {q : ReportQueue} {sent rest : List Entry} (h : q.Parts sent rest)
    {n : Nat} (hn : q.isOutstanding n = true) (resendTime : Nat) :
    (q.acknowledge n resendTime).Parts (dropThrough n sent) rest := by
  have entries := (congrArg (dropThrough n) h.entries).trans
    (dropThrough_append rest (h.exists_sent hn))
  have left := dropThrough_suffix n sent
  refine ⟨entries, ?_, fun e he => h.sent e (left.subset he), h.rest⟩
  have fewer := left.length_le
  simp only [ReportQueue.acknowledge, ReportQueue.removedBy, entries]
  simp only [h.entries, ← h.count, List.length_append]
  omega

theorem acknowledge_timed (q : ReportQueue) (n resendTime : Nat) :
    (q.acknowledge n resendTime).Timed := by
  refine ⟨?_, ?_⟩ <;> simp only [ReportQueue.acknowledge]
  · split <;> simp_all [startTimer, Nat.one_le_iff_ne_zero]
  · split <;> simp [startTimer]

theorem acknowledge_orderly {s : State} (h : Orderly s) {n : Nat}
    (hn : s.reports.isOutstanding n = true) (resendTime : Nat) :
    Orderly { s with reports := s.reports.acknowledge n resendTime } := by
  obtain ⟨⟨room, entry, next, consecutive⟩, ⟨sent, rest, parts⟩, -, window, widest, down⟩ := h
  have left := dropThrough_suffix n s.reports.entries
  have numbered : (s.reports.acknowledge n resendTime).Numbered :=
    ⟨left.length_le.trans room, fun e he => entry e (left.subset he), next,
      numberedTo_of_suffix left consecutive⟩
  exact ⟨numbered, ⟨_, _, acknowledge_parts parts hn resendTime⟩, acknowledge_timed _ _ _,
    (Nat.sub_le _ _).trans window, widest,
    fun hu => Nat.sub_eq_zero_of_le ((down hu).trans_le (Nat.zero_le _))⟩

/-- R129, R134, R179: a queue that holds its MODULE_STATE report alone. -/
theorem first_orderly {s : State} {m : ModuleState} {cause : ModuleCause}
    (hq : s.reports = .first m cause) (hw : s.link.settings.sendWindow ≤ 8) : Orderly s := by
  have numbered : (ReportQueue.first m cause).Numbered :=
    ⟨(by decide : 1 ≤ Config.reportCapacity), by simp [ReportQueue.first],
      by simp [ReportQueue.first], rfl⟩
  refine orderly_of_unsent (hq ▸ numbered) ?_ ?_ ?_ hw <;> rw [hq]
  · rfl
  · simp [ReportQueue.first]
  · rfl

/-- R130: the empty queue of the void state. -/
theorem void_orderly (s : State) : Orderly s.void := by
  have numbered : ReportQueue.empty.Numbered :=
    ⟨Nat.zero_le _, List.forall_mem_nil _, by decide, rfl⟩
  have window : LinkSettings.default.sendWindow ≤ 8 := by decide
  exact orderly_of_unsent numbered rfl (List.forall_mem_nil _) rfl window

/-! ### Operations that post reports -/

/-- Reports posted into the queue in order. -/
def ReportQueue.postAll (rs : List Report) (q : ReportQueue) : ReportQueue :=
  rs.foldl (fun p r => p.post r) q

theorem postAll_reports (rs : List Report) (s : State) :
    (s.postAll rs).reports = s.reports.postAll rs := by
  induction rs generalizing s with
  | nil => rfl
  | cons r rs ih => exact ih (s.post r)

/-- An operation that leads from `s` to `t` leaves the link, and does no more to the queue than post
reports. -/
structure Posts (s t : State) : Prop where
  link : t.link = s.link
  queue : ∃ rs, t.reports = s.reports.postAll rs

/-- An operation on other blocks. -/
theorem Posts.of_eq {s t : State} (hl : t.link = s.link) (hq : t.reports = s.reports) : Posts s t :=
  ⟨hl, [], hq⟩

theorem Posts.of_post {s t : State} (r : Report) (hl : t.link = s.link)
    (hq : t.reports = s.reports.post r) : Posts s t := ⟨hl, [r], hq⟩

theorem Posts.refl (s : State) : Posts s s := .of_eq rfl rfl

theorem Posts.trans {s t u : State} (h : Posts s t) (k : Posts t u) : Posts s u := by
  obtain ⟨hl, rs, hq⟩ := h
  obtain ⟨kl, qs, kq⟩ := k
  refine ⟨kl.trans hl, rs ++ qs, ?_⟩
  rw [kq, hq]
  exact List.foldl_append.symm

theorem Posts.orderly {s t : State} (h : Posts s t) (hs : Orderly s) : Orderly t := by
  obtain ⟨hl, rs, hq⟩ := h
  have posted : Orderly (s.postAll rs) := List.foldlRecOn rs _ hs fun u hu r _ => post_orderly hu r
  have link : (s.postAll rs).link = s.link := by rw [postAll_frame]
  exact posted.of_eq (hq.trans (postAll_reports rs s).symm) (by rw [hl, link]) (by rw [hl, link])

theorem foldl_posts {α : Type} (f : State → α → State) (h : ∀ s a, Posts s (f s a)) (l : List α)
    (s : State) : Posts s (l.foldl f s) := by
  induction l generalizing s with
  | nil => exact .refl s
  | cons a l ih => exact (h s a).trans (ih _)

theorem post_posts (s : State) (r : Report) : Posts s (s.post r) := .of_post r rfl rfl

theorem settleZones_posts (s : State) : Posts s s.settleZones := by
  rw [settleZones_eq]
  exact ⟨by rw [postAll_frame], s.settleReports, postAll_reports _ s⟩

theorem count_posts (s : State) (f : Counters → Counters) : Posts s (s.count f) := .of_eq rfl rfl

theorem countDiscard_posts (s : State) : Posts s s.countDiscard := count_posts s _

theorem modifyDiverter_posts (s : State) (d : DiverterId) (f : Diverter → Diverter) :
    Posts s (s.modifyDiverter d f) := .of_eq rfl rfl

theorem updateItem_posts (s : State) (tag : Nat) (f : Item → Item) :
    Posts s (s.updateItem tag f) := .of_eq rfl rfl

theorem leaveClaim_posts (s : State) (tag : Nat) (d : DiverterId) :
    Posts s (s.leaveClaim tag d) := .of_eq rfl rfl

theorem appendItem_posts (s : State) (z : ZoneId) (p : Nat) (i : Item) :
    Posts s (s.appendItem z p i) := .of_eq rfl rfl

theorem takeRecord_posts (s : State) : Posts s s.takeRecord := .of_eq rfl rfl

theorem release_posts (s : State) (tag : Nat) : Posts s (s.release tag) := .of_eq rfl rfl

theorem lose_posts (s : State) (tag : Nat) (z : ZoneId) (e : Option EyeId) (cause : LostCause) :
    Posts s (s.lose tag z e cause) :=
  ((post_posts s _).trans (count_posts _ _)).trans (release_posts _ _)

/-! ### Diverters -/

theorem reassign_posts (s : State) (tag : Nat) (excluded : Option DiverterId) :
    Posts s (s.reassign tag excluded).1 := by
  rw [reassign_frame]
  exact .of_eq rfl rfl

theorem reevaluate_posts (s : State) (d : DiverterId) : Posts s (s.reevaluate d) :=
  foldl_posts _ (fun s tag => (reassign_posts s tag (some d)).trans (post_posts _ _)) _ s

theorem readHome_posts (s : State) (d : DiverterId) : Posts s (s.readHome d) := by
  rw [State.readHome_frame]
  exact .of_eq rfl rfl

theorem enterSettling_posts (s : State) (d : DiverterId) : Posts s (s.enterSettling d) := by
  unfold State.enterSettling
  split
  · exact .of_post _ rfl rfl
  · exact .of_eq rfl rfl

theorem settleDiverters_posts (s : State) (which : DiverterId → Bool) :
    Posts s (s.settleDiverters which) :=
  foldl_posts _ (fun s d => (readHome_posts s d).trans (enterSettling_posts _ d)) _ s

theorem retracted_posts (s : State) (d : DiverterId) : Posts s (s.retracted d) := by
  unfold State.retracted
  dsimp only
  split
  · exact .of_post _ rfl rfl
  · exact .of_eq rfl rfl

theorem enterRetracting_posts (s : State) (d : DiverterId) : Posts s (s.enterRetracting d) := by
  have entered := modifyDiverter_posts s d fun u =>
    { u with state := .retracting, timer := s.diverterTimer d DiverterDef.returnTimeout }
  unfold State.enterRetracting
  dsimp only
  split
  · exact entered.trans (retracted_posts _ d)
  · exact entered

theorem returnItem_posts (s : State) (d : DiverterId) (cause : MissCause) :
    Posts s (s.returnItem d cause) := by
  rcases returnItem_cases d cause s with ⟨-, h⟩ | ⟨tag, -, h⟩ <;> rw [h]
  · exact .refl s
  · have emptied : Posts s (s.slotEmptied d tag) := .of_eq rfl rfl
    exact (emptied.trans (reassign_posts _ tag _)).trans (post_posts _ _)

theorem enterFault_posts (s : State) (d : DiverterId) (cause : DiverterCause) :
    Posts s (s.enterFault d cause) := by
  have returned := ((modifyDiverter_posts s d fun u =>
    { u with state := .fault, timer := none, testMark := false }).trans
      (post_posts _ (.diverterChange d .fault cause))).trans (returnItem_posts _ d .strokeFault)
  unfold State.enterFault
  dsimp only
  split
  · exact returned.trans (reevaluate_posts _ d)
  · exact returned

theorem completeStroke_posts (s : State) (d : DiverterId) : Posts s (s.completeStroke d) := by
  unfold State.completeStroke
  dsimp only
  split
  · exact modifyDiverter_posts s d _
  · exact (((modifyDiverter_posts s d _).trans (post_posts _ _)).trans (count_posts _ _)).trans
      (release_posts _ _)

theorem withdrawStroke_posts (s : State) (d : DiverterId) : Posts s (s.withdrawStroke d) := by
  unfold State.withdrawStroke
  split
  · exact (readHome_posts s d).trans (enterRetracting_posts _ d)
  · exact .refl s

theorem withdrawStrokes_posts (s : State) : Posts s s.withdrawStrokes :=
  (foldl_posts _ withdrawStroke_posts allDiverters s).trans
    (foldl_posts _ (fun t d => returnItem_posts t d .estop) _ _)

theorem estopAtDiverters_posts (s : State) (active : Bool) :
    Posts s (s.estopAtDiverters active) := by
  have read : Posts s { s with inputs := { s.inputs with estop := active } } := .of_eq rfl rfl
  unfold State.estopAtDiverters
  dsimp only
  split
  · exact read.trans (withdrawStrokes_posts _)
  · exact read

theorem testStroke_posts (s : State) (d : DiverterId) : Posts s (s.testStroke d) :=
  modifyDiverter_posts s d _

theorem disableDiverter_posts (s : State) (d : DiverterId) : Posts s (s.disableDiverter d) := by
  have returned := (modifyDiverter_posts s d fun u =>
    { u with state := .disabled, timer := none, testMark := false }).trans
      (returnItem_posts _ d .disabled)
  unfold State.disableDiverter
  dsimp only
  split_ifs
  · exact .refl s
  · exact returned.trans (reevaluate_posts _ d)
  · exact returned

theorem clearFault_posts (s : State) (d : DiverterId) : Posts s (s.clearFault d) := by
  unfold State.clearFault
  split
  · exact .of_post _ rfl rfl
  · exact enterSettling_posts s d

theorem homeActive_posts (s : State) (d : DiverterId) : Posts s (s.homeActive d) := by
  have read : Posts s (s.setHome d true) := .of_eq rfl rfl
  unfold State.homeActive
  dsimp only
  split
  · exact .of_post _ rfl rfl
  · exact read.trans (retracted_posts _ d)
  · exact read.trans (enterFault_posts _ d _)
  all_goals exact read

theorem homeInactive_posts (s : State) (d : DiverterId) : Posts s (s.homeInactive d) := by
  have read : Posts s (s.setHome d false) := .of_eq rfl rfl
  unfold State.homeInactive
  dsimp only
  split
  · exact read.trans (enterFault_posts _ d _)
  · exact read.trans (completeStroke_posts _ d)
  all_goals exact read

/-! ### Induction -/

theorem pair_posts (s : State) (length : Nat) (overlength : Bool) (next : Option EyeId) :
    Posts s (s.pair length overlength next).1 := by
  unfold State.pair
  split <;> exact .of_eq rfl rfl

theorem closeInduction_posts (s : State) (i : Item) : Posts s (s.closeInduction i) := by
  unfold State.closeInduction
  exact ((reassign_posts s i.tag none).trans (post_posts _ _)).trans (count_posts _ _)

theorem induct_posts (s : State) (length : Nat) (overlength : Bool) :
    Posts s (s.induct length overlength) := by
  unfold State.induct
  split
  · exact .refl s
  · next e _ =>
    split
    · exact post_posts s _
    · have paired := (takeRecord_posts s).trans
        (pair_posts _ length overlength (s.activeLayout.eyeFollowing e))
      dsimp only
      split
      · exact paired.trans (lose_posts _ _ _ _ _)
      · exact (paired.trans (appendItem_posts _ _ _ _)).trans (closeInduction_posts _ _)

theorem beginSpan_posts (s : State) : Posts s s.beginSpan := by
  unfold State.beginSpan
  split <;> exact .of_eq rfl rfl

theorem endSpan_posts (s : State) : Posts s s.endSpan := by
  have ended : Posts s { s with span := .idle, spanCount := 0 } := .of_eq rfl rfl
  unfold State.endSpan
  dsimp only
  split_ifs
  · exact .of_eq rfl rfl
  · exact ended.trans (induct_posts _ _ _)
  · exact ended

theorem inductOverlength_posts (s : State) : Posts s s.inductOverlength := by
  have passed : Posts s { s with span := .passed, spanCount := 0 } := .of_eq rfl rfl
  exact passed.trans (induct_posts _ _ _)

/-! ### Crossings -/

theorem missEye_posts (s : State) (tag : Nat) (e : EyeId) : Posts s (s.missEye tag e) := by
  unfold State.missEye
  split
  · exact .refl s
  · dsimp only
    split_ifs
    · exact updateItem_posts s tag _
    · exact (updateItem_posts s tag _).trans (lose_posts _ _ _ _ _)
    · exact (updateItem_posts s tag _).trans (lose_posts _ _ _ _ _)
    · exact updateItem_posts s tag _

theorem missDivert_posts (s : State) (d : DiverterId) (i : Item) (cause : MissCause) :
    Posts s (s.missDivert d i cause) := by
  have marked : Posts s (if cause = .busy then s.updateItem i.tag Item.markAtRisk else s) := by
    split
    · exact updateItem_posts s i.tag _
    · exact .refl s
  exact ((marked.trans (leaveClaim_posts _ i.tag d)).trans
    (reassign_posts _ i.tag (some d))).trans (post_posts _ _)

theorem fire_posts (s : State) (d : DiverterId) (i : Item) : Posts s (s.fire d i) := by
  unfold State.fire
  dsimp only
  split <;> exact .of_eq rfl rfl

theorem decideFire_posts (s : State) (d : DiverterId) (i : Item) : Posts s (s.decideFire d i) := by
  unfold State.decideFire
  split
  · exact missDivert_posts s d i _
  · exact fire_posts s d i

theorem reachTrigger_posts (s : State) (tag : Nat) (d : DiverterId) :
    Posts s (s.reachTrigger tag d) := by
  unfold State.reachTrigger
  split
  · exact .refl s
  · split_ifs
    · exact decideFire_posts s d _
    · exact updateItem_posts s tag _
    · exact .refl s

theorem takeWindowEnds_posts (tag : Nat) (z : ZoneId) (n : Nat) (s : State) :
    Posts s (s.takeWindowEnds tag z n) := by
  induction n generalizing s with
  | zero => exact .refl s
  | succ n ih =>
    unfold State.takeWindowEnds
    split
    · exact .refl s
    · split
      · exact (missEye_posts s tag _).trans (ih _)
      · exact .refl s

theorem exitItem_posts (s : State) (i : Item) : Posts s (s.exitItem i) :=
  ((post_posts s _).trans (count_posts _ _)).trans (release_posts _ _)

theorem transferItem_posts (s : State) (i : Item) (y : ZoneId) :
    Posts s (s.transferItem i y).1 := by
  unfold State.transferItem
  split
  · exact lose_posts s _ _ _ _
  · exact .of_eq rfl rfl

theorem leaveZone_posts (s : State) (tag : Nat) (z : ZoneId) : Posts s (s.leaveZone tag z).1 := by
  have ended : Posts s (if (s.findItem tag).any (s.transferMeetsReturn z) then s
      else s.takeWindowEnds tag z 12) := by
    split
    · exact .refl s
    · exact takeWindowEnds_posts tag z 12 s
  unfold State.leaveZone
  dsimp only
  split
  · exact ended
  · split
    · exact ended.trans (transferItem_posts _ _ _)
    · exact ended.trans (exitItem_posts _ _)

theorem cross_posts (s : State) (c : Crossing) : Posts s (s.cross c).1 := by
  unfold State.cross
  split
  · split
    · exact leaveZone_posts s _ _
    · exact .refl s
  · exact missEye_posts s _ _
  · exact reachTrigger_posts s _ _
  · exact inductOverlength_posts s

theorem chooseCrossing_posts (s : State) (owed : List Crossing) :
    Posts s (s.chooseCrossing owed).2 := by
  unfold State.chooseCrossing
  split <;> exact .of_eq rfl rfl

theorem takeCrossings_posts (n : Nat) (owed : List Crossing) (s : State) :
    Posts s (s.takeCrossings n owed) := by
  induction n generalizing owed s with
  | zero => exact .refl s
  | succ n ih =>
    cases owed with
    | nil => exact .refl s
    | cons c cs =>
      unfold State.takeCrossings
      dsimp only
      have chosen := chooseCrossing_posts s
        (((c :: cs).filter (isLowest (c :: cs))).filter s.actsAt)
      split
      · next t h =>
        rw [h] at chosen
        exact chosen.trans (ih _ _)
      · next b t h =>
        rw [h] at chosen
        have crossed := chosen.trans (cross_posts t b)
        split <;> exact crossed.trans (ih _ _)

theorem matchEdge_posts (s : State) (e : EyeId) (d : EyeDef) : Posts s (s.matchEdge e d) := by
  unfold State.matchEdge
  split
  · exact (post_posts s _).trans (count_posts _ _)
  · exact (updateItem_posts s _ _).trans (takeCrossings_posts _ _ _)

theorem pulse_posts (s : State) (z : ZoneId) : Posts s (s.pulse z) := by
  have counted : Posts s (if z = 0 then (s.raiseCount z).countSpan else s.raiseCount z) := by
    unfold State.countSpan
    split_ifs <;> exact .of_eq rfl rfl
  unfold State.pulse
  dsimp only
  split
  · exact counted.trans (takeCrossings_posts _ _ _)
  · exact .of_eq rfl rfl

/-! ### Eyes -/

theorem blockedAtItems_posts (s : State) (e : EyeId) (d : EyeDef) :
    Posts s (s.blockedAtItems e d) := by
  unfold State.blockedAtItems
  split
  · exact beginSpan_posts s
  · exact matchEdge_posts s e d

theorem unblockedAtItems_posts (s : State) (d : EyeDef) : Posts s (s.unblockedAtItems d) := by
  unfold State.unblockedAtItems
  split
  · exact endSpan_posts s
  · exact .refl s

theorem edge_posts (s : State) (e : EyeId) (blocked : Bool) (x : EyeState) :
    Posts s ((s.setEyeBlocked e blocked).setEye e x) := .of_eq rfl rfl

theorem blockedEdge_posts (s : State) (e : EyeId) : Posts s (s.blockedEdge e) := by
  have read : Posts s (s.setEyeBlocked e true) := .of_eq rfl rfl
  unfold State.blockedEdge
  dsimp only
  split
  · exact (edge_posts s e true .blocked).trans (blockedAtItems_posts _ e _)
  · exact (edge_posts s e true .jammed).trans (blockedAtItems_posts _ e _)
  · split
    · exact read.trans (beginSpan_posts _)
    · exact read
  · exact read

theorem unblockedEdge_posts (s : State) (e : EyeId) : Posts s (s.unblockedEdge e) := by
  have read : Posts s (s.setEyeBlocked e false) := .of_eq rfl rfl
  unfold State.unblockedEdge
  dsimp only
  split
  · exact (edge_posts s e false .clear).trans (unblockedAtItems_posts _ _)
  · exact (edge_posts s e false .jamHeld).trans (unblockedAtItems_posts _ _)
  · exact read.trans (unblockedAtItems_posts _ _)
  · exact read

theorem jamEye_posts (s : State) (e : EyeId) : Posts s (s.jamEye e) := by
  unfold State.jamEye
  split
  · exact .refl s
  · exact .of_post _ rfl rfl

theorem resume_posts (s : State) (z : ZoneId) : Posts s (s.resume z) := by
  have unheld : Posts s (s.setHost z false) := .of_eq rfl rfl
  have cleared := foldl_posts (State.clearHeld z) (fun _ _ => .of_post _ rfl rfl)
    (s.eyesIn z .jamHeld) (s.setHost z false)
  exact (unheld.trans cleared).trans (.of_eq rfl rfl)

theorem disableEye_posts (s : State) (e : EyeId) (z : ZoneId) : Posts s (s.disableEye e z) := by
  unfold State.disableEye
  split_ifs
  · exact .refl s
  · exact .of_post _ rfl rfl
  · exact .of_eq rfl rfl

/-! ### Requests -/

/-- A request that leaves the link, and does no more to the queue than post reports. -/
def OpPosts (op : State → State × Answer) : Prop := ∀ s : State, Posts s (op s).1

/-- A request that keeps the laws of the queue. -/
def OpOrderly (op : State → State × Answer) : Prop := ∀ s : State, Orderly s → Orderly (op s).1

theorem OpPosts.orderly {op : State → State × Answer} (h : OpPosts op) : OpOrderly op :=
  fun s hs => (h s).orderly hs

theorem opStatus_posts (body : List Byte) : OpPosts (opStatus body) := fun s => by
  unfold opStatus
  split <;> exact .refl s

theorem opIdentify_posts (body : List Byte) : OpPosts (opIdentify body) := fun s => by
  unfold opIdentify
  split <;> exact .refl s

theorem opSetLink_orderly (body : List Byte) : OpOrderly (opSetLink body) := fun s h => by
  unfold opSetLink
  split
  · dsimp only
    split
    · next hl => exact applyLinkSettings_orderly h hl
    · exact h
  · exact h

theorem opReportAck_orderly (body : List Byte) : OpOrderly (opReportAck body) := fun s h => by
  unfold opReportAck
  split
  · dsimp only
    split_ifs with hn
    · exact acknowledge_orderly h hn _
    · exact h
    · exact h
  · exact h

theorem opRestart_orderly (body : List Byte) : OpOrderly (opRestart body) := fun s h => by
  unfold opRestart
  split
  · have givenUp : Orderly s.giveUp := first_orderly rfl h.widest
    exact (settleDiverters_posts _ _).orderly givenUp
  · exact h

theorem opStart_posts (body : List Byte) : OpPosts (opStart body) := fun s => by
  unfold opStart
  split
  · split
    · exact .of_post _ rfl rfl
    · exact .refl s
  · exact .refl s

theorem opStop_posts (body : List Byte) : OpPosts (opStop body) := fun s => by
  unfold opStop
  split
  · split
    · exact .of_post _ rfl rfl
    · exact .refl s
  · exact .refl s

theorem editPending_posts (f : Layout → Layout) : OpPosts (editPending f) :=
  fun _ => .of_eq rfl rfl

theorem opDefineZone_posts (body : List Byte) : OpPosts (opDefineZone body) := fun s => by
  unfold opDefineZone
  split
  · dsimp only
    split
    · split
      · exact editPending_posts _ s
      · exact .refl s
    · exact .refl s
  · exact .refl s

theorem opDefineEye_posts (body : List Byte) : OpPosts (opDefineEye body) := fun s => by
  unfold opDefineEye
  split
  · split
    · exact editPending_posts _ s
    · exact .refl s
  · exact .refl s

theorem opDefineDiverter_posts (body : List Byte) : OpPosts (opDefineDiverter body) := fun s => by
  unfold opDefineDiverter
  split
  · split
    · dsimp only
      split
      · exact editPending_posts _ s
      · exact .refl s
    · exact .refl s
  · exact .refl s

theorem opDefineDestination_posts (body : List Byte) : OpPosts (opDefineDestination body) :=
  fun s => by
    unfold opDefineDestination
    split
    · split
      · exact editPending_posts _ s
      · exact .refl s
    · exact .refl s

theorem opUndefine_posts (body : List Byte) : OpPosts (opUndefine body) := fun s => by
  unfold opUndefine
  split
  · split
    · exact editPending_posts _ s
    · exact .refl s
  · exact .refl s

theorem opSetLine_posts (body : List Byte) : OpPosts (opSetLine body) := fun s => by
  unfold opSetLine
  split
  · split
    · dsimp only
      split
      · exact editPending_posts _ s
      · exact .refl s
    · exact .refl s
  · exact .refl s

theorem opClearPending_posts (body : List Byte) : OpPosts (opClearPending body) := fun s => by
  unfold opClearPending
  split
  · exact editPending_posts _ s
  · exact .refl s

theorem opCopyActive_posts (body : List Byte) : OpPosts (opCopyActive body) := fun s => by
  unfold opCopyActive
  split
  · exact editPending_posts _ s
  · exact .refl s

theorem opReadLayout_posts (body : List Byte) : OpPosts (opReadLayout body) := fun s => by
  unfold opReadLayout
  split
  · split
    · split <;> exact .refl s
    · exact .refl s
  · exact .refl s

theorem commit_posts (s : State) : Posts s s.commit := by
  have taken : Posts s (s.takeLayout.post (.moduleState .standby .commit)) := .of_post _ rfl rfl
  exact taken.trans (settleDiverters_posts _ _)

theorem opCommitLayout_posts (body : List Byte) : OpPosts (opCommitLayout body) := fun s => by
  unfold opCommitLayout
  split
  · split_ifs
    · exact .refl s
    · exact .refl s
    · split
      · exact .refl s
      · exact commit_posts s
  · exact .refl s

theorem opAnnounce_posts (body : List Byte) : OpPosts (opAnnounce body) := fun s => by
  unfold opAnnounce
  split
  · exact .refl s
  · split
    · exact .refl s
    · split
      · exact .refl s
      · split_ifs <;> exact .of_eq rfl rfl

theorem opWithdraw_posts (body : List Byte) : OpPosts (opWithdraw body) := fun s => by
  unfold opWithdraw
  split
  · split <;> exact .of_eq rfl rfl
  · exact .refl s

theorem opQueryItem_posts (body : List Byte) : OpPosts (opQueryItem body) := fun s => by
  unfold opQueryItem
  split
  · split
    · exact .refl s
    · split <;> exact .refl s
  · exact .refl s

theorem opListZone_posts (body : List Byte) : OpPosts (opListZone body) := fun s => by
  unfold opListZone
  split
  · split
    · exact .refl s
    · split <;> exact .refl s
  · exact .refl s

theorem opPurge_posts (body : List Byte) : OpPosts (opPurge body) := fun s => by
  unfold opPurge
  split
  · split
    · exact .refl s
    · split
      · exact .refl s
      · exact release_posts s _
  · exact .refl s

theorem opReroute_posts (body : List Byte) : OpPosts (opReroute body) := fun s => by
  unfold opReroute
  split
  · split
    · exact .refl s
    · split
      · exact .refl s
      · split
        · exact .refl s
        · exact (updateItem_posts s _ _).trans (reassign_posts _ _ none)
  · exact .refl s

theorem opHaltZone_posts (body : List Byte) : OpPosts (opHaltZone body) := fun s => by
  unfold opHaltZone
  split
  · split
    · exact .refl s
    · split <;> exact .of_eq rfl rfl
  · exact .refl s

theorem opResumeZone_posts (body : List Byte) : OpPosts (opResumeZone body) := fun s => by
  unfold opResumeZone
  split
  · split
    · exact .refl s
    · split
      · exact .refl s
      · exact resume_posts s _
  · exact .refl s

theorem opDisableEye_posts (body : List Byte) : OpPosts (opDisableEye body) := fun s => by
  unfold opDisableEye
  split
  · split
    · exact .refl s
    · split
      · exact .refl s
      · split
        · exact .refl s
        · exact disableEye_posts s _ _
  · exact .refl s

theorem enableEye_posts (s : State) (e : EyeId) : Posts s (s.enableEye e) := by
  unfold State.enableEye
  split <;> exact .of_eq rfl rfl

theorem opEnableEye_posts (body : List Byte) : OpPosts (opEnableEye body) := fun s => by
  unfold opEnableEye
  split
  · split
    · exact .refl s
    · split
      · exact .refl s
      · exact enableEye_posts s _
  · exact .refl s

/-- R119: a diverter request is refused, or has its effect on the diverter it names. -/
theorem diverterRequest_posts (allowed : State → DiverterId → Bool)
    (effect : DiverterId → State → State) (h : ∀ s d, Posts s (effect d s)) (body : List Byte) :
    OpPosts (diverterRequest allowed effect body) := fun s => by
  unfold diverterRequest
  split
  · split
    · exact .refl s
    · split
      · exact .refl s
      · split
        · exact h s _
        · exact .refl s
  · exact .refl s

/-- R154 steps 4 to 6: whatever request a KIND names. -/
theorem runKind_orderly (kind : Byte) (body : List Byte) : OpOrderly (runKind kind body) := by
  unfold runKind
  split
  · exact (opStatus_posts body).orderly
  · exact (opIdentify_posts body).orderly
  · exact opSetLink_orderly body
  · exact opReportAck_orderly body
  · exact opRestart_orderly body
  · exact (opStart_posts body).orderly
  · exact (opStop_posts body).orderly
  · exact (opDefineZone_posts body).orderly
  · exact (opDefineEye_posts body).orderly
  · exact (opDefineDiverter_posts body).orderly
  · exact (opDefineDestination_posts body).orderly
  · exact (opUndefine_posts body).orderly
  · exact (opSetLine_posts body).orderly
  · exact (opClearPending_posts body).orderly
  · exact (opCopyActive_posts body).orderly
  · exact (opReadLayout_posts body).orderly
  · exact (opCommitLayout_posts body).orderly
  · exact (opAnnounce_posts body).orderly
  · exact (opWithdraw_posts body).orderly
  · exact (opQueryItem_posts body).orderly
  · exact (opListZone_posts body).orderly
  · exact (opPurge_posts body).orderly
  · exact (opReroute_posts body).orderly
  · exact (opHaltZone_posts body).orderly
  · exact (opResumeZone_posts body).orderly
  · exact (opDisableEye_posts body).orderly
  · exact (opEnableEye_posts body).orderly
  · exact (diverterRequest_posts _ _ testStroke_posts body).orderly
  · exact (diverterRequest_posts _ _ disableDiverter_posts body).orderly
  · exact (diverterRequest_posts _ _ enterSettling_posts body).orderly
  · exact (diverterRequest_posts _ _ clearFault_posts body).orderly
  · exact fun _ h => h

/-! ### Frames, and the end of a happening -/

/-- R154 step 1: a link brought UP may have reports OUTSTANDING. -/
theorem supervise_orderly {s : State} (h : Orderly s) : Orderly s.supervise :=
  ⟨h.numbered, h.parts, h.timed, h.window, h.widest, nofun⟩

theorem dropFrame_orderly {s : State} (h : Orderly s) : Orderly s.dropFrame :=
  (countDiscard_posts _).orderly (supervise_orderly h)

theorem takeLater_orderly {s : State} (h : Orderly s) (later : List ScanEvent) :
    Orderly (s.takeLater later) := by
  refine List.foldlRecOn later _ h fun t ht ev _ => ?_
  cases ev with
  | frame f => exact dropFrame_orderly ht
  | discard => exact (countDiscard_posts t).orderly ht

/-- The reply slot and the cache are no part of the queue. -/
theorem fillSlot_orderly {s : State} (h : Orderly s) (reply : Frame) :
    Orderly { s with link := { s.link with slot := some reply } } := h.of_eq rfl rfl rfl

theorem placeReply_orderly {s : State} (h : Orderly s) (kind seq : Byte) (a : Answer) :
    Orderly (s.placeReply kind seq a) := h.of_eq rfl rfl rfl

theorem handle_orderly (kind seq : Byte) {op : State → State × Answer} (hop : OpOrderly op)
    (later : List ScanEvent) {s : State} (h : Orderly s) :
    Orderly (s.handle kind seq op later) := by
  have settled {t : State} (ht : Orderly t) : Orderly (t.takeLater later).settleZones :=
    (settleZones_posts _).orderly (takeLater_orderly ht later)
  unfold State.handle
  split
  · exact settled (dropFrame_orderly h)
  · split
    · exact fillSlot_orderly (settled (supervise_orderly h)) _
    · exact placeReply_orderly (settled (hop _ (supervise_orderly h))) kind seq _

theorem request_orderly {kind seq : Byte} {op : State → State × Answer} (hop : OpOrderly op)
    {s t : State} (hs : Orderly s) (h : request kind seq op s = .next t) : Orderly t := by
  unfold request at h
  split at h <;> cases h
  · exact hs
  · have rested : Orderly s.rest := hs.of_eq rfl rfl rfl
    exact chooseFrame_orderly (handle_orderly kind seq hop [] rested)

theorem takeEvents_orderly (events : List ScanEvent) {s : State} (h : Orderly s) :
    Orderly (s.takeEvents events) := by
  induction events generalizing s with
  | nil => exact (settleZones_posts s).orderly h
  | cons ev later ih =>
    cases ev with
    | frame f => exact handle_orderly f.kind f.seq (runKind_orderly f.kind f.body) later h
    | discard => exact ih ((countDiscard_posts s).orderly h)

theorem receive_orderly {s : State} (h : Orderly s) (scanned : List ScanEvent × Receiver) :
    Orderly (s.receive scanned) := by
  have taken : Orderly (s.setReceiver scanned.2) := h.of_eq rfl rfl rfl
  exact chooseFrame_orderly (takeEvents_orderly scanned.1 taken)

theorem rescan_orderly {p : Prop} [Decidable p] {s t : State} {buffer : List Byte}
    (hs : Orderly s) (h : (if p then .next (s.receive (rescan buffer)) else .next s :
      Host.Outcome State Fault Refusal) = .next t) : Orderly t := by
  split at h <;> cases h
  · exact receive_orderly hs _
  · exact hs

theorem happening_orderly {occurs : Bool} {effect : State → State} {s t : State} (hs : Orderly s)
    (he : Orderly (effect s)) (h : happening occurs effect s = .next t) : Orderly t := by
  unfold happening at h
  split at h <;> cases h
  · exact chooseFrame_orderly ((settleZones_posts _).orderly he)
  · exact hs

/-! ### Commands -/

theorem begin_orderly (s : State) (cause : ModuleCause) (i : Inputs) :
    Orderly (s.begin cause i) :=
  first_orderly rfl (by decide : LinkSettings.default.sendWindow ≤ 8)

theorem exec_orderly {c : Instr} {s t : State} (hs : Orderly s) (h : exec c s = .next t) :
    Orderly t := by
  have posting {occurs : Bool} {effect : State → State} (hp : Posts s (effect s))
      (he : happening occurs effect s = .next t) : Orderly t :=
    happening_orderly hs (hp.orderly hs) he
  cases hc : requestParts c with
  | some f =>
    rw [exec_request hc] at h
    exact request_orderly (runKind_orderly f.kind f.body) hs h
  | none =>
    cases c with
    | powerOn i =>
      cases h
      exact begin_orderly s .powerOn i
    | resetinActive =>
      cases h
      exact void_orderly s
    | resetinInactive i =>
      rcases resetinInactive_cases h with ⟨-, rfl⟩ | ⟨-, rfl⟩
      exacts [begin_orderly s .resetLine i, hs]
    | encoderPulse z => exact posting (pulse_posts s z) h
    | estopChangeAtZones active => exact posting (.of_eq rfl rfl) h
    | estopChangeAtDiverters active => exact posting (estopAtDiverters_posts s active) h
    | blockedEdge e => exact posting (blockedEdge_posts s e) h
    | unblockedEdge e => exact posting (unblockedEdge_posts s e) h
    | homeActiveEdge d => exact posting (homeActive_posts s d) h
    | homeInactiveEdge d => exact posting (homeInactive_posts s d) h
    | jamTimerExpiry e => exact posting (jamEye_posts s e) h
    | strokeTimerExpiry d => exact posting (enterFault_posts s d _) h
    | dwellTimerExpiry d => exact posting (enterRetracting_posts s d) h
    | returnTimerExpiry d => exact posting (enterFault_posts s d _) h
    | interByteTimeout => exact rescan_orderly hs h
    | frameDiscarded buffer => exact rescan_orderly hs h
    | linkTimerExpiry => exact happening_orderly hs (unsendAll_orderly hs rfl rfl) h
    | resendTimerExpiry => exact happening_orderly hs (unsendAll_orderly hs rfl rfl) h
    | frameSent => exact happening_orderly hs (hs.of_eq rfl rfl rfl) h
    | receivedByte b =>
      change (if s.resetActive then _ else _) = _ at h
      split at h <;> cases h
      exacts [hs, receive_orderly hs _]
    | _ => cases hc

/-- R1: with nothing overdue, the resend timer has a millisecond left of its time. -/
theorem resendTimer_not_overdue {s : State} (hr : s.resetActive = false) (ho : s.overdue = [])
    {τ : Timer} (hτ : s.reports.resendTimer = some τ) : τ.elapsed ≤ τ.duration := by
  by_contra past
  have due : Instr.resendTimerExpiry ∈ s.overdue :=
    (s.mem_overdue _).2 ⟨hr, τ, .inr (.inr (.inr (.inr ⟨rfl, hτ⟩))), Nat.lt_of_not_le past⟩
  rw [ho] at due
  cases due

theorem tick_orderly {s : State} (h : Orderly s) (ho : s.overdue = []) : Orderly s.tick := by
  unfold State.tick
  split
  · exact h
  · next hr =>
    obtain ⟨⟨room, entry, next, consecutive⟩, ⟨sent, rest, entries, count, marked, unmarked⟩,
      ⟨runs, -⟩, window, widest, down⟩ := h
    refine ⟨⟨room, entry, next, consecutive⟩, ⟨sent, rest, entries, count, marked, unmarked⟩,
      ⟨by simpa using runs, fun τ hτ => ?_⟩, window, widest, down⟩
    obtain ⟨σ, hσ, rfl⟩ := Option.map_eq_some_iff.1 hτ
    have left := resendTimer_not_overdue (Bool.eq_false_of_not_eq_true hr) ho hσ
    exact Nat.succ_le_succ left

/-- Settles O8: every command keeps the laws of the queue, through effects that post reports and the
few that send, unsend and acknowledge them, and a millisecond passes only while the resend timer has
one left. -/
theorem stepKeepsReportQueueLaws : Obligations.StepKeepsReportQueueLaws := by
  intro s t hs _ h
  rw [reportQueueLaws_iff] at hs ⊢
  unfold step at h
  split at h
  · rcases idleStep_cases s with ⟨ho, hi⟩ | ⟨c, -, hi⟩ | ⟨-, c, -, hi⟩ <;> rw [hi] at h
    · cases h
      exact tick_orderly hs ho
    · exact exec_orderly hs h
    · have counted : Orderly { s with freeIndex := s.freeIndex + 1 } := hs.of_eq rfl rfl rfl
      exact exec_orderly counted h
  · next c rest _ =>
    have taken : Orderly { s with pending := rest } := hs.of_eq rfl rfl rfl
    exact exec_orderly taken h

end Sys2Proof.Machine
end

section
/-! PROOFS. What a step can do, said once, and the laws of the receiver, the link timer and the transmitter:
what each operation keeps of them, and the statements that follow, `StepKeepsLinkLaws` (R150, R157, R160,
R162) and `FrameBegunIsSentToItsEnd` (R161). -/

namespace Sys2Proof.Machine

set_option Elab.async false

/-! ### What a step can do -/

/-- R1, R2: a step is a millisecond with no timer overdue, or the happening of a command, which finds
the state as it was but for the model's own queue and count. -/
theorem step_cases {s t : State} (h : step s = .next t) :
    s.pending = [] ∧ s.overdue = [] ∧ t = s.tick ∨
    ∃ (c : Instr) (rest : List Instr) (n : Nat),
      exec c { s with pending := rest, freeIndex := n } = .next t := by
  unfold step at h
  split at h
  · next hp =>
    have hs : s = { s with pending := [], freeIndex := s.freeIndex } := by rw [← hp]
    rcases idleStep_cases s with ⟨ho, hi⟩ | ⟨c, -, hi⟩ | ⟨-, c, -, hi⟩ <;> rw [hi] at h
    · cases h
      exact .inl ⟨hp, ho, rfl⟩
    · exact .inr ⟨c, [], s.freeIndex, by rw [← hs]; exact h⟩
    · exact .inr ⟨c, [], s.freeIndex + 1, by rw [hs] at h; exact h⟩
  · next c rest _ => exact .inr ⟨c, rest, s.freeIndex, h⟩

/-- R1: with no timer overdue, each timer that runs has a millisecond left. -/
theorem elapsed_le_of_overdue {s : State} (hr : s.resetActive = false) (ho : s.overdue = [])
    {c : Instr} {τ : Timer} (hτ : TimerRuns s c τ) : τ.elapsed ≤ τ.duration := by
  by_contra past
  have due : c ∈ s.overdue := (s.mem_overdue c).2 ⟨hr, τ, hτ, Nat.lt_of_not_le past⟩
  rw [ho] at due
  cases due

/-! ### The laws, in the parts that the operations keep -/

/-- The laws of the receiver, the timers and the settings, which read the link alone. -/
structure HostLink.Sound (l : HostLink) : Prop where
  receiver : l.receiver.collectsOn = true
  gapRuns : l.interByte.isSome = true ↔ l.receiver ≠ .hunting
  gap : ∀ τ ∈ l.interByte, τ.elapsed ≤ τ.duration + 1
  silence : ∀ τ ∈ l.linkTimer, τ.elapsed ≤ τ.duration + 1
  silenceRuns : l.linkTimer.isSome = true ↔ l.up = true ∧ l.settings.linkTimeout ≠ 0
  settings : l.settings.inRange = true

/-- R162: a FREE transmitter has nothing that it could send. -/
def State.Rests (s : State) : Prop :=
  s.link.transmitter = .free → s.link.slot = none ∧ s.sendable = none

theorem linkLaws_iff (s : State) : LinkLaws s ↔ s.link.Sound ∧ s.Rests := by
  constructor
  · rintro ⟨receiver, gapRuns, gap, silence, silenceRuns, rests, settings⟩
    exact ⟨⟨receiver, gapRuns, gap, silence, silenceRuns, settings⟩, rests⟩
  · rintro ⟨⟨receiver, gapRuns, gap, silence, silenceRuns, settings⟩, rests⟩
    exact ⟨receiver, gapRuns, gap, silence, silenceRuns, rests, settings⟩

/-! ### The transmitter -/

/-- R162: after the choice there is nothing that a FREE transmitter could send. -/
theorem chooseFrame_rests (s : State) : s.chooseFrame.Rests := by
  rcases chooseFrame_cases s with ⟨h, rests⟩ | ⟨reply, -, -, h⟩ | ⟨e, -, -, -, h⟩ <;> rw [h]
  · exact rests
  · exact nofun
  · exact nofun

theorem chooseFrame_sound {s : State} (h : s.link.Sound) : s.chooseFrame.link.Sound := by
  rw [chooseFrame_frame]
  exact ⟨h.receiver, h.gapRuns, h.gap, h.silence, h.silenceRuns, h.settings⟩

/-- R162: a happening that keeps the link's laws to its end keeps them whole. -/
theorem chooseFrame_linkLaws {s : State} (h : s.link.Sound) : LinkLaws s.chooseFrame :=
  (linkLaws_iff _).2 ⟨chooseFrame_sound h, chooseFrame_rests s⟩

/-- R161: the choice leaves a frame that is being sent. -/
theorem chooseFrame_of_sending {s : State} {frame : List Byte}
    (h : s.link.transmitter = .sending frame) : s.chooseFrame = s := by
  unfold State.chooseFrame
  rw [h]

/-! ### The receiver (R150 to R153) -/

/-- R150: whatever bytes it takes, the receiver is left with no whole frame and no bad LENGTH byte. -/
theorem scan_collectsOn (n : Nat) {r : Receiver} (h : r.collectsOn = true) (bytes : List Byte) :
    (scan n r bytes).2.collectsOn = true := by
  induction n generalizing r bytes with
  | zero => exact h
  | succ n ih =>
    cases bytes with
    | nil => exact h
    | cons b bs =>
      cases r with
      | hunting =>
        unfold scan
        split
        · exact ih rfl bs
        · exact ih rfl bs
      | collecting buffer =>
        unfold scan
        split
        · next hj => exact ih (r := .collecting _) (decide_eq_true hj) bs
        · exact ih rfl bs
        · exact ih rfl _

/-! ### What a frame's happening does to the link -/

/-- A property of the link that the writes of a frame's happening keep: the receiver and its timer, the
signs of life, the settings of a SET_LINK, and the reply slot and the cache. -/
structure KeptByFrames (P : HostLink → Prop) : Prop where
  receiver {l : HostLink} (h : P l) {r : Receiver}
    (hr : l.receiver.collectsOn = true → r.collectsOn = true) :
    P { l with receiver := r
               interByte := if r = .hunting then none else startTimer Config.interByteTime }
  life {l : HostLink} (h : P l) : P { l with up := true, linkTimer := l.settings.linkTimer }
  settings {l : HostLink} (h : P l) (hu : l.up = true) {x : LinkSettings} (hx : x.inRange = true) :
    P { l with settings := x, linkTimer := x.linkTimer }
  replies {l : HostLink} (h : P l) (slot cache : Option Frame) :
    P { l with slot := slot, cache := cache }

/-- R157: the link timer started afresh. -/
theorem linkTimer_afresh (l : LinkSettings) :
    (l.linkTimer.isSome = true ↔ l.linkTimeout ≠ 0) ∧
    ∀ τ ∈ l.linkTimer, τ.elapsed ≤ τ.duration + 1 := by
  unfold LinkSettings.linkTimer startTimer
  split <;> simp_all

theorem sound_keptByFrames : KeptByFrames HostLink.Sound where
  receiver h r hr :=
    { receiver := hr h.receiver
      gapRuns := by by_cases hunting : r = .hunting <;> simp [startTimer, hunting]
      gap := by by_cases hunting : r = .hunting <;> simp [startTimer, hunting]
      silence := h.silence, silenceRuns := h.silenceRuns, settings := h.settings }
  life {l} h :=
    { receiver := h.receiver, gapRuns := h.gapRuns, gap := h.gap, settings := h.settings
      silence := (linkTimer_afresh l.settings).2
      silenceRuns := (linkTimer_afresh l.settings).1.trans (by simp) }
  settings h hu x hx :=
    { receiver := h.receiver, gapRuns := h.gapRuns, gap := h.gap, settings := hx
      silence := (linkTimer_afresh x).2
      silenceRuns := (linkTimer_afresh x).1.trans (by simp [hu]) }
  replies h _ _ := ⟨h.receiver, h.gapRuns, h.gap, h.silence, h.silenceRuns, h.settings⟩

/-- R161: the frame being sent is no concern of a frame received. -/
theorem sending_keptByFrames (frame : List Byte) :
    KeptByFrames fun l => l.transmitter = .sending frame :=
  ⟨fun h _ _ => h, fun h => h, fun h _ _ _ => h, fun h _ _ => h⟩

/-- An operation, as a request of a KIND, that leaves the link, takes up settings in range (SET_LINK) or
empties the cache (RESTART). -/
def OpLinks (kind : Byte) (op : State → State × Answer) : Prop := ∀ s : State,
  (op s).1.link = s.link ∨
  (∃ l : LinkSettings, kind = 0x03#8 ∧ l.inRange = true ∧ (op s).1 = s.applyLinkSettings l) ∨
  (op s).1.link = { s.link with cache := none }

theorem OpPosts.links {op : State → State × Answer} (h : OpPosts op) (kind : Byte) :
    OpLinks kind op := fun s => .inl (h s).link

theorem opSetLink_links (body : List Byte) : OpLinks 0x03#8 (opSetLink body) := fun s => by
  unfold opSetLink
  split
  · dsimp only
    split
    · next hl => exact .inr (.inl ⟨_, rfl, hl, rfl⟩)
    · exact .inl rfl
  · exact .inl rfl

theorem opReportAck_links (kind : Byte) (body : List Byte) : OpLinks kind (opReportAck body) :=
  fun s => by
  unfold opReportAck
  split
  · dsimp only
    split_ifs
    exacts [.inl rfl, .inl rfl, .inl rfl]
  · exact .inl rfl

theorem opRestart_links (kind : Byte) (body : List Byte) : OpLinks kind (opRestart body) :=
  fun s => by
  unfold opRestart
  split
  · exact .inr (.inr (settleDiverters_posts s.giveUp _).link)
  · exact .inl rfl

/-- R154: whatever request a KIND names, only SET_LINK and RESTART write the link as it is executed. -/
theorem runKind_links (kind : Byte) (body : List Byte) : OpLinks kind (runKind kind body) := by
  unfold runKind
  split
  · exact (opStatus_posts body).links kind
  · exact (opIdentify_posts body).links kind
  · next hk => exact BitVec.eq_of_toNat_eq (y := 0x03#8) hk ▸ opSetLink_links body
  · exact opReportAck_links kind body
  · exact opRestart_links kind body
  · exact (opStart_posts body).links kind
  · exact (opStop_posts body).links kind
  · exact (opDefineZone_posts body).links kind
  · exact (opDefineEye_posts body).links kind
  · exact (opDefineDiverter_posts body).links kind
  · exact (opDefineDestination_posts body).links kind
  · exact (opUndefine_posts body).links kind
  · exact (opSetLine_posts body).links kind
  · exact (opClearPending_posts body).links kind
  · exact (opCopyActive_posts body).links kind
  · exact (opReadLayout_posts body).links kind
  · exact (opCommitLayout_posts body).links kind
  · exact (opAnnounce_posts body).links kind
  · exact (opWithdraw_posts body).links kind
  · exact (opQueryItem_posts body).links kind
  · exact (opListZone_posts body).links kind
  · exact (opPurge_posts body).links kind
  · exact (opReroute_posts body).links kind
  · exact (opHaltZone_posts body).links kind
  · exact (opResumeZone_posts body).links kind
  · exact (opDisableEye_posts body).links kind
  · exact (opEnableEye_posts body).links kind
  · exact (diverterRequest_posts _ _ testStroke_posts body).links kind
  · exact (diverterRequest_posts _ _ disableDiverter_posts body).links kind
  · exact (diverterRequest_posts _ _ enterSettling_posts body).links kind
  · exact (diverterRequest_posts _ _ clearFault_posts body).links kind
  · exact fun _ => .inl rfl

section

variable {P : HostLink → Prop} {s : State}

theorem KeptByFrames.runKind (k : KeptByFrames P) (h : P s.link) (hu : s.link.up = true)
    (kind : Byte) (body : List Byte) : P (runKind kind body s).1.link := by
  rcases runKind_links kind body s with hl | ⟨l, -, hr, hl⟩ | hl <;> rw [hl]
  · exact h
  · exact k.settings h hu hr
  · exact k.replies h s.link.slot none

/-! ### Frames -/

theorem KeptByFrames.dropFrame (k : KeptByFrames P) (h : P s.link) : P s.dropFrame.link := by
  rw [State.dropFrame, (countDiscard_posts _).link]
  exact k.life h

theorem KeptByFrames.takeLater (k : KeptByFrames P) (h : P s.link) (later : List ScanEvent) :
    P (s.takeLater later).link := by
  refine List.foldlRecOn (motive := fun t : State => P t.link) later _ h fun t ht ev _ => ?_
  cases ev with
  | frame f => exact k.dropFrame ht
  | discard => exact ht

theorem KeptByFrames.handle (k : KeptByFrames P) (h : P s.link) (kind seq : Byte)
    (body : List Byte) (later : List ScanEvent) :
    P (s.handle kind seq (Machine.runKind kind body) later).link := by
  have settled {t : State} (ht : P t.link) : P (t.takeLater later).settleZones.link := by
    rw [(settleZones_posts _).link]
    exact k.takeLater ht later
  have live : P s.supervise.link := k.life h
  unfold State.handle
  split
  · exact settled (k.dropFrame h)
  · split
    · exact k.replies (settled live) _ _
    · exact k.replies (settled (k.runKind live rfl kind body)) _ _

theorem KeptByFrames.takeEvents (k : KeptByFrames P) (events : List ScanEvent) (h : P s.link) :
    P (s.takeEvents events).link := by
  induction events generalizing s with
  | nil =>
    rw [State.takeEvents, (settleZones_posts s).link]
    exact h
  | cons ev later ih =>
    cases ev with
    | frame f => exact k.handle h f.kind f.seq f.body later
    | discard =>
      rw [State.takeEvents]
      exact ih h

/-- R150 to R154: what taking bytes makes of the link, but for the transmitter's choice. -/
theorem KeptByFrames.received (k : KeptByFrames P) (h : P s.link)
    {scanned : List ScanEvent × Receiver}
    (hr : s.link.receiver.collectsOn = true → scanned.2.collectsOn = true) :
    P ((s.setReceiver scanned.2).takeEvents scanned.1).link :=
  k.takeEvents scanned.1 (k.receiver h hr)

/-- R151: a request that a valid frame brings, but for the transmitter's choice. -/
theorem KeptByFrames.requested (k : KeptByFrames P) (h : P s.link) (f : Frame) :
    P (s.rest.handle f.kind f.seq (Machine.runKind f.kind f.body) []).link :=
  k.handle (k.receiver h (r := .hunting) fun _ => rfl) f.kind f.seq f.body []

end

/-! ### Commands -/

/-- The supply and RESETIN (R129, R130). -/
def IsReset : Instr → Bool
  | .powerOn _ | .resetinActive | .resetinInactive _ => true
  | _ => false

/-- R162: a property of the link that frames and the happenings at the link keep holds as the transmitter
chooses at the end of a happening, whichever command brings it. -/
theorem KeptByFrames.exec {P : HostLink → Prop} (k : KeptByFrames P) {c : Instr} {s t : State}
    (hs : P s.link) (down : P s.linkDown.link) (gone : c = .frameSent → P s.frameGone.link)
    (hc : IsReset c = false) (h : exec c s = .next t) :
    t = s ∨ ∃ u : State, P u.link ∧ t = u.chooseFrame := by
  have happens {occurs : Bool} {effect : State → State} (hp : P (effect s).link)
      (he : happening occurs effect s = .next t) : t = s ∨ ∃ u : State, P u.link ∧ t = u.chooseFrame := by
    unfold happening at he
    split at he <;> cases he
    · exact .inr ⟨_, by rw [(settleZones_posts _).link]; exact hp, rfl⟩
    · exact .inl rfl
  have posting {occurs : Bool} {effect : State → State} (hp : Posts s (effect s))
      (he : happening occurs effect s = .next t) : t = s ∨ ∃ u : State, P u.link ∧ t = u.chooseFrame :=
    happens (by rw [hp.link]; exact hs) he
  have discards {p : Prop} [Decidable p] {buffer : List Byte}
      (he : (if p then .next (s.receive (rescan buffer)) else .next s :
        Host.Outcome State Fault Refusal) = .next t) :
      t = s ∨ ∃ u : State, P u.link ∧ t = u.chooseFrame := by
    split at he <;> cases he
    · exact .inr ⟨_, k.received (scanned := rescan buffer) hs
        fun _ => scan_collectsOn _ (r := .hunting) rfl buffer, rfl⟩
    · exact .inl rfl
  cases hf : requestParts c with
  | some f =>
    rw [exec_request hf] at h
    unfold request at h
    split at h <;> cases h
    exacts [.inl rfl, .inr ⟨_, k.requested hs f, rfl⟩]
  | none =>
    cases c with
    | powerOn | resetinActive | resetinInactive => cases hc
    | encoderPulse z => exact posting (pulse_posts s z) h
    | estopChangeAtZones active => exact posting (.of_eq rfl rfl) h
    | estopChangeAtDiverters active => exact posting (estopAtDiverters_posts s active) h
    | blockedEdge e => exact posting (blockedEdge_posts s e) h
    | unblockedEdge e => exact posting (unblockedEdge_posts s e) h
    | homeActiveEdge d => exact posting (homeActive_posts s d) h
    | homeInactiveEdge d => exact posting (homeInactive_posts s d) h
    | jamTimerExpiry e => exact posting (jamEye_posts s e) h
    | strokeTimerExpiry d => exact posting (enterFault_posts s d _) h
    | dwellTimerExpiry d => exact posting (enterRetracting_posts s d) h
    | returnTimerExpiry d => exact posting (enterFault_posts s d _) h
    | interByteTimeout => exact discards h
    | frameDiscarded buffer => exact discards h
    | linkTimerExpiry => exact happens down h
    | resendTimerExpiry => exact happens hs h
    | frameSent => exact happens (gone rfl) h
    | receivedByte b =>
      change (if s.resetActive then _ else _) = _ at h
      split at h <;> cases h
      · exact .inl rfl
      · exact .inr ⟨_, k.received (scanned := scanAll s.link.receiver [b]) hs
          fun hr => scan_collectsOn _ hr [b], rfl⟩
    | _ => cases hf

/-- Table 8-7: a link at power-on, with an empty queue or none. -/
theorem powerOn_linkLaws {s : State} {speed : LinkSpeed} (h : s.link = .powerOn speed) :
    LinkLaws s := by
  refine (linkLaws_iff s).2 ⟨?_, fun _ => ?_⟩
  · rw [h]
    exact ⟨rfl, by simp [HostLink.powerOn], nofun, nofun, by simp [HostLink.powerOn], rfl⟩
  · simp [State.sendable, h, HostLink.powerOn]

/-- R158: with the link DOWN its timer does not run. -/
theorem linkDown_sound {s : State} (h : s.link.Sound) : s.linkDown.link.Sound :=
  { receiver := h.receiver, gapRuns := h.gapRuns, gap := h.gap, settings := h.settings
    silence := nofun
    silenceRuns := by simp [State.linkDown] }

theorem frameGone_sound {s : State} (h : s.link.Sound) : s.frameGone.link.Sound :=
  ⟨h.receiver, h.gapRuns, h.gap, h.silence, h.silenceRuns, h.settings⟩

theorem exec_linkLaws {c : Instr} {s t : State} (hs : LinkLaws s) (h : exec c s = .next t) :
    LinkLaws t := by
  cases c with
  | powerOn i =>
    cases h
    exact powerOn_linkLaws rfl
  | resetinActive =>
    cases h
    exact powerOn_linkLaws rfl
  | resetinInactive i =>
    rcases resetinInactive_cases h with ⟨-, rfl⟩ | ⟨-, rfl⟩
    exacts [powerOn_linkLaws rfl, hs]
  | _ =>
    obtain ⟨sound, -⟩ := (linkLaws_iff s).1 hs
    rcases sound_keptByFrames.exec sound (linkDown_sound sound) (fun _ => frameGone_sound sound)
      rfl h with rfl | ⟨u, hu, rfl⟩
    exacts [hs, chooseFrame_linkLaws hu]

/-! ### The two statements -/

/-- R1: a millisecond takes no timer of the link more than one past its time. -/
theorem tick_linkLaws {s : State} (h : LinkLaws s) (ho : s.overdue = []) : LinkLaws s.tick := by
  obtain ⟨sound, rests⟩ := (linkLaws_iff s).1 h
  unfold State.tick
  split
  · exact h
  · next hr =>
    have left {c : Instr} {τ : Timer} (hτ : TimerRuns s c τ) : τ.elapsed ≤ τ.duration :=
      elapsed_le_of_overdue (Bool.eq_false_of_not_eq_true hr) ho hτ
    refine (linkLaws_iff _).2 ⟨⟨sound.receiver, ?_, fun τ hτ => ?_, fun τ hτ => ?_, ?_,
      sound.settings⟩, rests⟩
    · simpa using sound.gapRuns
    · obtain ⟨σ, hσ, rfl⟩ := Option.map_eq_some_iff.1 hτ
      have collecting := sound.gapRuns.1 (by rw [hσ]; rfl)
      exact Nat.succ_le_succ (left (c := .interByteTimeout)
        (.inr (.inr (.inl ⟨rfl, collecting, hσ⟩))))
    · obtain ⟨σ, hσ, rfl⟩ := Option.map_eq_some_iff.1 hτ
      have up := (sound.silenceRuns.1 (by rw [hσ]; rfl)).1
      exact Nat.succ_le_succ (left (c := .linkTimerExpiry)
        (.inr (.inr (.inr (.inl ⟨rfl, up, hσ⟩)))))
    · simpa using sound.silenceRuns

/-- Settles O13: every command keeps the laws of the receiver, the timers and the settings to its end,
where the transmitter's choice leaves nothing that it could send, and a millisecond passes only while
each timer has one left. -/
theorem stepKeepsLinkLaws : Obligations.StepKeepsLinkLaws := by
  intro s t hs h
  rcases step_cases h with ⟨-, ho, rfl⟩ | ⟨c, rest, n, he⟩
  · exact tick_linkLaws hs ho
  · exact exec_linkLaws (s := { s with pending := rest, freeIndex := n }) hs he

/-- Settles O16: the effects of happenings leave the link or write other parts of it, and the choice at
their end leaves a transmitter that sends. -/
theorem frameBegunIsSentToItsEnd : Obligations.FrameBegunIsSentToItsEnd := by
  intro s t c frame hs h notSent notOn notReset notRelease
  have hc : IsReset c = false := by
    cases c with
    | powerOn i => exact absurd rfl (notOn i)
    | resetinActive => exact absurd rfl notReset
    | resetinInactive i => exact absurd rfl (notRelease i)
    | _ => rfl
  rcases (sending_keptByFrames frame).exec hs hs (absurd · notSent) hc h with rfl | ⟨u, hu, rfl⟩
  · exact hs
  · rw [chooseFrame_of_sending hu]
    exact hu

end Sys2Proof.Machine
end

section
/-! PROOFS. What a command can do to the module's blocks, said once: which parts of the state the link's own
work, the settling and the transmitter's choice leave alone, what each request makes of the rest, and what
each happening at a field input or a timer does. -/

namespace Sys2Proof.Machine

set_option Elab.async false

/-! ### The blocks -/

/-- The state without the link, the report queue, the counters, the halt reasons and permits: what only the
effect of a command changes. -/
def State.blocks (s : State) : State :=
  { s with
    link := State.reset.link, reports := .empty, counters := .zero
    zones := Vector.ofFn fun z => { s.zones[z] with reasons := Reasons.none, permit := false } }

/-- Two states with the same blocks have the same counts and track lists. -/
theorem blocks_zone {s t : State} (h : t.blocks = s.blocks) (z : ZoneId) :
    t.zones[z].count = s.zones[z].count ∧ t.zones[z].track = s.zones[z].track := by
  have hz := congrArg (fun u : State => u.zones[z]) h
  simp only [State.blocks, Fin.getElem_fin, Vector.getElem_ofFn, ZoneUnit.mk.injEq] at hz
  exact ⟨hz.1, hz.2.2.2⟩

theorem blocks_of_zones {s t : State} (hz : ∀ z : ZoneId, t.zones[z].count = s.zones[z].count ∧
      t.zones[z].track = s.zones[z].track)
    (ht : t = { s with zones := t.zones, link := t.link, reports := t.reports
                       counters := t.counters }) :
    t.blocks = s.blocks := by
  have hv : (Vector.ofFn fun z : ZoneId => ({ t.zones[z] with reasons := Reasons.none, permit := false } :
      ZoneUnit)) = Vector.ofFn fun z : ZoneId =>
        { s.zones[z] with reasons := Reasons.none, permit := false } := by
    congr 1
    funext z
    dsimp only
    rw [(hz z).1, (hz z).2]
  rw [State.blocks, hv, ht]
  rfl

theorem postAll_blocks (rs : List Report) (s : State) : (s.postAll rs).blocks = s.blocks := by
  rw [postAll_frame]
  rfl

theorem modifyReasons_blocks (s : State) (z : ZoneId) (f : Reasons → Reasons) :
    (s.modifyReasons z f).blocks = s.blocks := by
  refine blocks_of_zones (fun y => ?_) rfl
  rw [modifyReasons_zone]
  split
  · next h => exact h ▸ ⟨rfl, rfl⟩
  · exact ⟨rfl, rfl⟩

theorem settleZones_blocks (s : State) : s.settleZones.blocks = s.blocks := by
  refine blocks_of_zones (fun z => ?_) (by rw [settleZones_frame])
  rw [settleZones_eq]
  simp [State.settledZone, ZoneUnit.settled]

theorem chooseFrame_blocks (s : State) : s.chooseFrame.blocks = s.blocks := by
  rw [chooseFrame_frame]
  rfl

theorem supervise_blocks (s : State) : s.supervise.blocks = s.blocks :=
  modifyReasons_blocks s 0 fun r => { r with link := false }

theorem fillSlot_blocks (s : State) (reply : Frame) :
    ({ s with link := { s.link with slot := some reply } } : State).blocks = s.blocks := rfl

theorem placeReply_blocks (s : State) (kind seq : Byte) (a : Answer) :
    (s.placeReply kind seq a).blocks = s.blocks := rfl

theorem dropFrame_blocks (s : State) : s.dropFrame.blocks = s.blocks :=
  (rfl : s.dropFrame.blocks = s.supervise.blocks).trans (supervise_blocks s)

theorem linkDown_blocks (s : State) : s.linkDown.blocks = s.blocks :=
  modifyReasons_blocks s 0 fun r =>
    { r with link := r.link || (s.configured && s.activeLayout.line.infeedHold) }

theorem takeLater_blocks (later : List ScanEvent) (s : State) :
    (s.takeLater later).blocks = s.blocks := by
  refine List.foldlRecOn (motive := fun t : State => t.blocks = s.blocks) later _ rfl
    fun t ht ev _ => ?_
  cases ev with
  | frame f => exact (dropFrame_blocks t).trans ht
  | discard => exact ht

/-! ### What a request makes of the blocks -/

/-- What the request of a KIND makes of the state `s`, apart from the link, the report queue, the counters
and the reasons. Most requests do nothing more, or edit the pending copy. -/
inductive Requested (s : State) : Byte → State → Prop
  | nothing {kind : Byte} : Requested s kind s
  | announcements {kind : Byte} (a : List Announcement) :
    Requested s kind { s with announcements := a }
  | edit {kind : Byte} (l : Layout)
    (h : LayoutInRange s.pendingLayout → LayoutInRange s.activeLayout → LayoutInRange l) :
    Requested s kind { s with pendingLayout := l }
  | start (h : s.module = .standby) : Requested s 0x06#8 { s with module := .tracking }
  | stop (h : s.module = .tracking) : Requested s 0x07#8 { s with module := .standby }
  | restart : Requested s 0x05#8 (s.giveUp.settleDiverters s.restartsDiverter)
  | commit (hm : s.module ≠ .tracking) (hi : s.lineItems = []) (ha : s.announcements = [])
    (hv : s.pendingLayout.validate = none) : Requested s 0x19#8 s.commit
  | purge {kind : Byte} (i : Item) (hf : s.findItem i.tag = some i) (hi : i.state = .tracked) :
    Requested s kind (s.release i.tag)
  | reroute {kind : Byte} (i : Item) (c : DestinationCode) (hf : s.findItem i.tag = some i)
    (hi : i.state = .tracked) : Requested s kind (s.reroute i c).1
  | resume {kind : Byte} (z : ZoneId) : Requested s kind (s.resume z)
  | disableEye {kind : Byte} (e : EyeId) (d : EyeDef) (hd : s.activeLayout.eyes[e] = some d)
    (hr : d.role = .confirm) : Requested s kind (s.disableEye e d.zone)
  | enableEye {kind : Byte} (e : EyeId) : Requested s kind (s.enableEye e)
  | testDiverter {kind : Byte} (d : DiverterId) (ht : s.mayTest d = true) :
    Requested s kind (s.testStroke d)
  | disableDiverter {kind : Byte} (d : DiverterId) (hd : s.activeLayout.diverters[d].isSome = true) :
    Requested s kind (s.disableDiverter d)
  | enableDiverter {kind : Byte} (d : DiverterId) (hs : s.diverters[d].state = .disabled) :
    Requested s kind (s.enterSettling d)
  | clearFault {kind : Byte} (d : DiverterId) (hs : s.diverters[d].state = .fault) :
    Requested s kind (s.clearFault d)

/-- An operation that does to the blocks what a request of a KIND may. -/
def OpRequested (kind : Byte) (op : State → State × Answer) : Prop := ∀ s : State,
  ∃ t, Requested s kind t ∧ (op s).1.blocks = t.blocks

variable {kind : Byte} (body : List Byte)

theorem requested_nothing {s t : State} (h : t.blocks = s.blocks) :
    ∃ u, Requested s kind u ∧ t.blocks = u.blocks := ⟨s, .nothing, h⟩

theorem opStatus_requested : OpRequested kind (opStatus body) := fun s => by
  unfold opStatus
  split <;> exact requested_nothing rfl

theorem opIdentify_requested : OpRequested kind (opIdentify body) := fun s => by
  unfold opIdentify
  split <;> exact requested_nothing rfl

theorem opSetLink_requested : OpRequested kind (opSetLink body) := fun s => by
  unfold opSetLink
  split
  · dsimp only
    split <;> exact requested_nothing rfl
  · exact requested_nothing rfl

theorem opReportAck_requested : OpRequested kind (opReportAck body) := fun s => by
  unfold opReportAck
  split
  · dsimp only
    split_ifs <;> exact requested_nothing rfl
  · exact requested_nothing rfl

theorem opRestart_requested : OpRequested 0x05#8 (opRestart body) := fun s => by
  unfold opRestart
  split
  · exact ⟨_, .restart, rfl⟩
  · exact requested_nothing rfl

theorem setStopped_blocks (s : State) (tracking : Bool) : (s.setStopped tracking).blocks = s.blocks :=
  blocks_of_zones (fun z => by simp [State.setStopped]) rfl

theorem opStart_requested : OpRequested 0x06#8 (opStart body) := fun s => by
  unfold opStart
  split
  · split
    · next hm => exact ⟨_, .start hm, setStopped_blocks _ true⟩
    · exact requested_nothing rfl
  · exact requested_nothing rfl

theorem opStop_requested : OpRequested 0x07#8 (opStop body) := fun s => by
  unfold opStop
  split
  · split
    · next hm => exact ⟨_, .stop hm, setStopped_blocks _ false⟩
    · exact requested_nothing rfl
  · exact requested_nothing rfl

/-! ### Requests that edit the pending copy -/

theorem editPending_requested (s : State) (f : Layout → Layout)
    (h : LayoutInRange s.pendingLayout → LayoutInRange s.activeLayout →
      LayoutInRange (f s.pendingLayout)) :
    ∃ t, Requested s kind t ∧ (editPending f s).1.blocks = t.blocks := ⟨_, .edit _ h, rfl⟩

theorem opDefineZone_requested : OpRequested kind (opDefineZone body) := fun s => by
  unfold opDefineZone
  split
  · dsimp only
    split
    · split
      · next z _ hr =>
        refine editPending_requested s _ fun ⟨zones, rest⟩ _ => ⟨fun y d hd => ?_, rest⟩
        rw [getElem_set_fin] at hd
        split at hd
        · cases hd
          simp only [ZoneDef.inRange, decide_eq_true_eq] at hr
          exact ⟨hr.1, hr.2.1, hr.2.2.2, hr.2.2.1⟩
        · exact zones y d hd
      · exact requested_nothing rfl
    · exact requested_nothing rfl
  · exact requested_nothing rfl

theorem eyeDefOf_inRange {zone p0 p1 tolerance role sense j0 j1 : Byte} {d : EyeDef}
    (h : eyeDefOf zone p0 p1 tolerance role sense j0 j1 = some d) : d.inRange = true := by
  unfold eyeDefOf at h
  split at h
  · dsimp only at h
    split at h
    · next hr => cases h; exact hr
    · cases h
  · cases h

theorem opDefineEye_requested : OpRequested kind (opDefineEye body) := fun s => by
  unfold opDefineEye
  split
  · split
    · next e d _ hd =>
      refine editPending_requested s _ fun ⟨zones, eyes, rest⟩ _ => ⟨zones, fun f c hc => ?_, rest⟩
      rw [getElem_set_fin] at hc
      split at hc
      · cases hc
        simpa [EyeDef.inRange] using eyeDefOf_inRange hd
      · exact eyes f c hc
    · exact requested_nothing rfl
  · exact requested_nothing rfl

theorem opDefineDiverter_requested : OpRequested kind (opDefineDiverter body) := fun s => by
  unfold opDefineDiverter
  split
  · split
    · dsimp only
      split
      · next d z _ _ hr =>
        refine editPending_requested s _ fun ⟨zones, eyes, diverters, rest⟩ _ =>
          ⟨zones, eyes, fun v c hc => ?_, rest⟩
        rw [getElem_set_fin] at hc
        split at hc
        · cases hc
          simpa [DiverterDef.inRange, and_assoc] using hr
        · exact diverters v c hc
      · exact requested_nothing rfl
    · exact requested_nothing rfl
  · exact requested_nothing rfl

theorem opDefineDestination_requested : OpRequested kind (opDefineDestination body) := fun s => by
  unfold opDefineDestination
  split
  · split
    · exact editPending_requested s _ fun h _ => h
    · exact requested_nothing rfl
  · exact requested_nothing rfl

/-- R138: a definition removed from a copy in range leaves it in range. -/
theorem undefineEdit_inRange {k number : Byte} {f : Layout → Layout} (hf : undefineEdit k number = some f)
    {l : Layout} (h : LayoutInRange l) : LayoutInRange (f l) := by
  obtain ⟨zones, eyes, diverters, rest⟩ := h
  have cleared {n : Nat} {α : Type} {v : Vector (Option α) n} {i j : Fin n} {x : α}
      (hx : x ∈ (v.set i none)[j]) : x ∈ v[j] := by
    rw [getElem_set_fin] at hx
    split at hx
    · cases hx
    · exact hx
  unfold undefineEdit at hf
  split at hf
  · obtain ⟨z, -, rfl⟩ := Option.map_eq_some_iff.1 hf
    exact ⟨fun y d hd => zones y d (cleared hd), eyes, diverters, rest⟩
  · obtain ⟨e, -, rfl⟩ := Option.map_eq_some_iff.1 hf
    exact ⟨zones, fun y d hd => eyes y d (cleared hd), diverters, rest⟩
  · obtain ⟨v, -, rfl⟩ := Option.map_eq_some_iff.1 hf
    exact ⟨zones, eyes, fun y d hd => diverters y d (cleared hd), rest⟩
  all_goals cases hf

theorem opUndefine_requested : OpRequested kind (opUndefine body) := fun s => by
  unfold opUndefine
  split
  · split
    · next f hf => exact editPending_requested s _ fun h _ => undefineEdit_inRange hf h
    · exact requested_nothing rfl
  · exact requested_nothing rfl

theorem opSetLine_requested : OpRequested kind (opSetLine body) := fun s => by
  unfold opSetLine
  split
  · split
    · dsimp only
      split
      · next hl =>
        obtain ⟨hmin, hmax, htol, hmiss, hpool⟩ := (lineSettings_inRange_iff _).1 hl
        exact editPending_requested s _ fun ⟨zones, eyes, diverters, _⟩ _ =>
          ⟨zones, eyes, diverters, hmin, hmax, htol, hmiss, hpool⟩
      · exact requested_nothing rfl
    · exact requested_nothing rfl
  · exact requested_nothing rfl

/-- R136: the empty copy has no entry out of range. -/
theorem empty_inRange : LayoutInRange .empty := by
  simp [LayoutInRange, Layout.empty, LineSettings.default]

theorem opClearPending_requested : OpRequested kind (opClearPending body) := fun s => by
  unfold opClearPending
  split
  · exact editPending_requested s _ fun _ _ => empty_inRange
  · exact requested_nothing rfl

theorem opCopyActive_requested : OpRequested kind (opCopyActive body) := fun s => by
  unfold opCopyActive
  split
  · exact editPending_requested s _ fun _ h => h
  · exact requested_nothing rfl

theorem opReadLayout_requested : OpRequested kind (opReadLayout body) := fun s => by
  unfold opReadLayout
  split
  · split
    · split <;> exact requested_nothing rfl
    · exact requested_nothing rfl
  · exact requested_nothing rfl

theorem opCommitLayout_requested : OpRequested 0x19#8 (opCommitLayout body) := fun s => by
  unfold opCommitLayout
  split
  · split
    · exact requested_nothing rfl
    · next hm =>
      split
      · exact requested_nothing rfl
      · next he =>
        simp only [Bool.or_eq_true, Bool.not_eq_true', List.isEmpty_eq_false_iff, not_or, not_not] at he
        split
        · exact requested_nothing rfl
        · next hv => exact ⟨_, .commit hm he.1 he.2 hv, rfl⟩
  · exact requested_nothing rfl

/-! ### Requests on items and announcements -/

theorem opAnnounce_requested : OpRequested kind (opAnnounce body) := fun s => by
  unfold opAnnounce
  split
  · exact requested_nothing rfl
  · split
    · exact requested_nothing rfl
    · split
      · exact requested_nothing rfl
      · split_ifs
        exacts [requested_nothing rfl, requested_nothing rfl, ⟨_, .announcements _, rfl⟩]

theorem opWithdraw_requested : OpRequested kind (opWithdraw body) := fun s => by
  unfold opWithdraw
  split
  · split
    · exact ⟨_, .announcements _, rfl⟩
    · exact requested_nothing rfl
  · exact requested_nothing rfl

theorem opQueryItem_requested : OpRequested kind (opQueryItem body) := fun s => by
  unfold opQueryItem
  split
  · split
    · exact requested_nothing rfl
    · split <;> exact requested_nothing rfl
  · exact requested_nothing rfl

theorem opListZone_requested : OpRequested kind (opListZone body) := fun s => by
  unfold opListZone
  split
  · split
    · exact requested_nothing rfl
    · split <;> exact requested_nothing rfl
  · exact requested_nothing rfl

theorem tracked_of_not_diverting {i : Item} (h : i.state ≠ .diverting) : i.state = .tracked := by
  cases hi : i.state <;> simp_all

theorem opPurge_requested : OpRequested kind (opPurge body) := fun s => by
  unfold opPurge
  split
  · split
    · exact requested_nothing rfl
    · next i hi =>
      obtain ⟨-, ht⟩ := findItem_eq_some hi
      split
      · exact requested_nothing rfl
      · next hd => exact ⟨_, .purge i (ht ▸ hi) (tracked_of_not_diverting hd), rfl⟩
  · exact requested_nothing rfl

theorem opReroute_requested : OpRequested kind (opReroute body) := fun s => by
  unfold opReroute
  split
  · split
    · exact requested_nothing rfl
    · next c _ =>
      split
      · exact requested_nothing rfl
      · next i hi =>
        obtain ⟨-, ht⟩ := findItem_eq_some hi
        split
        · exact requested_nothing rfl
        · next hd => exact ⟨_, .reroute i c (ht ▸ hi) (tracked_of_not_diverting hd), rfl⟩
  · exact requested_nothing rfl

/-! ### Requests on zones, eyes and diverters -/

theorem opHaltZone_requested : OpRequested kind (opHaltZone body) := fun s => by
  unfold opHaltZone
  split
  · split
    · exact requested_nothing rfl
    · split
      · exact requested_nothing rfl
      · next z _ =>
        refine requested_nothing (.trans (blocks_of_zones (fun y => ?_) rfl) (modifyReasons_blocks s z _))
        simp [State.deriveDownstream, State.setHost]
  · exact requested_nothing rfl

theorem opResumeZone_requested : OpRequested kind (opResumeZone body) := fun s => by
  unfold opResumeZone
  split
  · split
    · exact requested_nothing rfl
    · split
      · exact requested_nothing rfl
      · next z _ => exact ⟨_, .resume z, rfl⟩
  · exact requested_nothing rfl

theorem opDisableEye_requested : OpRequested kind (opDisableEye body) := fun s => by
  unfold opDisableEye
  split
  · split
    · exact requested_nothing rfl
    · split
      · exact requested_nothing rfl
      · next e d hn =>
        split
        · exact requested_nothing rfl
        · next hr =>
          have confirm : d.role = .confirm := by cases h : d.role <;> simp_all
          exact ⟨_, .disableEye e d (namedEye_defined hn) confirm, rfl⟩
  · exact requested_nothing rfl

theorem opEnableEye_requested : OpRequested kind (opEnableEye body) := fun s => by
  unfold opEnableEye
  split
  · split
    · exact requested_nothing rfl
    · split
      · exact requested_nothing rfl
      · next e _ _ => exact ⟨_, .enableEye e, rfl⟩
  · exact requested_nothing rfl

theorem diverterRequest_requested {allowed : State → DiverterId → Bool}
    {effect : DiverterId → State → State}
    (h : ∀ (s : State) (d : DiverterId), s.activeLayout.diverters[d].isSome = true →
      allowed s d = true → Requested s kind (effect d s)) :
    OpRequested kind (diverterRequest allowed effect body) := fun s => by
  unfold diverterRequest
  split
  · split
    · exact requested_nothing rfl
    · split
      · exact requested_nothing rfl
      · next d hn =>
        split
        · next ha => exact ⟨_, h s d (by simpa using (Option.filter_eq_some_iff.1 hn).2) ha, rfl⟩
        · exact requested_nothing rfl
  · exact requested_nothing rfl

/-- R154 steps 4 to 6: whatever request a KIND names, it does no more to the blocks than its row of Table
10-4 says. -/
theorem runKind_requested (kind : Byte) : OpRequested kind (runKind kind body) := by
  have named {k : Byte} {op : State → State × Answer} (hk : kind.toNat = k.toNat)
      (h : OpRequested k op) : OpRequested kind op := BitVec.eq_of_toNat_eq hk ▸ h
  unfold runKind
  split
  · exact opStatus_requested body
  · exact opIdentify_requested body
  · exact opSetLink_requested body
  · exact opReportAck_requested body
  · next hk => exact named (k := 0x05#8) hk (opRestart_requested body)
  · next hk => exact named (k := 0x06#8) hk (opStart_requested body)
  · next hk => exact named (k := 0x07#8) hk (opStop_requested body)
  · exact opDefineZone_requested body
  · exact opDefineEye_requested body
  · exact opDefineDiverter_requested body
  · exact opDefineDestination_requested body
  · exact opUndefine_requested body
  · exact opSetLine_requested body
  · exact opClearPending_requested body
  · exact opCopyActive_requested body
  · exact opReadLayout_requested body
  · next hk => exact named (k := 0x19#8) hk (opCommitLayout_requested body)
  · exact opAnnounce_requested body
  · exact opWithdraw_requested body
  · exact opQueryItem_requested body
  · exact opListZone_requested body
  · exact opPurge_requested body
  · exact opReroute_requested body
  · exact opHaltZone_requested body
  · exact opResumeZone_requested body
  · exact opDisableEye_requested body
  · exact opEnableEye_requested body
  · exact diverterRequest_requested body fun s d _ ha => .testDiverter d ha
  · exact diverterRequest_requested body fun s d hd _ => .disableDiverter d hd
  · exact diverterRequest_requested body fun s d _ ha => .enableDiverter d (of_decide_eq_true ha)
  · exact diverterRequest_requested body fun s d _ ha => .clearFault d (of_decide_eq_true ha)
  · exact fun _ => requested_nothing rfl

/-! ### Frames -/

/-- R154: a frame handled does to the blocks what its request does, or nothing. -/
theorem handle_requested (seq : Byte) {op : State → State × Answer} (hop : OpRequested kind op)
    (later : List ScanEvent) (s : State) : ∃ u v, u.blocks = s.blocks ∧ Requested u kind v ∧
      (s.handle kind seq op later).blocks = v.blocks := by
  have closed (t : State) : (t.takeLater later).settleZones.blocks = t.blocks := by
    rw [settleZones_blocks, takeLater_blocks]
  unfold State.handle
  split
  · exact ⟨s, s, rfl, .nothing, (closed _).trans (dropFrame_blocks s)⟩
  · split
    · exact ⟨s, s, rfl, .nothing, (fillSlot_blocks _ _).trans ((closed _).trans (supervise_blocks s))⟩
    · obtain ⟨v, hv, he⟩ := hop s.supervise
      exact ⟨s.supervise, v, supervise_blocks s, hv,
        (placeReply_blocks _ _ _ _).trans ((closed _).trans he)⟩

theorem takeEvents_requested (events : List ScanEvent) (s : State) : ∃ k u v, u.blocks = s.blocks ∧
    Requested u k v ∧ (s.takeEvents events).blocks = v.blocks := by
  induction events generalizing s with
  | nil =>
    refine ⟨0x01#8, s, s, rfl, .nothing, ?_⟩
    rw [State.takeEvents, settleZones_blocks]
  | cons ev later ih =>
    cases ev with
    | frame f => exact ⟨f.kind, handle_requested f.seq (runKind_requested f.body f.kind) later s⟩
    | discard =>
      rw [State.takeEvents]
      exact ih s.countDiscard

/-! ### Commands -/

/-- The effect of a happening at a field input or at a timer of the field. -/
def fieldEffect : Instr → Option (State → State)
  | .encoderPulse z => some (State.pulse z)
  | .estopChangeAtZones active => some (State.estopAtZones active)
  | .estopChangeAtDiverters active => some (State.estopAtDiverters active)
  | .blockedEdge e => some (State.blockedEdge e)
  | .unblockedEdge e => some (State.unblockedEdge e)
  | .homeActiveEdge d => some (State.homeActive d)
  | .homeInactiveEdge d => some (State.homeInactive d)
  | .jamTimerExpiry e => some (State.jamEye e)
  | .strokeTimerExpiry d => some fun s => s.enterFault d .strokeTimeout
  | .dwellTimerExpiry d => some (State.enterRetracting d)
  | .returnTimerExpiry d => some (State.returnTimeout d)
  | _ => none

/-- The commands whose happening may execute a request of a KIND: the request itself, and those in which
the receiver takes bytes. -/
inductive Carries : Instr → Byte → Prop
  | request {c : Instr} {f : Frame} (h : requestParts c = some f) : Carries c f.kind
  | receivedByte (b kind : Byte) : Carries (.receivedByte b) kind
  | interByteTimeout (kind : Byte) : Carries .interByteTimeout kind
  | frameDiscarded (buffer : List Byte) (kind : Byte) : Carries (.frameDiscarded buffer) kind

/-- Everything that a command other than the supply's and RESETIN's can do to the blocks. -/
theorem exec_cases {c : Instr} {s t : State} (hc : IsReset c = false) (h : exec c s = .next t) :
    t.blocks = s.blocks ∨
    (∃ effect, fieldEffect c = some effect ∧ s.resetActive = false ∧ s.occurs c = true ∧
      t.blocks = (effect s).blocks) ∨
    ∃ kind u v, Carries c kind ∧ u.blocks = s.blocks ∧ Requested u kind v ∧ t.blocks = v.blocks := by
  have finish (u : State) : u.finish.blocks = u.blocks :=
    (chooseFrame_blocks _).trans (settleZones_blocks u)
  have link {occurs : Bool} {effect : State → State} (he : (effect s).blocks = s.blocks)
      (hh : happening occurs effect s = .next t) : t.blocks = s.blocks := by
    unfold happening at hh
    split at hh <;> cases hh
    exacts [(finish _).trans he, rfl]
  have field {effect : State → State} (hf : fieldEffect c = some effect)
      (hh : happening (s.occurs c) effect s = .next t) : t.blocks = s.blocks ∨
      (∃ effect, fieldEffect c = some effect ∧ s.resetActive = false ∧ s.occurs c = true ∧
        t.blocks = (effect s).blocks) := by
    unfold happening at hh
    split at hh <;> cases hh
    · next ho =>
      simp only [Bool.and_eq_true, Bool.not_eq_true'] at ho
      exact .inr ⟨effect, hf, ho.1, ho.2, finish _⟩
    · exact .inl rfl
  have bytes {p : Prop} [Decidable p] {scanned : List ScanEvent × Receiver}
      (hb : ∀ kind, Carries c kind) (hh : (if p then .next (s.receive scanned) else .next s :
        Host.Outcome State Fault Refusal) = .next t) : t.blocks = s.blocks ∨
      ∃ kind u v, Carries c kind ∧ u.blocks = s.blocks ∧ Requested u kind v ∧ t.blocks = v.blocks := by
    split at hh <;> cases hh
    · obtain ⟨k, u, v, hu, hv, he⟩ := takeEvents_requested scanned.1 (s.setReceiver scanned.2)
      exact .inr ⟨k, u, v, hb k, hu, hv, (chooseFrame_blocks _).trans he⟩
    · exact .inl rfl
  cases hf : requestParts c with
  | some f =>
    rw [exec_request hf] at h
    unfold request at h
    split at h <;> cases h
    · exact .inl rfl
    · obtain ⟨u, v, hu, hv, he⟩ := handle_requested f.seq (runKind_requested f.body f.kind) [] s.rest
      exact .inr (.inr ⟨f.kind, u, v, .request hf, hu, hv, (chooseFrame_blocks _).trans he⟩)
  | none =>
    cases c with
    | powerOn | resetinActive | resetinInactive => cases hc
    | interByteTimeout => exact (bytes .interByteTimeout h).imp_right .inr
    | frameDiscarded buffer => exact (bytes (.frameDiscarded buffer) h).imp_right .inr
    | linkTimerExpiry => exact .inl (link (linkDown_blocks s) h)
    | resendTimerExpiry => exact .inl (link rfl h)
    | frameSent => exact .inl (link rfl h)
    | receivedByte b =>
      exact (bytes (p := ¬ s.resetActive = true) (.receivedByte b)
        (.trans (ite_not _ _ _) h)).imp_right .inr
    | encoderPulse | estopChangeAtZones | estopChangeAtDiverters | blockedEdge | unblockedEdge
    | homeActiveEdge | homeInactiveEdge | jamTimerExpiry | strokeTimerExpiry | dwellTimerExpiry
    | returnTimerExpiry => exact (field rfl h).imp_right .inl
    | _ => cases hf

end Sys2Proof.Machine
end

section
/-! PROOFS. What the operations on items, claims and diverters leave alone: the module state, the layouts, the
eyes, the inputs and the queue of waiting commands. The statements that follow are `StepKeepsLayoutLaws`
(R127, R136, R142, R143) and `ModuleStateChangesOnlyByItsRequests` (R127, R136, R141 to R143). -/

namespace Sys2Proof.Machine

set_option Elab.async false

/-! ### Operations on items, claims and diverters -/

/-- The parts of the state that no item, claim or diverter touches. -/
def State.still (s : State) :
    ModuleState × Layout × Layout × Vector Eye 12 × Inputs × Bool × List Instr :=
  (s.module, s.pendingLayout, s.activeLayout, s.eyes, s.inputs, s.resetActive, s.pending)

theorem still_iff {s t : State} : t.still = s.still ↔ t.module = s.module ∧
    t.pendingLayout = s.pendingLayout ∧ t.activeLayout = s.activeLayout ∧ t.eyes = s.eyes ∧
    t.inputs = s.inputs ∧ t.resetActive = s.resetActive ∧ t.pending = s.pending := by
  simp only [State.still, Prod.mk.injEq]

theorem activeLayout_of_still {s t : State} (h : t.still = s.still) :
    t.activeLayout = s.activeLayout := congrArg (fun p => p.2.2.1) h

theorem eyes_of_still {s t : State} (h : t.still = s.still) : t.eyes = s.eyes :=
  congrArg (fun p => p.2.2.2.1) h

theorem inputs_of_still {s t : State} (h : t.still = s.still) : t.inputs = s.inputs :=
  congrArg (fun p => p.2.2.2.2.1) h

theorem foldl_still {α : Type} {f : State → α → State} (h : ∀ s a, (f s a).still = s.still)
    (l : List α) (s : State) : (l.foldl f s).still = s.still :=
  List.foldlRecOn (motive := fun t : State => t.still = s.still) l _ rfl
    fun t ht a _ => (h t a).trans ht

theorem post_still (s : State) (r : Report) : (s.post r).still = s.still := rfl

theorem count_still (s : State) (f : Counters → Counters) : (s.count f).still = s.still := rfl

theorem reassign_still (s : State) (tag : Nat) (excluded : Option DiverterId) :
    (s.reassign tag excluded).1.still = s.still := by
  rw [reassign_frame]
  rfl

theorem reevaluate_still (s : State) (d : DiverterId) : (s.reevaluate d).still = s.still := by
  rw [reevaluate_frame]
  rfl

theorem lose_still (s : State) (tag : Nat) (z : ZoneId) (e : Option EyeId) (cause : LostCause) :
    (s.lose tag z e cause).still = s.still := rfl

theorem returnItem_still (s : State) (d : DiverterId) (cause : MissCause) :
    (s.returnItem d cause).still = s.still := by
  rcases returnItem_cases d cause s with ⟨-, h⟩ | ⟨tag, -, h⟩ <;> rw [h]
  rw [post_still, reassign_still]
  rfl

theorem retracted_still (s : State) (d : DiverterId) : (s.retracted d).still = s.still := by
  unfold State.retracted
  dsimp only
  split <;> rfl

theorem enterRetracting_still (s : State) (d : DiverterId) :
    (s.enterRetracting d).still = s.still := by
  unfold State.enterRetracting
  dsimp only
  split
  · exact retracted_still _ d
  · rfl

theorem enterSettling_still (s : State) (d : DiverterId) : (s.enterSettling d).still = s.still := by
  unfold State.enterSettling
  split <;> rfl

theorem enterFault_still (s : State) (d : DiverterId) (cause : DiverterCause) :
    (s.enterFault d cause).still = s.still := by
  have returned (t : State) : (t.returnItem d .strokeFault).still = t.still := returnItem_still t d _
  unfold State.enterFault
  dsimp only
  split
  · exact (reevaluate_still _ d).trans (returned _)
  · exact returned _

theorem disableDiverter_still (s : State) (d : DiverterId) :
    (s.disableDiverter d).still = s.still := by
  have returned (t : State) : (t.returnItem d .disabled).still = t.still := returnItem_still t d _
  unfold State.disableDiverter
  split
  · rfl
  · dsimp only
    split
    · exact (reevaluate_still _ d).trans (returned _)
    · exact returned _

theorem clearFault_still (s : State) (d : DiverterId) : (s.clearFault d).still = s.still := by
  unfold State.clearFault
  split
  · rfl
  · exact enterSettling_still s d

theorem completeStroke_still (s : State) (d : DiverterId) : (s.completeStroke d).still = s.still := by
  unfold State.completeStroke
  dsimp only
  split <;> rfl

/-! ### Inductions and crossings -/

theorem closeInduction_still (s : State) (i : Item) : (s.closeInduction i).still = s.still := by
  unfold State.closeInduction
  dsimp only
  rw [count_still, post_still, reassign_still]

theorem pair_still (s : State) (length : Nat) (overlength : Bool) (next : Option EyeId) :
    (s.pair length overlength next).1.still = s.still := by
  unfold State.pair
  split <;> rfl

theorem induct_still (s : State) (length : Nat) (overlength : Bool) :
    (s.induct length overlength).still = s.still := by
  unfold State.induct
  split
  · rfl
  · split
    · rfl
    · next e _ _ =>
      have paired : (s.takeRecord.pair length overlength (s.activeLayout.eyeFollowing e)).1.still =
          s.still := pair_still s.takeRecord length overlength _
      generalize s.takeRecord.pair length overlength (s.activeLayout.eyeFollowing e) = r at paired ⊢
      dsimp only
      split
      · exact paired
      · rw [closeInduction_still]
        exact paired

theorem beginSpan_still (s : State) : s.beginSpan.still = s.still := by
  unfold State.beginSpan
  split <;> rfl

theorem endSpan_still (s : State) : s.endSpan.still = s.still := by
  unfold State.endSpan
  dsimp only
  split_ifs
  · rfl
  · rw [induct_still]
    rfl
  · rfl

theorem countSpan_still (s : State) : s.countSpan.still = s.still := by
  unfold State.countSpan
  split <;> rfl

theorem missEye_still (s : State) (tag : Nat) (e : EyeId) : (s.missEye tag e).still = s.still := by
  unfold State.missEye
  split
  · rfl
  · dsimp only
    split_ifs <;> rfl

theorem missDivert_still (s : State) (d : DiverterId) (i : Item) (cause : MissCause) :
    (s.missDivert d i cause).still = s.still := by
  unfold State.missDivert
  dsimp only
  split
  · rw [post_still, reassign_still]
    rfl
  · rw [post_still, reassign_still]
    rfl

theorem fire_still (s : State) (d : DiverterId) (i : Item) : (s.fire d i).still = s.still := by
  unfold State.fire
  dsimp only
  split <;> rfl

theorem reachTrigger_still (s : State) (tag : Nat) (d : DiverterId) :
    (s.reachTrigger tag d).still = s.still := by
  unfold State.reachTrigger State.decideFire
  split
  · rfl
  · split
    · split
      · exact missDivert_still s d _ _
      · exact fire_still s d _
    · split <;> rfl

theorem takeWindowEnds_still (tag : Nat) (z : ZoneId) (n : Nat) (s : State) :
    (s.takeWindowEnds tag z n).still = s.still := by
  induction n generalizing s with
  | zero => rfl
  | succ n ih =>
    unfold State.takeWindowEnds
    split
    · rfl
    · split
      · exact (ih _).trans (missEye_still s tag _)
      · rfl

theorem transferItem_still (s : State) (i : Item) (y : ZoneId) :
    (s.transferItem i y).1.still = s.still := by
  unfold State.transferItem
  split <;> rfl

theorem leaveZone_still (s : State) (tag : Nat) (z : ZoneId) :
    (s.leaveZone tag z).1.still = s.still := by
  have open_ : (if (s.findItem tag).any (s.transferMeetsReturn z) then s
      else s.takeWindowEnds tag z 12).still = s.still := by
    split
    exacts [rfl, takeWindowEnds_still tag z 12 s]
  unfold State.leaveZone
  dsimp only
  generalize (if (s.findItem tag).any (s.transferMeetsReturn z) then s
    else s.takeWindowEnds tag z 12) = t at open_ ⊢
  split
  · exact open_
  · split
    · exact (transferItem_still t _ _).trans open_
    · exact open_

theorem cross_still (s : State) (c : Crossing) : (s.cross c).1.still = s.still := by
  unfold State.cross
  split
  · split
    · exact leaveZone_still s _ _
    · rfl
  · exact missEye_still s _ _
  · exact reachTrigger_still s _ _
  · exact induct_still _ _ _

/-- R6: taking one of the crossings that are ready counts a free choice, if there is one. -/
theorem chooseCrossing_eq (s : State) (owed : List Crossing) :
    (s.chooseCrossing owed).2 = { s with freeIndex := (s.chooseCrossing owed).2.freeIndex } := by
  unfold State.chooseCrossing
  split <;> rfl

theorem takeCrossings_still (n : Nat) (owed : List Crossing) (s : State) :
    (s.takeCrossings n owed).still = s.still := by
  induction n generalizing owed s with
  | zero => rfl
  | succ n ih =>
    cases owed with
    | nil => rfl
    | cons c cs =>
      have chosen (ready : List Crossing) : (s.chooseCrossing ready).2.still = s.still := by
        rw [chooseCrossing_eq]
        rfl
      unfold State.takeCrossings
      dsimp only
      split
      · next t ht => exact (ih _ t).trans (ht ▸ chosen _ :)
      · next b t ht =>
        have crossed : (t.cross b).1.still = s.still := (cross_still t b).trans (ht ▸ chosen _ :)
        split <;> exact (ih _ _).trans crossed

theorem takeAll_still (s : State) (owed : List Crossing) : (s.takeAll owed).still = s.still :=
  takeCrossings_still _ owed s

theorem matchEdge_still (s : State) (e : EyeId) (d : EyeDef) : (s.matchEdge e d).still = s.still := by
  unfold State.matchEdge
  split
  · rfl
  · exact takeAll_still (s.matchItem e _ _) _

theorem pulse_still (s : State) (z : ZoneId) : (s.pulse z).still = s.still := by
  unfold State.pulse
  dsimp only
  split
  · refine (takeAll_still _ _).trans ?_
    split
    · exact countSpan_still (s.raiseCount z)
    · rfl
  · rfl

theorem blockedAtItems_still (s : State) (e : EyeId) (d : EyeDef) :
    (s.blockedAtItems e d).still = s.still := by
  unfold State.blockedAtItems
  split
  · exact beginSpan_still s
  · exact matchEdge_still s e d

theorem unblockedAtItems_still (s : State) (d : EyeDef) : (s.unblockedAtItems d).still = s.still := by
  unfold State.unblockedAtItems
  split
  · exact endSpan_still s
  · rfl

/-! ### The module state and the layouts -/

/-- R127, R136: the module state and the two layout copies, which requests govern, and the queue of waiting
commands. -/
def State.governed (s : State) : ModuleState × Layout × Layout × List Instr :=
  (s.module, s.pendingLayout, s.activeLayout, s.pending)

theorem governed_of_still {s t : State} (h : t.still = s.still) : t.governed = s.governed :=
  congrArg (fun p => (p.1, p.2.1, p.2.2.1, p.2.2.2.2.2.2)) h

theorem governed_of_blocks {s t : State} (h : t.blocks = s.blocks) : t.governed = s.governed :=
  (congrArg State.governed h : t.blocks.governed = s.blocks.governed)

theorem readHome_governed (s : State) (d : DiverterId) : (s.readHome d).governed = s.governed := by
  rw [State.readHome_frame]
  rfl

theorem settleDiverters_governed (s : State) (which : DiverterId → Bool) :
    (s.settleDiverters which).governed = s.governed :=
  List.foldlRecOn (motive := fun t : State => t.governed = s.governed) _ _ rfl fun t ht d _ =>
    (governed_of_still (enterSettling_still _ d)).trans ((readHome_governed t d).trans ht)

theorem withdrawStrokes_governed (s : State) : s.withdrawStrokes.governed = s.governed := by
  have withdrawn (t : State) (d : DiverterId) : (t.withdrawStroke d).governed = t.governed := by
    unfold State.withdrawStroke
    split
    · exact (governed_of_still (enterRetracting_still _ d)).trans (readHome_governed t d)
    · rfl
  refine (governed_of_still (foldl_still (fun t d => returnItem_still t d .estop) _ _)).trans ?_
  exact List.foldlRecOn (motive := fun t : State => t.governed = s.governed) _ _ rfl
    fun t ht d _ => (withdrawn t d).trans ht

/-- R127, R136: no happening at a field input or a timer of the field changes the module state or a
layout copy. -/
theorem fieldEffect_governed {c : Instr} {effect : State → State} (h : fieldEffect c = some effect)
    (s : State) : (effect s).governed = s.governed := by
  cases c with
  | encoderPulse z => cases h; exact (governed_of_still (pulse_still s z)).trans rfl
  | estopChangeAtZones active => cases h; rfl
  | estopChangeAtDiverters active =>
    cases h
    cases active
    exacts [rfl, withdrawStrokes_governed _]
  | blockedEdge e =>
    cases h
    unfold State.blockedEdge
    dsimp only
    split
    · exact (governed_of_still (blockedAtItems_still _ e _)).trans rfl
    · exact (governed_of_still (blockedAtItems_still _ e _)).trans rfl
    · split
      · exact (governed_of_still (beginSpan_still _)).trans rfl
      · rfl
    · rfl
  | unblockedEdge e =>
    cases h
    unfold State.unblockedEdge
    dsimp only
    split
    · exact (governed_of_still (unblockedAtItems_still _ _)).trans rfl
    · exact (governed_of_still (unblockedAtItems_still _ _)).trans rfl
    · exact (governed_of_still (unblockedAtItems_still _ _)).trans rfl
    · rfl
  | homeActiveEdge d =>
    cases h
    unfold State.homeActive
    dsimp only
    split
    · rfl
    · exact (governed_of_still (retracted_still _ d)).trans rfl
    · exact (governed_of_still (enterFault_still _ d _)).trans rfl
    all_goals rfl
  | homeInactiveEdge d =>
    cases h
    unfold State.homeInactive
    dsimp only
    split
    · exact (governed_of_still (enterFault_still _ d _)).trans rfl
    · exact (governed_of_still (completeStroke_still _ d)).trans rfl
    all_goals rfl
  | jamTimerExpiry e =>
    cases h
    unfold State.jamEye
    split <;> rfl
  | strokeTimerExpiry d => cases h; exact (governed_of_still (enterFault_still s d _)).trans rfl
  | dwellTimerExpiry d => cases h; exact (governed_of_still (enterRetracting_still s d)).trans rfl
  | returnTimerExpiry d => cases h; exact (governed_of_still (enterFault_still s d _)).trans rfl
  | _ => cases h

theorem resume_governed (s : State) (z : ZoneId) : (s.resume z).governed = s.governed :=
  List.foldlRecOn (motive := fun t : State => t.governed = s.governed) (s.eyesIn z .jamHeld) _ rfl
    fun _ ht _ _ => ht

theorem disableEye_governed (s : State) (e : EyeId) (z : ZoneId) :
    (s.disableEye e z).governed = s.governed := by
  unfold State.disableEye
  split_ifs <;> rfl

theorem enableEye_governed (s : State) (e : EyeId) : (s.enableEye e).governed = s.governed := by
  unfold State.enableEye
  split <;> rfl

theorem commit_governed (s : State) : s.commit.governed =
    (.standby, s.pendingLayout, s.pendingLayout, s.pending) :=
  settleDiverters_governed (s.takeLayout.post (.moduleState .standby .commit)) _

theorem restart_governed (s : State) : (s.giveUp.settleDiverters s.restartsDiverter).governed =
    (if s.configured then .standby else .unconfigured, s.pendingLayout, s.activeLayout, s.pending) :=
  settleDiverters_governed s.giveUp _

/-- R127, R136, R138: what a request can do to the module state and the two layout copies. -/
theorem Requested.governed_cases {s t : State} {kind : Byte} (h : Requested s kind t) :
    t.governed = s.governed ∨
    (∃ l, t.governed = (s.module, l, s.activeLayout, s.pending) ∧
      (LayoutInRange s.pendingLayout → LayoutInRange s.activeLayout → LayoutInRange l)) ∨
    (kind = 0x06#8 ∧ s.module = .standby ∧
      t.governed = (.tracking, s.pendingLayout, s.activeLayout, s.pending)) ∨
    (kind = 0x07#8 ∧ s.module = .tracking ∧
      t.governed = (.standby, s.pendingLayout, s.activeLayout, s.pending)) ∨
    (kind = 0x05#8 ∧ s.module ≠ .unconfigured ∧
      t.governed = (.standby, s.pendingLayout, s.activeLayout, s.pending)) ∨
    (kind = 0x19#8 ∧ s.module ≠ .tracking ∧ s.lineItems = [] ∧ s.announcements = [] ∧
      s.pendingLayout.validate = none ∧
      t.governed = (.standby, s.pendingLayout, s.pendingLayout, s.pending)) := by
  cases h with
  | nothing => exact .inl rfl
  | announcements a => exact .inl rfl
  | edit l hl => exact .inr (.inl ⟨l, rfl, hl⟩)
  | start hm => exact .inr (.inr (.inl ⟨rfl, hm, rfl⟩))
  | stop hm => exact .inr (.inr (.inr (.inl ⟨rfl, hm, rfl⟩)))
  | restart =>
    by_cases hm : s.module = .unconfigured
    · left
      rw [restart_governed]
      simp [State.configured, State.governed, hm]
    · refine .inr (.inr (.inr (.inr (.inl ⟨rfl, hm, ?_⟩))))
      rw [restart_governed]
      simp [State.configured, hm]
  | commit hm hi ha hv =>
    exact .inr (.inr (.inr (.inr (.inr ⟨rfl, hm, hi, ha, hv, commit_governed s⟩))))
  | purge => exact .inl rfl
  | reroute i c => exact .inl (governed_of_still (reassign_still _ i.tag none))
  | resume z => exact .inl (resume_governed s z)
  | disableEye e d => exact .inl (disableEye_governed s e d.zone)
  | enableEye e => exact .inl (enableEye_governed s e)
  | testDiverter => exact .inl rfl
  | disableDiverter d => exact .inl (governed_of_still (disableDiverter_still s d))
  | enableDiverter d => exact .inl (governed_of_still (enterSettling_still s d))
  | clearFault d => exact .inl (governed_of_still (clearFault_still s d))

theorem Requested.pending {s t : State} {kind : Byte} (h : Requested s kind t) :
    t.pending = s.pending := by
  have queue {m : ModuleState} {p a : Layout} (hg : t.governed = (m, p, a, s.pending)) :
      t.pending = s.pending := congrArg (fun g => g.2.2.2) hg
  rcases h.governed_cases with hg | ⟨l, hg, -⟩ | ⟨-, -, hg⟩ | ⟨-, -, hg⟩ | ⟨-, -, hg⟩ |
    ⟨-, -, -, -, -, hg⟩ <;> exact queue hg

/-! ### The layout laws -/

/-- The layout laws are read from the module state and the two copies. -/
theorem layoutLaws_of_governed {s t : State} (hs : LayoutLaws s) (h : t.governed = s.governed) :
    LayoutLaws t := by
  simp only [State.governed, Prod.mk.injEq] at h
  obtain ⟨hm, hp, ha, -⟩ := h
  unfold LayoutLaws
  rw [hm, hp, ha]
  exact hs

theorem begin_layoutLaws {s : State} (hm : s.module = .unconfigured) (hp : s.pendingLayout = .empty)
    (ha : s.activeLayout = .empty) : LayoutLaws s := by
  unfold LayoutLaws
  rw [hp, ha]
  exact ⟨empty_inRange, empty_inRange, fun _ => rfl, fun h => absurd hm h⟩

theorem Requested.layoutLaws {s t : State} {kind : Byte} (h : Requested s kind t)
    (hs : LayoutLaws s) : LayoutLaws t := by
  obtain ⟨pending, active, empty, valid⟩ := hs
  have moved {m : ModuleState} (hm : m ≠ .unconfigured) {p a : Layout} (hp : LayoutInRange p)
      (ha : LayoutInRange a) (hv : a.validate = none) (hg : t.governed = (m, p, a, s.pending)) :
      LayoutLaws t := by
    simp only [State.governed, Prod.mk.injEq] at hg
    obtain ⟨rfl, rfl, rfl, -⟩ := hg
    exact ⟨hp, ha, fun h => absurd h hm, fun _ => hv⟩
  rcases h.governed_cases with hg | ⟨l, hg, hl⟩ | ⟨-, hm, hg⟩ | ⟨-, hm, hg⟩ | ⟨-, hm, hg⟩ |
    ⟨-, -, -, -, hv, hg⟩
  · exact layoutLaws_of_governed ⟨pending, active, empty, valid⟩ hg
  · simp only [State.governed, Prod.mk.injEq] at hg
    obtain ⟨hm, rfl, ha, -⟩ := hg
    unfold LayoutLaws
    rw [hm, ha]
    exact ⟨hl pending active, active, empty, valid⟩
  · exact moved (m := .tracking) (by decide) pending active (valid (by rw [hm]; decide)) hg
  · exact moved (m := .standby) (by decide) pending active (valid (by rw [hm]; decide)) hg
  · exact moved (m := .standby) (by decide) pending active (valid hm) hg
  · exact moved (m := .standby) (by decide) pending pending hv hg

theorem exec_layoutLaws {c : Instr} {s t : State} (hs : LayoutLaws s) (h : exec c s = .next t) :
    LayoutLaws t := by
  cases hc : IsReset c with
  | true =>
    cases c with
    | powerOn i => cases h; exact begin_layoutLaws rfl rfl rfl
    | resetinActive => cases h; exact begin_layoutLaws rfl rfl rfl
    | resetinInactive i =>
      rcases resetinInactive_cases h with ⟨-, rfl⟩ | ⟨-, rfl⟩
      exacts [begin_layoutLaws rfl rfl rfl, hs]
    | _ => cases hc
  | false =>
    rcases exec_cases hc h with ht | ⟨effect, hf, -, -, ht⟩ | ⟨kind, u, v, -, hu, hv, ht⟩
    · exact layoutLaws_of_governed hs (governed_of_blocks ht)
    · exact layoutLaws_of_governed hs ((governed_of_blocks ht).trans (fieldEffect_governed hf s))
    · exact layoutLaws_of_governed
        (hv.layoutLaws (layoutLaws_of_governed hs (governed_of_blocks hu))) (governed_of_blocks ht)

/-- Settles O6: only requests change the module state or a layout copy, an edit puts entries in range, and
the copy that a commit takes up has passed validation. -/
theorem stepKeepsLayoutLaws : Obligations.StepKeepsLayoutLaws := by
  intro s t hs h
  rcases step_cases h with ⟨-, -, rfl⟩ | ⟨c, rest, n, he⟩
  · refine layoutLaws_of_governed hs ?_
    unfold State.tick
    split <;> rfl
  · exact exec_layoutLaws (s := { s with pending := rest, freeIndex := n }) hs he

/-! ### The requests that change the module state and the active copy -/

/-- The commands whose happening may be a START, a STOP, a RESTART or a COMMIT_LAYOUT. -/
theorem Carries.command {c : Instr} {kind : Byte} (h : Carries c kind)
    (hk : kind = 0x06#8 ∨ kind = 0x07#8 ∨ kind = 0x05#8 ∨ kind = 0x19#8) :
    (∃ seq body, c = .start seq body ∨ c = .stop seq body ∨ c = .restart seq body ∨
      c = .commitLayout seq body) ∨
    (∃ kind seq body, c = .badKindFrame kind seq body ∧ isRequestKind kind = true) ∨
    (∃ b, c = .receivedByte b) ∨ c = .interByteTimeout ∨ ∃ buffer, c = .frameDiscarded buffer := by
  have requestKind : isRequestKind kind = true := by
    rcases hk with rfl | rfl | rfl | rfl <;> decide
  cases h with
  | receivedByte b => exact .inr (.inr (.inl ⟨b, rfl⟩))
  | interByteTimeout => exact .inr (.inr (.inr (.inl rfl)))
  | frameDiscarded buffer => exact .inr (.inr (.inr (.inr ⟨buffer, rfl⟩)))
  | request hf =>
    cases c with
    | badKindFrame k seq body =>
      cases hf
      exact .inr (.inl ⟨k, seq, body, rfl, requestKind⟩)
    | start seq body => exact .inl ⟨seq, body, .inl rfl⟩
    | stop seq body => exact .inl ⟨seq, body, .inr (.inl rfl)⟩
    | restart seq body => exact .inl ⟨seq, body, .inr (.inr (.inl rfl))⟩
    | commitLayout seq body => exact .inl ⟨seq, body, .inr (.inr (.inr rfl))⟩
    | _ =>
      cases hf
      all_goals simp at hk

theorem isReset_eq_false {c : Instr} (hp : ∀ i, c ≠ .powerOn i) (ha : c ≠ .resetinActive)
    (hr : ∀ i, c ≠ .resetinInactive i) : IsReset c = false := by
  cases c with
  | powerOn i => exact absurd rfl (hp i)
  | resetinActive => exact absurd rfl ha
  | resetinInactive i => exact absurd rfl (hr i)
  | _ => rfl

theorem toStandby_cases {m : ModuleState} (h : ModuleState.standby ≠ m) :
    m = .standby ∧ ModuleState.standby = .tracking ∨ m = .tracking ∧ ModuleState.standby = .standby ∨
      m = .unconfigured ∧ ModuleState.standby = .standby := by
  cases m with
  | unconfigured => exact .inr (.inr ⟨rfl, rfl⟩)
  | standby => exact absurd rfl h
  | tracking => exact .inr (.inl ⟨rfl, rfl⟩)

/-- Settles O14: of all that a command can do to the blocks, only those four requests reach the module state
or the active copy, and each finds the state that its rule asks for. -/
theorem moduleStateChangesOnlyByItsRequests : Obligations.ModuleStateChangesOnlyByItsRequests := by
  intro s t c h notOn notReset notRelease
  have hc : IsReset c = false := isReset_eq_false notOn notReset notRelease
  have unchanged (hg : t.governed = s.governed) : t.module = s.module ∧ t.activeLayout = s.activeLayout := by
    simp only [State.governed, Prod.mk.injEq] at hg
    exact ⟨hg.1, hg.2.2.1⟩
  have nothing (hg : t.module = s.module ∧ t.activeLayout = s.activeLayout) {p q r : Prop} :
      (t.module ≠ s.module → p) ∧ (t.activeLayout ≠ s.activeLayout → q) ∧
      (t.module ≠ s.module ∨ t.activeLayout ≠ s.activeLayout → r) :=
    ⟨(absurd hg.1 ·), (absurd hg.2 ·), Or.rec (absurd hg.1 ·) (absurd hg.2 ·)⟩
  rcases exec_cases hc h with ht | ⟨effect, hf, -, -, ht⟩ | ⟨kind, u, v, hk, hu, hv, ht⟩
  · exact nothing (unchanged (governed_of_blocks ht))
  · exact nothing (unchanged ((governed_of_blocks ht).trans (fieldEffect_governed hf s)))
  · have same := governed_of_blocks hu
    simp only [State.governed, Prod.mk.injEq] at same
    obtain ⟨hum, hup, hua, -⟩ := same
    have moved {m : ModuleState} {p a : Layout} {q : List Instr} (hg : v.governed = (m, p, a, q)) :
        t.module = m ∧ t.activeLayout = a := by
      have := (governed_of_blocks ht).trans hg
      simp only [State.governed, Prod.mk.injEq] at this
      exact ⟨this.1, this.2.2.1⟩
    rcases hv.governed_cases with hg | ⟨l, hg, -⟩ | ⟨rfl, hm, hg⟩ | ⟨rfl, hm, hg⟩ | ⟨rfl, hm, hg⟩ |
      ⟨rfl, hm, hi, ha, hval, hg⟩ <;> obtain ⟨htm, hta⟩ := moved hg
    · exact nothing ⟨htm.trans hum, hta.trans hua⟩
    · exact nothing ⟨htm.trans hum, hta.trans hua⟩
    · exact ⟨fun _ => .inl ⟨hum ▸ hm, htm⟩, (absurd (hta.trans hua) ·), fun _ => hk.command (by simp)⟩
    · exact ⟨fun _ => .inr (.inl ⟨hum ▸ hm, htm⟩), (absurd (hta.trans hua) ·),
        fun _ => hk.command (by simp)⟩
    · refine ⟨fun hne => ?_, (absurd (hta.trans hua) ·), fun _ => hk.command (by simp)⟩
      rw [htm, ← hum] at hne ⊢
      exact toStandby_cases hne
    · refine ⟨fun hne => ?_, fun _ => ⟨hum ▸ hm, htm, hta.trans hup, hup ▸ hval, ?_, ?_⟩,
        fun _ => hk.command (by simp)⟩
      · rw [htm, ← hum] at hne ⊢
        exact toStandby_cases hne
      · rw [← hi]
        exact lineItems_congr fun z => (blocks_zone hu z).2.symm
      · rw [← ha]
        exact (congrArg State.announcements hu).symm

end Sys2Proof.Machine
end

section
/-! PROOFS. The requests that replace or undefine one entry of the pending copy: `DefineZoneReplacesOnePendingZone`
(R3), `DefineEyeReplacesOnePendingEye` (R60), `DefineDiverterReplacesOnePendingDiverter` (R97) and
`DefineDestinationAndUndefineEditOneEntry` (R81, R138). -/

namespace Sys2Proof.Machine

set_option Elab.async false

/-! ### DEFINE_ZONE (R3) -/

theorem le16_le (lo hi : Byte) : le16 lo hi ≤ 65535 := by
  unfold le16
  have := lo.isLt
  have := hi.isLt
  omega

section

variable {s : State} {z l0 l1 o : Byte}

theorem opDefineZone_accepted {zone : ZoneId} (hz : z.toNat = zone.val) (hl : 64 ≤ le16 l0 l1)
    (ho : o.toNat < le16 l0 l1) :
    opDefineZone [z, l0, l1, o] s =
      editPending (fun l => { l with zones := l.zones.set zone (some ⟨le16 l0 l1, o.toNat⟩) }) s := by
  have inRange : ZoneDef.inRange ⟨le16 l0 l1, o.toNat⟩ = true :=
    decide_eq_true ⟨hl, le16_le l0 l1, Nat.le_of_lt_succ o.isLt, ho⟩
  simp only [opDefineZone, numberBelow_of_val hz, inRange, if_true]

theorem opDefineZone_refused (h : 4 ≤ z.toNat ∨ le16 l0 l1 < 64 ∨ le16 l0 l1 ≤ o.toNat) :
    opDefineZone [z, l0, l1, o] s = refuse .badField s := by
  unfold opDefineZone
  dsimp only
  split
  · next zone hz =>
    refine if_neg fun hd => ?_
    obtain ⟨hl, -, -, ho⟩ := of_decide_eq_true hd
    dsimp only at hl ho
    rcases h with h | h | h
    · rw [numberBelow_of_le h] at hz
      cases hz
    · omega
    · omega
  · rfl

end

/-- Settles O30: the ranges named are the model's own check of a zone definition, for a byte is at most 255
and two bytes at most 65,535. -/
theorem defineZoneReplacesOnePendingZone : Obligations.DefineZoneReplacesOnePendingZone := by
  intro s seq z l0 l1 o hf length
  exact ⟨fun zone hz hl ho => request_writesPending 0x10#8 hf (opDefineZone_accepted hz hl ho),
    fun h => request_refused 0x10#8 hf (opDefineZone_refused h)⟩

/-! ### DEFINE_EYE (R60) -/

/-- R181: a role byte is 00h or 01h. -/
theorem eyeRoleOf_of_le {b : Byte} (h : b.toNat ≤ 1) :
    eyeRoleOf b = some (if b = 0x00#8 then .induct else .confirm) := by
  obtain rfl | rfl : b = 0x00#8 ∨ b = 0x01#8 := by bv_omega
  all_goals rfl

theorem eyeRoleOf_of_lt {b : Byte} (h : 2 ≤ b.toNat) : eyeRoleOf b = none := by
  have h0 : b ≠ 0 := by bv_omega
  have h1 : b ≠ 1 := by bv_omega
  rw [eyeRoleOf, if_neg h0, if_neg h1]

/-- R181: a sense byte is 00h or 01h. -/
theorem eyeSenseOf_of_le {b : Byte} (h : b.toNat ≤ 1) :
    eyeSenseOf b = some (if b = 0x00#8 then .darkOn else .lightOn) := by
  obtain rfl | rfl : b = 0x00#8 ∨ b = 0x01#8 := by bv_omega
  all_goals rfl

theorem eyeSenseOf_of_lt {b : Byte} (h : 2 ≤ b.toNat) : eyeSenseOf b = none := by
  have h0 : b ≠ 0 := by bv_omega
  have h1 : b ≠ 1 := by bv_omega
  rw [eyeSenseOf, if_neg h0, if_neg h1]

section

variable {s : State} {e z p0 p1 tolerance role sense j0 j1 : Byte}

theorem eyeDefOf_of_fields {zone : ZoneId} (hz : z.toNat = zone.val) (hp : le16 p0 p1 ≤ 65534)
    (ht : 1 ≤ tolerance.toNat) (hr : role.toNat ≤ 1) (hs : sense.toNat ≤ 1)
    (hj : le16 j0 j1 = 0 ∨ 100 ≤ le16 j0 j1 ∧ le16 j0 j1 ≤ 30000) :
    eyeDefOf z p0 p1 tolerance role sense j0 j1 = some ⟨zone, le16 p0 p1, tolerance.toNat,
      if role = 0x00#8 then .induct else .confirm, if sense = 0x00#8 then .darkOn else .lightOn,
      le16 j0 j1⟩ := by
  unfold eyeDefOf
  rw [numberBelow_of_val hz, eyeRoleOf_of_le hr, eyeSenseOf_of_le hs]
  exact if_pos (decide_eq_true ⟨hp, ht, Nat.le_of_lt_succ tolerance.isLt, hj⟩)

theorem eyeDefOf_none (h : 4 ≤ z.toNat ∨ le16 p0 p1 = 65535 ∨ tolerance = 0x00#8 ∨
      2 ≤ role.toNat ∨ 2 ≤ sense.toNat ∨ (1 ≤ le16 j0 j1 ∧ le16 j0 j1 ≤ 99) ∨ 30000 < le16 j0 j1) :
    eyeDefOf z p0 p1 tolerance role sense j0 j1 = none := by
  unfold eyeDefOf
  split
  · next zone r n hz hr hs =>
    refine if_neg fun hd => ?_
    obtain ⟨hp, ht, -, hj⟩ := of_decide_eq_true hd
    dsimp only at hp ht hj
    rcases h with h | h | rfl | h | h | h | h
    · rw [numberBelow_of_le h] at hz
      cases hz
    · omega
    · exact absurd ht (by decide)
    · cases hr.symm.trans (eyeRoleOf_of_lt h)
    · cases hs.symm.trans (eyeSenseOf_of_lt h)
    · omega
    · omega
  · rfl

theorem opDefineEye_accepted {eye : EyeId} {d : EyeDef} (he : e.toNat = eye.val)
    (hd : eyeDefOf z p0 p1 tolerance role sense j0 j1 = some d) :
    opDefineEye [e, z, p0, p1, tolerance, role, sense, j0, j1] s =
      editPending (fun l => { l with eyes := l.eyes.set eye (some d) }) s := by
  simp only [opDefineEye, numberBelow_of_val he, hd]

theorem opDefineEye_refused
    (h : 12 ≤ e.toNat ∨ eyeDefOf z p0 p1 tolerance role sense j0 j1 = none) :
    opDefineEye [e, z, p0, p1, tolerance, role, sense, j0, j1] s = refuse .badField s := by
  unfold opDefineEye
  dsimp only
  split
  · next eye d he hd =>
    rcases h with h | h
    · rw [numberBelow_of_le h] at he
      cases he
    · cases hd.symm.trans h
  · rfl

end

/-- Settles O31: the ranges named are the model's own check of an eye definition and of its number. -/
theorem defineEyeReplacesOnePendingEye : Obligations.DefineEyeReplacesOnePendingEye := by
  intro s seq e z p0 p1 tolerance role sense j0 j1 hf position jamTime command
  refine ⟨fun eye zone he hz hp ht hr hs hj => request_writesPending 0x11#8 hf
      (opDefineEye_accepted he (eyeDefOf_of_fields hz hp ht hr hs hj)),
    fun h => request_refused 0x11#8 hf (opDefineEye_refused ?_)⟩
  rcases h with h | h
  · exact .inl h
  · exact .inr (eyeDefOf_none h)

/-! ### DEFINE_DIVERTER (R97) -/

theorem diverterDef_inRange_iff (d : DiverterDef) : d.inRange = true ↔
    (d.firePosition ≤ 65534 ∧ d.lead ≤ 4095 ∧ d.minimumGap ≤ 4095) ∧
      10 ≤ d.strokeTimeout ∧ d.strokeTimeout ≤ 2000 ∧ 10 ≤ d.dwell ∧ d.dwell ≤ 5000 ∧
      10 ≤ d.returnTimeout ∧ d.returnTimeout ≤ 2000 := by
  simp [DiverterDef.inRange]

/-- Settles O32: the ranges named are the model's own check of a diverter definition and of its number. -/
theorem defineDiverterReplacesOnePendingDiverter :
    Obligations.DefineDiverterReplacesOnePendingDiverter := by
  intro s seq d z f0 f1 l0 l1 g0 g1 s0 s1 w0 w1 r0 r1 hf fire lead gap stroke dwell back command
  constructor
  · intro diverter zone hd hz h1 h2 h3 h4 h5 h6 h7 h8 h9
    refine request_writesPending 0x12#8 hf ?_
    have inRange : DiverterDef.inRange ⟨zone, fire, lead, gap, stroke, dwell, back⟩ = true :=
      (diverterDef_inRange_iff _).2 ⟨⟨h1, h2, h3⟩, h4, h5, h6, h7, h8, h9⟩
    unfold opDefineDiverter
    simp only [numberBelow_of_val hd, numberBelow_of_val hz]
    exact if_pos inRange
  · intro h
    refine request_refused 0x12#8 (r := .badField) hf ?_
    unfold opDefineDiverter
    dsimp only
    split
    · next diverter zone hd hz =>
      refine if_neg fun hr => ?_
      obtain ⟨⟨h1, h2, h3⟩, h4, h5, h6, h7, h8, h9⟩ := (diverterDef_inRange_iff _).1 hr
      change fire ≤ 65534 at h1
      change lead ≤ 4095 at h2
      change gap ≤ 4095 at h3
      change 10 ≤ stroke at h4
      change stroke ≤ 2000 at h5
      change 10 ≤ dwell at h6
      change dwell ≤ 5000 at h7
      change 10 ≤ back at h8
      change back ≤ 2000 at h9
      rcases h with h | h | h
      · rw [numberBelow_of_le h] at hd
        cases hd
      · rw [numberBelow_of_le h] at hz
        cases hz
      · omega
    · rfl

/-! ### DEFINE_DESTINATION and UNDEFINE (R81, R138) -/

/-- R81: a field of a destination, as the statement reads its byte. -/
theorem optionalField_of_allowed {b : Byte} (h : b.toNat < 16 ∨ b = 0xFF#8) :
    optionalField 16 b = some (if h : b.toNat < 16 then some ⟨b.toNat, h⟩ else none) := by
  rcases h with h | rfl
  · rw [dif_pos h]
    exact optionalField_of_val (by decide) rfl
  · rfl

theorem optionalField_of_not_allowed {b : Byte} (h : ¬ (b.toNat < 16 ∨ b = 0xFF#8)) :
    optionalField 16 b = none := by
  obtain ⟨below, absent⟩ := not_or.1 h
  exact optionalField_of_le absent (Nat.not_lt.1 below)

theorem opDefineDestination_refused {c p a : Byte} {s : State} (h : 64 ≤ c.toNat ∨
      optionalField 16 p = none ∨ optionalField 16 a = none) :
    opDefineDestination [c, p, a] s = refuse .badField s := by
  unfold opDefineDestination
  dsimp only
  split
  · next code primary alternate hc hp ha =>
    rcases h with h | h | h
    · rw [numberBelow_of_le h] at hc
      cases hc
    · cases hp.symm.trans h
    · cases ha.symm.trans h
  · rfl

theorem undefineEdit_none {kind number : Byte} (h : kind = 0x00#8 ∧ 4 ≤ number.toNat ∨
      kind = 0x01#8 ∧ 12 ≤ number.toNat ∨ kind = 0x02#8 ∧ 16 ≤ number.toNat ∨ 3 ≤ kind.toNat) :
    undefineEdit kind number = none := by
  rcases h with ⟨rfl, h⟩ | ⟨rfl, h⟩ | ⟨rfl, h⟩ | h
  · exact congrArg (Option.map _) (numberBelow_of_le h)
  · exact congrArg (Option.map _) (numberBelow_of_le h)
  · exact congrArg (Option.map _) (numberBelow_of_le h)
  · by_cases h3 : kind = 0x03#8
    · subst h3
      rfl
    · by_cases h4 : kind = 0x04#8
      · subst h4
        rfl
      · unfold undefineEdit
        rw [entryKindOf_of_le (by bv_omega)]

/-- Settles O33: FFh is the one byte that stands for an absent field, and UNDEFINE's kinds and numbers are
those of zones, eyes and diverters. -/
theorem defineDestinationAndUndefineEditOneEntry :
    Obligations.DefineDestinationAndUndefineEditOneEntry := by
  intro s seq c p a kind number hf field allowed l
  have undefines {f : Layout → Layout} (h : undefineEdit kind number = some f) :
      Takes (.undefine seq [kind, number]) s { s with pendingLayout := f l } []
        ⟨0x94#8, seq, [0x00#8]⟩ :=
    request_writesPending 0x14#8 hf (by simp only [opUndefine, h]; rfl)
  refine ⟨fun code hc hp ha => ?_, fun h => ?_, fun z hk hn => ?_, fun e hk hn => ?_,
    fun d hk hn => ?_, fun h => ?_⟩
  · refine request_writesPending 0x13#8 hf ?_
    simp only [opDefineDestination, numberBelow_of_val hc, optionalField_of_allowed hp,
      optionalField_of_allowed ha]
    rfl
  · refine request_refused 0x13#8 hf (opDefineDestination_refused ?_)
    exact h.imp_right (Or.imp optionalField_of_not_allowed optionalField_of_not_allowed)
  · subst hk
    exact undefines (congrArg (Option.map _) (numberBelow_of_val hn))
  · subst hk
    exact undefines (congrArg (Option.map _) (numberBelow_of_val hn))
  · subst hk
    exact undefines (congrArg (Option.map _) (numberBelow_of_val hn))
  · refine request_refused 0x14#8 (r := .badField) hf ?_
    simp only [opUndefine, undefineEdit_none h]

end Sys2Proof.Machine
end

section
/-! PROOFS. Validation as a whole: `ValidationAcceptsExactlyTheLayoutsOfTheNineChecks` (R142). -/

namespace Sys2Proof.Machine

set_option Elab.async false

theorem firstFailing_eq_none_iff {cs : List (Option Offender)} {n : Nat} :
    firstFailing n cs = none ↔ ∀ j, j < cs.length → cs[j]? = some none := by
  induction cs generalizing n with
  | nil => simp [firstFailing]
  | cons c cs ih =>
    cases c with
    | some o => exact iff_of_false nofun fun h => by cases h 0 (Nat.succ_pos _)
    | none =>
      rw [firstFailing, ih]
      refine ⟨fun h j hj => ?_, fun h j hj => h (j + 1) (Nat.succ_lt_succ hj)⟩
      cases j with
      | zero => rfl
      | succ j => exact h j (Nat.lt_of_succ_lt_succ hj)

/-- What a named failure says of the list of outcomes. -/
theorem firstFailing_some {cs : List (Option Offender)} {n m : Nat} {o : Offender}
    (h : firstFailing n cs = some (m, o)) :
    ∃ j, m = n + j ∧ cs[j]? = some (some o) ∧ ∀ i, i < j → cs[i]? = some none := by
  induction cs generalizing n with
  | nil => cases h
  | cons c cs ih =>
    cases c with
    | some p =>
      cases h
      exact ⟨0, rfl, rfl, nofun⟩
    | none =>
      obtain ⟨j, rfl, fails, before⟩ := ih h
      refine ⟨j + 1, by omega, fails, fun i hi => ?_⟩
      cases i with
      | zero => rfl
      | succ i => exact before i (Nat.lt_of_succ_lt_succ hi)

/-- R142: while the outcomes are nothing, the checks hold. -/
theorem checksHold_of_outcomes {l : Layout} {n : Nat} (h : ∀ i, i < n → l.checks[i]? = some none) :
    ∀ m, m < n + 1 → CheckHolds l m := by
  induction n with
  | zero =>
    intro m hm
    obtain rfl : m = 0 := by omega
    trivial
  | succ n ih =>
    have before := ih fun i hi => h i (hi.trans n.lt_succ_self)
    intro m hm
    rcases Nat.lt_succ_iff_lt_or_eq.1 hm with hm | rfl
    · exact before m hm
    · exact (checks_judge (h n n.lt_succ_self) before).holds.1 rfl

theorem validate_none_iff (l : Layout) :
    l.validate = none ↔ ∀ n : Nat, 1 ≤ n → n ≤ 9 → CheckHolds l n := by
  rw [Layout.validate, firstFailing_eq_none_iff]
  refine ⟨fun h n _ hn => checksHold_of_outcomes (n := 9) h n (by omega), fun h j hj => ?_⟩
  have hold (m : Nat) (hm : m < j + 2) : CheckHolds l m := by
    cases m with
    | zero => trivial
    | succ m => exact h (m + 1) m.succ_pos (by have : j < 9 := hj; omega)
  have outcome : l.checks[j]? = some l.checks[j] := List.getElem?_eq_getElem hj
  rw [outcome, (checks_judge outcome fun m hm => hold m (by omega)).holds.2 (hold _ (by omega))]

/-- Settles O39: each check's outcome is as Table 7-5 has it once those before it hold, so the first outcome
that is not nothing is the first check that fails, with its offender. -/
theorem validationAcceptsExactlyTheLayoutsOfTheNineChecks :
    Obligations.ValidationAcceptsExactlyTheLayoutsOfTheNineChecks := by
  intro l
  refine ⟨validate_none_iff l, fun n kind number => ⟨fun h => ?_, validate_of_firstFails⟩⟩
  obtain ⟨j, rfl, fails, before⟩ := firstFailing_some h
  have hold := checksHold_of_outcomes before
  rw [Nat.add_comm]
  exact ⟨hold, ((checks_judge fails hold).offends kind number).1 rfl⟩

end Sys2Proof.Machine
end

section
/-! PROOFS. The step, power-on, RESETIN, and the passing of time: `StepRunsFrontCommand` (R2),
`EveryCommandHasANextState`, `ResetinVoidsTheModuleAndBeginsItAgain` (R130), `PowerOnBegins` (R129),
`ResetStateObeysTheLaws` (R129) and `IdleStepCountsAMillisecond` (R1, R64). -/

namespace Sys2Proof.Machine

set_option Elab.async false

/-! ### The step -/

/-- R1: with RESETIN inactive, a running-out that an idle step has to take is that of a timer past its
time. -/
theorem overdue_eq_nil {s : State} (h : ∀ c τ, TimerRuns s c τ → τ.elapsed ≤ τ.duration) :
    s.overdue = [] := by
  refine List.eq_nil_iff_forall_not_mem.2 fun c hc => ?_
  obtain ⟨-, τ, runs, late⟩ := (s.mem_overdue c).1 hc
  exact Nat.not_lt.2 (h c τ runs) late

theorem idleStep_of_overdue_nil {s : State} (h : s.overdue = []) : idleStep s = .next s.tick := by
  unfold idleStep
  rw [h]

theorem step_of_pending_nil {s : State} (h : s.pending = []) : step s = idleStep s := by
  unfold step
  rw [h]

/-- Settles O1: the two cases of the step, and in the second no timer is past its time. -/
theorem stepRunsFrontCommand : Obligations.StepRunsFrontCommand := by
  intro s c rest
  refine ⟨fun h => ?_, fun h timers => ?_⟩
  · unfold step
    rw [h]
  · rw [step_of_pending_nil h, idleStep_of_overdue_nil (overdue_eq_nil timers)]

/-! ### Every command has a next state -/

theorem happening_next (occurs : Bool) (effect : State → State) (s : State) :
    ∃ t, happening occurs effect s = .next t ∧ (occurs = false → t = s) := by
  unfold happening
  cases occurs with
  | true => split <;> exact ⟨_, rfl, nofun⟩
  | false => exact ⟨s, by simp, fun _ => rfl⟩

theorem receive_next {occurs : Bool} (s t : State) :
    ∃ u, (if !s.resetActive && occurs then .next t else .next s :
      Host.Outcome State Fault Refusal) = .next u ∧ (occurs = false → u = s) := by
  cases occurs with
  | true => split <;> exact ⟨_, rfl, nofun⟩
  | false => exact ⟨s, by simp, fun _ => rfl⟩

theorem request_next (kind seq : Byte) (op : State → State × Answer) (s : State) :
    ∃ t, request kind seq op s = .next t := by
  unfold request
  split <;> exact ⟨_, rfl⟩

/-- Every command has a next state, which is the state itself where the command names no happening of it
(log entry 4). -/
theorem exec_next (s : State) (c : Instr) :
    ∃ t, exec c s = .next t ∧ (s.occurs c = false → t = s) := by
  cases hf : requestParts c with
  | some f =>
    have occurs : s.occurs c = true := by cases c <;> cases hf <;> rfl
    rw [exec_request hf, occurs]
    obtain ⟨t, ht⟩ := request_next f.kind f.seq (runKind f.kind f.body) s
    exact ⟨t, ht, nofun⟩
  | none =>
    cases c with
    | powerOn i => exact ⟨_, rfl, nofun⟩
    | resetinActive => exact ⟨_, rfl, nofun⟩
    | resetinInactive i =>
      cases ha : s.resetActive with
      | true => exact ⟨_, if_pos ha, fun h => absurd (ha.symm.trans h) nofun⟩
      | false => exact ⟨s, if_neg (by simp [ha]), fun _ => rfl⟩
    | receivedByte b =>
      have take : ∃ t, exec (.receivedByte b) s = .next t := by
        rw [show exec (.receivedByte b) s = if s.resetActive then .next s else
          .next (s.receive (scanAll s.link.receiver [b])) from rfl]
        split <;> exact ⟨_, rfl⟩
      obtain ⟨t, ht⟩ := take
      exact ⟨t, ht, nofun⟩
    | interByteTimeout => exact receive_next s _
    | frameDiscarded buffer => exact receive_next s _
    | encoderPulse | estopChangeAtZones | estopChangeAtDiverters | blockedEdge | unblockedEdge
    | homeActiveEdge | homeInactiveEdge | jamTimerExpiry | strokeTimerExpiry | dwellTimerExpiry
    | returnTimerExpiry | linkTimerExpiry | resendTimerExpiry | frameSent => exact happening_next _ _ s
    | _ => cases hf

theorem exec_of_not_occurs {s : State} {c : Instr} (h : s.occurs c = false) : exec c s = .next s := by
  obtain ⟨t, ht, same⟩ := exec_next s c
  rw [ht, same h]

theorem pending_of_blocks {s t : State} (h : t.blocks = s.blocks) : t.pending = s.pending :=
  (congrArg State.pending h : t.blocks.pending = s.blocks.pending)

/-- R2: no command touches the queue of waiting commands. -/
theorem exec_pending {c : Instr} {s t : State} (h : exec c s = .next t) : t.pending = s.pending := by
  cases hc : IsReset c with
  | true =>
    cases c with
    | powerOn i => cases h; rfl
    | resetinActive => cases h; rfl
    | resetinInactive i =>
      rcases resetinInactive_cases h with ⟨-, rfl⟩ | ⟨-, rfl⟩ <;> rfl
    | _ => cases hc
  | false =>
    rcases exec_cases hc h with ht | ⟨effect, hf, -, -, ht⟩ | ⟨kind, u, v, -, hu, hv, ht⟩
    · exact pending_of_blocks ht
    · exact (pending_of_blocks ht).trans
        (congrArg (fun g => g.2.2.2) (fieldEffect_governed hf s))
    · exact (pending_of_blocks ht).trans (hv.pending.trans (pending_of_blocks hu))

/-- Settles O2: every command has a next state, and none touches the queue of waiting commands. -/
theorem everyCommandHasANextState : Obligations.EveryCommandHasANextState := by
  intro s c
  obtain ⟨t, ht, same⟩ := exec_next s c
  exact ⟨t, ht, exec_pending ht, same⟩

/-! ### RESETIN and power-on (R129, R130) -/

theorem happening_of_reset {occurs : Bool} {effect : State → State} {s : State}
    (h : s.resetActive = true) : happening occurs effect s = .next s :=
  if_neg (by simp [h])

/-- R130: while RESETIN is active, nothing but the supply and RESETIN itself has an effect. -/
theorem exec_of_reset {s : State} {c : Instr} (h : s.resetActive = true) (hc : IsReset c = false) :
    exec c s = .next s := by
  cases hf : requestParts c with
  | some f =>
    rw [exec_request hf]
    exact if_pos h
  | none =>
    cases c with
    | powerOn | resetinActive | resetinInactive => cases hc
    | receivedByte b => exact if_pos h
    | interByteTimeout => exact if_neg (by simp [h])
    | frameDiscarded buffer => exact if_neg (by simp [h])
    | encoderPulse | estopChangeAtZones | estopChangeAtDiverters | blockedEdge | unblockedEdge
    | homeActiveEdge | homeInactiveEdge | jamTimerExpiry | strokeTimerExpiry | dwellTimerExpiry
    | returnTimerExpiry | linkTimerExpiry | resendTimerExpiry | frameSent =>
      exact happening_of_reset h
    | _ => cases hf

/-- Settles O3: the void is the blocks' empty state, nothing is taken in it, and the module begins from it as
at power-on but for the cause that its first report carries. -/
theorem resetinVoidsTheModuleAndBeginsItAgain : Obligations.ResetinVoidsTheModuleAndBeginsItAgain := by
  intro s i c
  refine ⟨⟨s.void, rfl, rfl, fun d => ?_, fun z => ?_, rfl, rfl⟩,
    fun h hp ha hr => exec_of_reset h (isReset_eq_false hp ha hr),
    fun h => ⟨s.begin .resetLine i, s.begin .powerOn i, if_pos h, rfl, rfl, rfl⟩⟩
  · simp [State.void, State.reset, Diverter.blank, DiverterState.driven]
  · simp [State.void, State.reset, ZoneUnit.blank]

/-- Settles O4: what the module begins with is `State.reset`, but for the inputs and the line speed. -/
theorem powerOnBegins : Obligations.PowerOnBegins := by
  intro s i
  refine ⟨s.begin .powerOn i, rfl, rfl, rfl, rfl, fun z => ?_, rfl, rfl, rfl, rfl, rfl, fun e => ?_,
    fun d => ⟨?_, ?_⟩, rfl, fun z => ?_, fun e => ?_, fun d => ?_, fun c => ?_, rfl, rfl, rfl, rfl⟩
  all_goals simp [State.begin, State.reset, ZoneUnit.blank, Reasons.none, Eye.blank, Diverter.blank,
    Layout.empty]

/-- Settles O5: nothing is defined, tracked, claimed or waiting right after the reset. -/
theorem resetStateObeysTheLaws : Obligations.ResetStateObeysTheLaws := by
  refine ⟨begin_layoutLaws rfl rfl rfl, ?_, ?_, ?_, ?_, ?_, ?_, ?_, ?_⟩
  · decide
  · decide
  · decide
  · decide
  · decide
  · decide
  · decide
  · decide

/-! ### The passing of time (R1, R64) -/

theorem due_eq_false {τ : Timer} (h : τ.elapsed < τ.duration) : τ.due = false :=
  decide_eq_false (Nat.not_le.2 h)

/-- R1: a timer's running-out occurs when the timer is due. -/
theorem occurs_of_timerOf {s : State} {c : Instr} {τ : Timer} (h : s.timerOf c = some τ) :
    s.occurs c = τ.due := by
  have due : (s.timerOf c).any Timer.due = τ.due := by rw [h, Option.any_some]
  cases c with
  | jamTimerExpiry | strokeTimerExpiry | dwellTimerExpiry | returnTimerExpiry | interByteTimeout
  | linkTimerExpiry | resendTimerExpiry => exact due
  | _ => cases h

theorem expiries_nodup : expiries.Nodup := by
  have eyes : allEyes.Nodup := by decide
  have diverters : allDiverters.Nodup := by decide
  unfold expiries
  simp only [List.nodup_append, List.mem_append, List.mem_map]
  refine ⟨⟨⟨⟨eyes.map fun _ _ => Instr.jamTimerExpiry.inj, diverters.map fun _ _ =>
    Instr.strokeTimerExpiry.inj, ?_⟩, diverters.map fun _ _ => Instr.dwellTimerExpiry.inj, ?_⟩,
    diverters.map fun _ _ => Instr.returnTimerExpiry.inj, ?_⟩, by simp, ?_⟩ <;> aesop

theorem overdue_nodup (s : State) : s.overdue.Nodup := by
  unfold State.overdue
  split
  · exact List.nodup_nil
  · exact expiries_nodup.filter _

/-- R64: the jam timer of an eye runs in BLOCKED, with a jam time and the permit on. -/
theorem jamTimerRuns_iff (s : State) (e : EyeId) : s.jamTimerRuns e = true ↔
    s.eyes[e].state = .blocked ∧ ∃ d ∈ s.activeLayout.eyes[e], d.jamTime ≠ 0 ∧
      s.zones[d.zone].permit = true := by
  unfold State.jamTimerRuns
  cases s.activeLayout.eyes[e] <;> simp

theorem advanceEye_eq (s : State) (e : EyeId) : s.advanceEye e =
    ⟨s.eyes[e].state, s.eyes[e].jamElapsed + if s.eyes[e].state = .blocked ∧
      ∃ d ∈ s.activeLayout.eyes[e], d.jamTime ≠ 0 ∧ s.zones[d.zone].permit = true then 1 else 0⟩ := by
  unfold State.advanceEye
  split
  · next h => rw [if_pos ((jamTimerRuns_iff s e).1 h)]
  · next h =>
    rw [if_neg (mt (jamTimerRuns_iff s e).2 h)]
    rfl

/-- Settles O17: a running-out is a happening when its timer is due; an idle step takes one of the timers past
their time, and the only one where there is one; and with none it counts a millisecond. -/
theorem idleStepCountsAMillisecond : Obligations.IdleStepCountsAMillisecond := by
  intro s ha counted late
  have late_iff (c : Instr) : c ∈ s.overdue ↔ late c := by rw [s.mem_overdue, and_iff_right ha]
  refine ⟨fun c τ runs early => ?_, fun hp c hc => ?_, fun hp none => ?_⟩
  · refine exec_of_not_occurs ?_
    rw [occurs_of_timerOf ((s.timerOf_eq_some c τ).2 runs), due_eq_false early]
  · rw [step_of_pending_nil hp]
    have mem := (late_iff c).2 hc
    rcases idleStep_cases s with ⟨h, -⟩ | ⟨b, h, he⟩ | ⟨two, b, hb, he⟩
    · rw [h] at mem
      cases mem
    · obtain rfl : c = b := by rwa [h, List.mem_singleton] at mem
      exact ⟨c, s.freeIndex, hc, he, fun _ => ⟨rfl, rfl⟩⟩
    · refine ⟨b, s.freeIndex + 1, (late_iff b).1 hb, he, fun sole => ?_⟩
      have all (d : Instr) (hd : d ∈ s.overdue) : d = c := sole d ((late_iff d).1 hd)
      have one := List.nodup_iff_count_le_one.1 (overdue_nodup s) c
      rw [List.eq_replicate_of_mem all, List.count_replicate_self] at one
      omega
  · have nil : s.overdue = [] :=
      List.eq_nil_iff_forall_not_mem.2 fun c hc => none c ((late_iff c).1 hc)
    have tick : s.tick = { s with
        eyes := Vector.ofFn s.advanceEye
        diverters := Vector.ofFn fun d =>
          { s.diverters[d] with timer := s.diverters[d].timer.map Timer.advance }
        link := { s.link with
          interByte := s.link.interByte.map Timer.advance
          linkTimer := s.link.linkTimer.map Timer.advance }
        reports := { s.reports with resendTimer := s.reports.resendTimer.map Timer.advance } } :=
      if_neg (by simp [ha])
    refine ⟨s.tick, (step_of_pending_nil hp).trans (idleStep_of_overdue_nil nil), ?_⟩
    rw [tick]
    refine ⟨fun e => ?_, fun d => ?_, rfl, rfl, rfl, rfl⟩
    · simp only [Fin.getElem_fin, Vector.getElem_ofFn]
      rw [advanceEye_eq]
      exact ⟨rfl, rfl⟩
    · simp only [Fin.getElem_fin, Vector.getElem_ofFn]
      rfl

end Sys2Proof.Machine
end

section
/-! PROOFS. What every request does at the link: a result code, LINK withdrawn, and the statements
`RequestIsAnswered` (R154, R156, R157, R162), `RetryAndPendingReplyExecuteNothing` (R154, R155) and
`BadKindAndBadLengthExecuteNothing` (R154, R182, R183). -/

namespace Sys2Proof.Machine

set_option Elab.async false

/-! ### LINK, which no request claims -/

/-- An operation that leads from `s` to `t` claims LINK in no zone. -/
def ClaimsNoLink (s t : State) : Prop :=
  ∀ z : ZoneId, s.zones[z].reasons.link = false → t.zones[z].reasons.link = false

theorem ClaimsNoLink.refl (s : State) : ClaimsNoLink s s := fun _ => id

theorem ClaimsNoLink.trans {s t u : State} (h : ClaimsNoLink s t) (k : ClaimsNoLink t u) :
    ClaimsNoLink s u := fun z hz => k z (h z hz)

theorem ClaimsNoLink.of_zones {s t : State} (h : t.zones = s.zones) : ClaimsNoLink s t :=
  fun _ hz => h ▸ hz

theorem mapZones_noLink (s : State) (f : ZoneId → ZoneUnit → ZoneUnit)
    (h : ∀ z u, (f z u).reasons.link = u.reasons.link) : ClaimsNoLink s (s.mapZones f) :=
  fun z hz => by simpa [h] using hz

theorem modifyReasons_noLink (s : State) (y : ZoneId) (f : Reasons → Reasons)
    (h : ∀ r, (f r).link = r.link) : ClaimsNoLink s (s.modifyReasons y f) := fun z hz => by
  rw [State.modifyReasons_zones, getElem_set_fin]
  split
  · next hy => exact (h _).trans (hy ▸ hz)
  · exact hz

theorem foldl_noLink {α : Type} {f : State → α → State} (h : ∀ s a, ClaimsNoLink s (f s a))
    (l : List α) (s : State) : ClaimsNoLink s (l.foldl f s) :=
  List.foldlRecOn (motive := ClaimsNoLink s) l _ (.refl s) fun t ht a _ => ht.trans (h t a)

theorem evaluatePoolLow_noLink (s : State) : ClaimsNoLink s s.evaluatePoolLow := by
  unfold State.evaluatePoolLow
  exact modifyReasons_noLink s 0 _ fun _ => rfl

theorem withdrawJam_noLink (s : State) (z : ZoneId) : ClaimsNoLink s (s.withdrawJam z) := by
  unfold State.withdrawJam
  exact modifyReasons_noLink s z _ fun _ => rfl

theorem setHost_noLink (s : State) (z : ZoneId) (held : Bool) : ClaimsNoLink s (s.setHost z held) := by
  unfold State.setHost
  exact modifyReasons_noLink s z _ fun _ => rfl

theorem deriveDownstream_noLink (s : State) : ClaimsNoLink s s.deriveDownstream := by
  unfold State.deriveDownstream
  exact mapZones_noLink s _ fun _ _ => rfl

theorem setStopped_noLink (s : State) (tracking : Bool) : ClaimsNoLink s (s.setStopped tracking) := by
  unfold State.setStopped
  exact mapZones_noLink s _ fun _ _ => rfl

theorem removeItem_noLink (s : State) (tag : Nat) : ClaimsNoLink s (s.removeItem tag) := by
  unfold State.removeItem
  exact mapZones_noLink s _ fun _ _ => rfl

theorem updateItem_noLink (s : State) (tag : Nat) (f : Item → Item) :
    ClaimsNoLink s (s.updateItem tag f) := by
  unfold State.updateItem
  exact mapZones_noLink s _ fun _ _ => rfl

theorem writeClaim_noLink (s : State) (i : Item) (new : Option DiverterId) :
    ClaimsNoLink s (s.writeClaim i new) := by
  have written := updateItem_noLink s i.tag fun j => { j with assigned := new }
  have same : (s.writeClaim i new).zones = (s.updateItem i.tag fun j => { j with assigned := new }).zones :=
    rfl
  exact written.trans (.of_zones same)

theorem reassign_noLink (s : State) (tag : Nat) (excluded : Option DiverterId) :
    ClaimsNoLink s (s.reassign tag excluded).1 := by
  rcases reassign_cases s tag excluded with ⟨-, h⟩ | ⟨i, -, h⟩ <;> rw [h]
  exacts [.refl s, writeClaim_noLink s i _]

theorem moveClaim_noLink (s : State) (d : DiverterId) (tag : Nat) :
    ClaimsNoLink s (State.moveClaim d s tag) := by
  have same : (State.moveClaim d s tag).zones = (s.reassign tag (some d)).1.zones := rfl
  exact (reassign_noLink s tag (some d)).trans (.of_zones same)

theorem reevaluate_noLink (s : State) (d : DiverterId) : ClaimsNoLink s (s.reevaluate d) :=
  foldl_noLink (fun t tag => moveClaim_noLink t d tag) _ s

theorem returnItem_noLink (s : State) (d : DiverterId) (cause : MissCause) :
    ClaimsNoLink s (s.returnItem d cause) := by
  rcases returnItem_cases d cause s with ⟨-, h⟩ | ⟨tag, -, h⟩ <;> rw [h]
  · exact .refl s
  · have emptied : ClaimsNoLink s (s.slotEmptied d tag) :=
      .trans (.of_zones rfl) (updateItem_noLink _ _ _)
    exact (emptied.trans (reassign_noLink _ tag (some d))).trans (.of_zones (State.post_zones _ _))

theorem enterSettling_zones (s : State) (d : DiverterId) : (s.enterSettling d).zones = s.zones := by
  unfold State.enterSettling
  split <;> rfl

theorem settleDiverters_zones (s : State) (which : DiverterId → Bool) :
    (s.settleDiverters which).zones = s.zones :=
  List.foldlRecOn (motive := fun t : State => t.zones = s.zones) _ _ rfl fun t ht d _ => by
    rw [enterSettling_zones, State.readHome_frame]
    exact ht

theorem disableDiverter_noLink (s : State) (d : DiverterId) : ClaimsNoLink s (s.disableDiverter d) := by
  have returned (t : State) (h : t.zones = s.zones) : ClaimsNoLink s (t.returnItem d .disabled) :=
    .trans (.of_zones h) (returnItem_noLink t d _)
  unfold State.disableDiverter
  split
  · exact .refl s
  · dsimp only
    split
    · refine .trans ?_ (reevaluate_noLink _ d)
      exact returned _ rfl
    · exact returned _ rfl

theorem clearFault_noLink (s : State) (d : DiverterId) : ClaimsNoLink s (s.clearFault d) := by
  unfold State.clearFault
  split
  · exact .of_zones rfl
  · exact .of_zones (enterSettling_zones s d)

theorem restart_noLink (s : State) :
    ClaimsNoLink s (s.giveUp.settleDiverters s.restartsDiverter) :=
  .trans (fun z _ => by simp [State.giveUp, ZoneUnit.restart, Reasons.none])
    (.of_zones (settleDiverters_zones _ _))

theorem commit_noLink (s : State) : ClaimsNoLink s s.commit := by
  have taken : ClaimsNoLink s s.takeLayout :=
    .trans (fun z _ => by simp [State.layoutTaken, ZoneUnit.commit, Reasons.none])
      (evaluatePoolLow_noLink s.layoutTaken)
  exact (taken.trans (.of_zones rfl)).trans (.of_zones (settleDiverters_zones _ _))

theorem release_noLink (s : State) (tag : Nat) : ClaimsNoLink s (s.release tag) :=
  fun z hz => by
  unfold State.release
  refine evaluatePoolLow_noLink _ z ?_
  exact removeItem_noLink s tag z hz

theorem resume_noLink (s : State) (z : ZoneId) : ClaimsNoLink s (s.resume z) := by
  have cleared (t : State) (e : EyeId) : ClaimsNoLink t (t.clearHeld z e) := .of_zones rfl
  unfold State.resume
  exact ((setHost_noLink s z false).trans (foldl_noLink cleared _ _)).trans (withdrawJam_noLink _ z)

theorem disableEye_noLink (s : State) (e : EyeId) (z : ZoneId) :
    ClaimsNoLink s (s.disableEye e z) := by
  unfold State.disableEye
  split_ifs
  · exact .refl s
  · exact .trans (t := (s.setEye e .disabled).post (.jam e z false)) (.of_zones rfl)
      (withdrawJam_noLink _ z)
  · exact .of_zones rfl

theorem enableEye_noLink (s : State) (e : EyeId) : ClaimsNoLink s (s.enableEye e) := by
  unfold State.enableEye
  split
  exacts [.of_zones rfl, .refl s]

/-! ### Answers begin with a result code (R156) -/

/-- What a request answers, whatever the state that its reply is composed in, begins with a result code. -/
def Answer.Coded (a : Answer) : Prop :=
  ∀ t : State, ∃ (r : ResultCode) (fields : List Byte), t.answerBody a = r.code :: fields

/-- A request's operation claims LINK nowhere and answers with a result code. -/
structure Answers (s : State) (r : State × Answer) : Prop where
  noLink : ClaimsNoLink s r.1
  coded : r.2.Coded

variable {s t : State} {r : ResultCode} {fields : List Byte}

theorem answers_fields (h : ClaimsNoLink s t) : Answers s (t, answer r fields) :=
  ⟨h, fun _ => ⟨r, fields, rfl⟩⟩

/-- A refusal, or an answer that leaves the state as it is. -/
theorem answers_same : Answers s (s, answer r fields) := answers_fields (.refl s)

theorem answers_ack (h : ClaimsNoLink s t) (n removed : Nat) : Answers s (t, .ack r n removed) :=
  ⟨h, fun _ => ⟨r, _, rfl⟩⟩

theorem editPending_answers (f : Layout → Layout) (s : State) : Answers s (editPending f s) :=
  answers_fields (.of_zones rfl)

/-- An operation answers, whatever the state. -/
def OpAnswers (op : State → State × Answer) : Prop := ∀ s : State, Answers s (op s)

variable (body : List Byte)

theorem opStatus_answers : OpAnswers (opStatus body) := fun s => by
  unfold opStatus
  split
  · exact ⟨.refl s, fun _ => ⟨.ok, _, rfl⟩⟩
  · exact answers_same

theorem opIdentify_answers : OpAnswers (opIdentify body) := fun s => by
  unfold opIdentify
  split <;> exact answers_same

theorem opSetLink_answers : OpAnswers (opSetLink body) := fun s => by
  unfold opSetLink
  split
  · dsimp only
    split
    exacts [answers_fields (.of_zones rfl), answers_same]
  · exact answers_same

theorem opReportAck_answers : OpAnswers (opReportAck body) := fun s => by
  unfold opReportAck
  split
  · dsimp only
    split_ifs
    · refine answers_ack ?_ _ _
      exact .of_zones rfl
    · exact answers_ack (.refl s) _ _
    · exact answers_ack (.refl s) _ _
  · exact answers_same

theorem opRestart_answers : OpAnswers (opRestart body) := fun s => by
  unfold opRestart
  split
  exacts [answers_fields (restart_noLink s), answers_same]

theorem opStart_answers : OpAnswers (opStart body) := fun s => by
  unfold opStart
  split
  · split
    · exact answers_fields (.trans (setStopped_noLink { s with module := .tracking } true) (.of_zones rfl))
    · exact answers_same
  · exact answers_same

theorem opStop_answers : OpAnswers (opStop body) := fun s => by
  unfold opStop
  split
  · split
    · exact answers_fields (.trans (setStopped_noLink { s with module := .standby } false) (.of_zones rfl))
    · exact answers_same
  · exact answers_same

theorem opDefineZone_answers : OpAnswers (opDefineZone body) := fun s => by
  unfold opDefineZone
  split
  · dsimp only
    split
    · split
      exacts [editPending_answers _ s, answers_same]
    · exact answers_same
  · exact answers_same

theorem opDefineEye_answers : OpAnswers (opDefineEye body) := fun s => by
  unfold opDefineEye
  split
  · split
    exacts [editPending_answers _ s, answers_same]
  · exact answers_same

theorem opDefineDiverter_answers : OpAnswers (opDefineDiverter body) := fun s => by
  unfold opDefineDiverter
  split
  · split
    · dsimp only
      split
      exacts [editPending_answers _ s, answers_same]
    · exact answers_same
  · exact answers_same

theorem opDefineDestination_answers : OpAnswers (opDefineDestination body) := fun s => by
  unfold opDefineDestination
  split
  · split
    exacts [editPending_answers _ s, answers_same]
  · exact answers_same

theorem opUndefine_answers : OpAnswers (opUndefine body) := fun s => by
  unfold opUndefine
  split
  · split
    exacts [editPending_answers _ s, answers_same]
  · exact answers_same

theorem opSetLine_answers : OpAnswers (opSetLine body) := fun s => by
  unfold opSetLine
  split
  · split
    · dsimp only
      split
      exacts [editPending_answers _ s, answers_same]
    · exact answers_same
  · exact answers_same

theorem opClearPending_answers : OpAnswers (opClearPending body) := fun s => by
  unfold opClearPending
  split
  exacts [editPending_answers _ s, answers_same]

theorem opCopyActive_answers : OpAnswers (opCopyActive body) := fun s => by
  unfold opCopyActive
  split
  exacts [editPending_answers _ s, answers_same]

theorem opReadLayout_answers : OpAnswers (opReadLayout body) := fun s => by
  unfold opReadLayout
  split
  · split
    · split <;> exact answers_same
    · exact answers_same
  · exact answers_same

theorem opCommitLayout_answers : OpAnswers (opCommitLayout body) := fun s => by
  unfold opCommitLayout
  split
  · split
    · exact answers_same
    · split
      · exact answers_same
      · split
        exacts [answers_same, answers_fields (commit_noLink s)]
  · exact answers_same

theorem opAnnounce_answers : OpAnswers (opAnnounce body) := fun s => by
  unfold opAnnounce
  split
  · exact answers_same
  · split
    · exact answers_same
    · split
      · exact answers_same
      · split_ifs
        exacts [answers_same, answers_same, answers_fields (.of_zones rfl)]

theorem opWithdraw_answers : OpAnswers (opWithdraw body) := fun s => by
  unfold opWithdraw
  split
  · split
    exacts [answers_fields (.of_zones rfl), answers_same]
  · exact answers_same

theorem opQueryItem_answers : OpAnswers (opQueryItem body) := fun s => by
  unfold opQueryItem
  split
  · split
    · exact answers_same
    · split <;> exact answers_same
  · exact answers_same

theorem opListZone_answers : OpAnswers (opListZone body) := fun s => by
  unfold opListZone
  split
  · split
    · exact answers_same
    · split <;> exact answers_same
  · exact answers_same

theorem opPurge_answers : OpAnswers (opPurge body) := fun s => by
  unfold opPurge
  split
  · split
    · exact answers_same
    · split
      exacts [answers_same, answers_fields (release_noLink s _)]
  · exact answers_same

theorem opReroute_answers : OpAnswers (opReroute body) := fun s => by
  unfold opReroute
  split
  · split
    · exact answers_same
    · split
      · exact answers_same
      · split
        · exact answers_same
        · exact answers_fields ((updateItem_noLink s _ _).trans (reassign_noLink _ _ none))
  · exact answers_same

theorem opHaltZone_answers : OpAnswers (opHaltZone body) := fun s => by
  unfold opHaltZone
  split
  · split
    · exact answers_same
    · split
      · exact answers_same
      · exact answers_fields ((setHost_noLink s _ true).trans (deriveDownstream_noLink _))
  · exact answers_same

theorem opResumeZone_answers : OpAnswers (opResumeZone body) := fun s => by
  unfold opResumeZone
  split
  · split
    · exact answers_same
    · split
      exacts [answers_same, answers_fields (resume_noLink s _)]
  · exact answers_same

theorem opDisableEye_answers : OpAnswers (opDisableEye body) := fun s => by
  unfold opDisableEye
  split
  · split
    · exact answers_same
    · split
      · exact answers_same
      · split
        exacts [answers_same, answers_fields (disableEye_noLink s _ _)]
  · exact answers_same

theorem opEnableEye_answers : OpAnswers (opEnableEye body) := fun s => by
  unfold opEnableEye
  split
  · split
    · exact answers_same
    · split
      exacts [answers_same, answers_fields (enableEye_noLink s _)]
  · exact answers_same

theorem diverterRequest_answers {allowed : State → DiverterId → Bool}
    {effect : DiverterId → State → State} (h : ∀ s d, ClaimsNoLink s (effect d s)) :
    OpAnswers (diverterRequest allowed effect body) := fun s => by
  unfold diverterRequest
  split
  · split
    · exact answers_same
    · split
      · exact answers_same
      · split
        exacts [answers_fields (h s _), answers_same]
  · exact answers_same

/-- R154 steps 4 to 6, R156: whatever request a KIND names, it is answered with a result code. -/
theorem runKind_answers (kind : Byte) : OpAnswers (runKind kind body) := by
  unfold runKind
  split
  · exact opStatus_answers body
  · exact opIdentify_answers body
  · exact opSetLink_answers body
  · exact opReportAck_answers body
  · exact opRestart_answers body
  · exact opStart_answers body
  · exact opStop_answers body
  · exact opDefineZone_answers body
  · exact opDefineEye_answers body
  · exact opDefineDiverter_answers body
  · exact opDefineDestination_answers body
  · exact opUndefine_answers body
  · exact opSetLine_answers body
  · exact opClearPending_answers body
  · exact opCopyActive_answers body
  · exact opReadLayout_answers body
  · exact opCommitLayout_answers body
  · exact opAnnounce_answers body
  · exact opWithdraw_answers body
  · exact opQueryItem_answers body
  · exact opListZone_answers body
  · exact opPurge_answers body
  · exact opReroute_answers body
  · exact opHaltZone_answers body
  · exact opResumeZone_answers body
  · exact opDisableEye_answers body
  · exact opEnableEye_answers body
  · exact diverterRequest_answers body fun _ _ => .of_zones rfl
  · exact diverterRequest_answers body disableDiverter_noLink
  · exact diverterRequest_answers body fun s d => .of_zones (enterSettling_zones s d)
  · exact diverterRequest_answers body clearFault_noLink
  · exact fun _ => answers_same

/-! ### A fresh request (R154, R156, R157, R162) -/

/-- The link `l` after a valid frame's signs of life in the state `s`, and what its request makes of the
cache and the settings. -/
structure Attended (s : State) (l : HostLink) : Prop where
  up : l.up = true
  hunting : l.receiver = .hunting
  interByte : l.interByte = none
  speed : l.speed = s.link.speed
  transmitter : l.transmitter = s.link.transmitter
  linkTimer : l.linkTimer = l.settings.linkTimer

theorem runKind_attended (s : State) (kind : Byte) (body : List Byte) :
    Attended s (runKind kind body s.rest.supervise).1.link ∧
      (kind ≠ 0x03#8 → (runKind kind body s.rest.supervise).1.link.settings = s.link.settings) := by
  rcases runKind_links kind body s.rest.supervise with h | ⟨l, rfl, -, h⟩ | h <;> rw [h]
  · exact ⟨⟨rfl, rfl, rfl, rfl, rfl, rfl⟩, fun _ => rfl⟩
  · exact ⟨⟨rfl, rfl, rfl, rfl, rfl, rfl⟩, fun hk => absurd rfl hk⟩
  · exact ⟨⟨rfl, rfl, rfl, rfl, rfl, rfl⟩, fun _ => rfl⟩

theorem placeReply_link (w : State) (kind seq : Byte) (a : Answer) :
    (w.placeReply kind seq a).link = { w.link with
      slot := some ⟨replyKind kind, seq, w.answerBody a⟩
      cache := some ⟨replyKind kind, seq, w.answerBody a⟩ } := rfl

/-- R162: what the choice makes of the slot and the transmitter when a reply has been placed. -/
theorem placed_chooseFrame (w : State) (reply : Frame) (h : w.link.slot = some reply) :
    (w.link.transmitter = .free → w.chooseFrame.link.transmitter = .sending reply.bytes ∧
      w.chooseFrame.link.slot = none) ∧
    (∀ frame, w.link.transmitter = .sending frame →
      w.chooseFrame.link.transmitter = .sending frame ∧ w.chooseFrame.link.slot = some reply) := by
  obtain ⟨sends, chooses⟩ := chooseFrame_transmits w
  refine ⟨fun hf => ?_, fun frame hf => ?_⟩
  · rw [((chooses hf).1 reply h).1]
    exact ⟨rfl, rfl⟩
  · rw [(sends (by simp [hf])).1]
    exact ⟨hf, h⟩

/-- R154: the state that a fresh request leaves is its operation's, settled, with its reply placed. -/
theorem exec_fresh {c : Instr} {f : Frame} {s : State} (hf : requestParts c = some f)
    (h : FreshRequest s f.seq) : exec c s =
      .next ((runKind f.kind f.body s.rest.supervise).1.settleZones.placeReply f.kind f.seq
        (runKind f.kind f.body s.rest.supervise).2).chooseFrame := by
  rw [exec_request hf]
  exact request_fresh f.kind f.seq _ s h

/-- Settles O22: each request claims LINK nowhere, answers with a result code and writes no more of the link
than its settings and its cache; the reply is then placed, and the transmitter chooses. -/
theorem requestIsAnswered : Obligations.RequestIsAnswered := by
  intro s c f hf h
  refine ⟨_, exec_fresh hf h, ?_⟩
  obtain ⟨noLink, coded⟩ := runKind_answers f.body f.kind s.rest.supervise
  obtain ⟨attended, settings⟩ := runKind_attended s f.kind f.body
  generalize runKind f.kind f.body s.rest.supervise = r at noLink coded attended settings ⊢
  have withdrawn : r.1.zones[(0 : ZoneId)].reasons.link = false :=
    noLink 0 (by rw [supervised_zone]; rfl)
  obtain ⟨result, fields, hbody⟩ := coded r.1.settleZones
  have link : r.1.settleZones.link = r.1.link := by rw [settleZones_frame]
  have zone : r.1.settleZones.zones[(0 : ZoneId)].reasons.link = false := by
    rw [settleZones_eq]
    simpa [State.settledZone, ZoneUnit.settled] using withdrawn
  rw [← link] at attended settings
  generalize r.1.settleZones = v at hbody attended settings zone ⊢
  generalize hw : v.placeReply f.kind f.seq r.2 = w
  have hwl : w.link = { v.link with
      slot := some ⟨replyKind f.kind, f.seq, result.code :: fields⟩
      cache := some ⟨replyKind f.kind, f.seq, result.code :: fields⟩ } := by
    rw [← hw, ← hbody, placeReply_link]
  have hwz : w.zones = v.zones := by rw [← hw, State.placeReply_zones]
  obtain ⟨free, sending⟩ := placed_chooseFrame w _ (congrArg HostLink.slot hwl)
  have transmitter : w.link.transmitter = s.link.transmitter := by
    rw [hwl]
    exact attended.transmitter
  rw [transmitter] at free sending
  refine ⟨result, fields, ?_, free, sending, ?_⟩
  · rw [chooseFrame_frame, hwl]
    rfl
  · rw [chooseFrame_frame, hwl, hwz]
    exact ⟨attended.up, zone, attended.hunting, attended.interByte, attended.speed,
      attended.linkTimer, fun _ hk => settings hk⟩

/-! ### A retry, and a frame behind a waiting reply (R154, R155) -/

/-- A happening that settles `v`, which is `u` but for the link and LINK, and writes no more than the link
after it, brings `u` and no report. -/
theorem settled_brings {s u v t : State} (h : EndsAs v t) (hr : t.reports = v.settleZones.reports)
    (hv : { v with link := u.link, zones := u.zones } = u)
    (hz : ∀ z : ZoneId, { v.zones[z] with
      reasons := { v.zones[z].reasons with link := u.zones[z].reasons.link } } = u.zones[z])
    (hp : ∀ z : ZoneId, u.zones[z].permit = s.zones[z].permit) : Brings s u t [] := by
  obtain ⟨leaves, reports⟩ := EndsAs.leaves (rs := []) h hv hz hp
  exact ⟨leaves, hr.trans reports⟩

theorem settleZones_endsAs (v : State) : EndsAs v v.settleZones := by
  unfold EndsAs
  generalize v.settleZones = w
  rfl

/-- R155: a retry handled, with nothing behind it in its happening. -/
theorem handle_retry {s : State} {kind seq : Byte} {op : State → State × Answer} {reply : Frame}
    (hs : ¬ s.link.slot.isSome = true) (hr : s.retryReply seq = some reply) :
    s.handle kind seq op [] = { s.supervise.settleZones with
      link := { s.supervise.settleZones.link with slot := some reply } } := by
  unfold State.handle
  simp only [hs, hr, State.takeLater, List.foldl_nil]
  rfl

theorem supervised_reasons (s : State) (z : ZoneId) : { s.rest.supervise.zones[z] with
    reasons := { s.rest.supervise.zones[z].reasons with link := s.zones[z].reasons.link } } =
    s.zones[z] := by
  rw [supervised_zone]
  split <;> rfl

/-- Settles O23: the frame is dropped and counted, or answered from the cache; its signs of life are all that
is written besides. -/
theorem retryAndPendingReplyExecuteNothing : Obligations.RetryAndPendingReplyExecuteNothing := by
  intro s c f hf ha
  have taken : exec c s =
      .next (s.rest.handle f.kind f.seq (runKind f.kind f.body) []).chooseFrame := by
    rw [exec_request hf]
    exact if_neg (by simp [ha])
  constructor
  · intro waiting hw sends
    have slot : s.rest.link.slot.isSome = true := Option.isSome_iff_exists.2 ⟨waiting, hw⟩
    have handled : s.rest.handle f.kind f.seq (runKind f.kind f.body) [] =
        s.rest.dropFrame.settleZones := if_pos slot
    have link : s.rest.dropFrame.settleZones.link = s.rest.dropFrame.link := by
      rw [settleZones_frame]
    have chosen : s.rest.dropFrame.settleZones.chooseFrame = s.rest.dropFrame.settleZones := by
      obtain ⟨goesOn, -⟩ := chooseFrame_transmits s.rest.dropFrame.settleZones
      obtain ⟨hl, hr⟩ := goesOn (by rw [link]; exact sends)
      rw [chooseFrame_frame, hl, hr]
    rw [handled, chosen] at taken
    refine ⟨_, taken, settled_brings (v := s.rest.dropFrame) ?_ rfl rfl (supervised_reasons s)
      fun _ => rfl, link⟩
    exact settleZones_endsAs _
  · intro hslot reply hc hseq
    have empty : ¬ s.rest.link.slot.isSome = true := by
      rw [show s.rest.link.slot = none from hslot]
      decide
    have retry : s.rest.retryReply f.seq = some reply := by
      rw [State.retryReply, show s.rest.link.cache = some reply from hc, Option.filter_some,
        if_pos (decide_eq_true hseq)]
    generalize hw : ({ s.rest.supervise.settleZones with
      link := { s.rest.supervise.settleZones.link with slot := some reply } } : State) = w
    have handled : s.rest.handle f.kind f.seq (runKind f.kind f.body) [] = w := by
      rw [handle_retry empty retry, hw]
    have link : w.link = { s.rest.supervise.link with slot := some reply } := by
      rw [← hw, settleZones_frame]
    have slot : w.link.slot = some reply := by rw [link]
    have transmitter : w.link.transmitter = s.link.transmitter := by
      rw [link]
      rfl
    have left : w.chooseFrame.link = { w.link with
        slot := if s.link.transmitter = .free then none else some reply
        transmitter :=
          if s.link.transmitter = .free then .sending reply.bytes else s.link.transmitter } := by
      obtain ⟨goesOn, begins⟩ := chooseFrame_transmits w
      rw [transmitter] at goesOn begins
      split
      · next free => rw [((begins free).1 reply slot).1]
      · next sends => rw [(goesOn sends).1, ← slot, ← transmitter]
    rw [handled] at taken
    refine ⟨_, taken, settled_brings (v := s.rest.supervise)
      (chooseFrame_endsAs _ _ ⟨{ s.rest.supervise.settleZones.link with slot := some reply }, hw.symm⟩) ?_ rfl (supervised_reasons s) fun _ => rfl, ?_⟩
    · rw [chooseFrame_reports_of_slot w reply slot, ← hw]
    · rw [left, link]
      rfl

/-! ### BAD_KIND and BAD_LENGTH (R154, R182, R183) -/

theorem eq_ofNat_of_toNat {b : Byte} {n : Nat} (h : b.toNat = n) : b = BitVec.ofNat 8 n := by
  rw [← h, BitVec.ofNat_toNat, BitVec.setWidth_eq]

/-- An operation that does nothing but answer with the result code. -/
def Refuses (r : ResultCode) (op : State → State × Answer) : Prop := ∀ s : State, op s = refuse r s

/-- R154 step 4: a KIND that Table 10-4 does not list has no row. -/
theorem runKind_badKind {kind : Byte} (h : isRequestKind kind = false) (body : List Byte) :
    Refuses .badKind (runKind kind body) := by
  unfold runKind
  split
  case h_32 => exact fun _ => rfl
  all_goals
    next hk =>
      rw [eq_ofNat_of_toNat hk] at h
      exact absurd h (by decide)

/-- R183: an ANNOUNCE body of a length that its presence byte does not allow gives no fields. -/
theorem announceFields_none {body : List Byte} (h : bodyAllowed 0x20#8 body = false) :
    announceFields body = none := by
  unfold announceFields
  split
  · next p => exact if_neg fun hp => by subst hp; simp [bodyAllowed] at h
  · next p _ _ =>
    rw [if_neg fun hp => by subst hp; simp [bodyAllowed] at h]
    exact if_neg fun hp => by subst hp; simp [bodyAllowed] at h
  · next p _ _ _ _ => exact if_neg fun hp => by subst hp; simp [bodyAllowed] at h
  · rfl

theorem opAnnounce_badLength {body : List Byte} (h : bodyAllowed 0x20#8 body = false) :
    Refuses .badLength (opAnnounce body) := fun s => by
  unfold opAnnounce
  rw [announceFields_none h]
  rfl

/-- Table 10-4: the KINDs that have a row. -/
theorem requestKind_listed : ∀ kind : Byte, isRequestKind kind = true → kind.toNat ∈
    [0x01, 0x02, 0x03, 0x04, 0x05, 0x06, 0x07, 0x10, 0x11, 0x12, 0x13, 0x14, 0x15, 0x16, 0x17, 0x18,
      0x19, 0x20, 0x21, 0x22, 0x23, 0x24, 0x25, 0x28, 0x29, 0x2A, 0x2B, 0x30, 0x31, 0x32, 0x33] := by
  intro kind h
  have listed : kind ∈ requestKinds := List.contains_iff_mem.1 h
  exact List.mem_map_of_mem (f := BitVec.toNat) listed

/-- R154 step 5: each row of Table 10-4 matches the one body length of its kind, and answers BAD_LENGTH to
every other. -/
theorem runKind_badLength {kind : Byte} {body : List Byte} (hr : isRequestKind kind = true)
    (h : bodyAllowed kind body = false) : Refuses .badLength (runKind kind body) := by
  unfold runKind
  split
  case h_18 hk =>
    rw [eq_ofNat_of_toNat hk] at h
    exact opAnnounce_badLength h
  case h_32 =>
    have listed := requestKind_listed kind hr
    simp_all
  all_goals
    next hk =>
      rw [eq_ofNat_of_toNat hk] at h
      intro s
      simp only [opStatus, opIdentify, opSetLink, opReportAck, opRestart, opStart, opStop, opDefineZone,
        opDefineEye, opDefineDiverter, opDefineDestination, opUndefine, opSetLine, opClearPending,
        opCopyActive, opReadLayout, opCommitLayout, opWithdraw, opQueryItem, opListZone, opPurge,
        opReroute, opHaltZone, opResumeZone, opDisableEye, opEnableEye, opTestDiverter,
        opDisableDiverter, opEnableDiverter, opClearDiverterFault, diverterRequest]
      split
      · cases h
      · rfl

/-- Settles O24: a KIND without a row, and a body that its row does not match, are refused before anything is
executed. -/
theorem badKindAndBadLengthExecuteNothing : Obligations.BadKindAndBadLengthExecuteNothing := by
  intro s c f hf h
  refine ⟨fun hk => ?_, fun hk hb => ?_⟩
  · rw [Takes, Leads, exec_request hf]
    exact request_refused f.kind h (runKind_badKind hk f.body _)
  · rw [Takes, Leads, exec_request hf]
    exact request_refused f.kind h (runKind_badLength hk hb _)

end Sys2Proof.Machine
end

section
/-! PROOFS. SET_LINK and REPORT_ACK: `SetLinkReplacesAllSettingsOrNone` (R160, R177) and
`ReportAckRemovesWhatItCovers` (R173, R174). -/

namespace Sys2Proof.Machine

set_option Elab.async false

/-! ### SET_LINK (R160, R177) -/

/-- R160: the state that a fresh request leaves has the settings and the link timer of its operation. -/
theorem request_settings {kind seq : Byte} {op : State → State × Answer} {s t : State}
    (h : FreshRequest s seq) (ht : request kind seq op s = .next t) :
    t.link.settings = (op s.rest.supervise).1.link.settings ∧
      t.link.linkTimer = (op s.rest.supervise).1.link.linkTimer := by
  have fresh := request_fresh kind seq op s h
  rw [ht] at fresh
  generalize op s.rest.supervise = r at fresh ⊢
  have link : r.1.settleZones.link = r.1.link := by rw [settleZones_frame]
  generalize r.1.settleZones = v at fresh link
  cases fresh
  rw [chooseFrame_frame, ← link]
  exact ⟨rfl, rfl⟩

theorem linkSettings_inRange_iff (l : LinkSettings) : l.inRange = true ↔
    (1 ≤ l.sendWindow ∧ l.sendWindow ≤ 8) ∧ (20 ≤ l.resendTime ∧ l.resendTime ≤ 2000) ∧
      (l.linkTimeout = 0 ∨ 100 ≤ l.linkTimeout ∧ l.linkTimeout ≤ 60000) := by
  simp [LinkSettings.inRange, and_assoc]

theorem map_unsend_unsent {rest : List Entry} (h : ∀ e ∈ rest, e.outstanding = false) :
    rest.map Entry.unsend = rest := by
  refine (List.map_congr_left fun e he => ?_).trans (List.map_id rest)
  rw [Entry.unsend, ← h e he]
  rfl

theorem applySettings_eq {q : ReportQueue} {sent rest : List Entry} (h : q.Parts sent rest)
    (l : LinkSettings) : q.applySettings l =
      { q with
        entries := q.entries.take (min q.outstanding l.sendWindow) ++
          (q.entries.drop (min q.outstanding l.sendWindow)).map Entry.unsend
        outstanding := min q.outstanding l.sendWindow
        resendTimer := if q.resendTimer.isSome then some ⟨l.resendTime, 0⟩ else none } := by
  have kept : min sent.length l.sendWindow ≤ sent.length := Nat.min_le_left _ _
  have takes : sent.take (min sent.length l.sendWindow) = sent.take l.sendWindow := by
    rw [List.take_eq_take_iff, Nat.min_assoc, Nat.min_comm l.sendWindow, ← Nat.min_assoc,
      Nat.min_self, Nat.min_comm]
  have drops : sent.drop (min sent.length l.sendWindow) = sent.drop l.sendWindow := by
    rcases Nat.le_total sent.length l.sendWindow with hw | hw
    · rw [Nat.min_eq_left hw, List.drop_length, List.drop_of_length_le hw]
    · rw [Nat.min_eq_right hw]
  unfold ReportQueue.applySettings
  rw [h.entries, limitOutstanding_append _ h.sent h.rest, ← h.count,
    List.take_append_of_le_length kept, takes, List.drop_append_of_le_length kept, drops,
    List.map_append, map_unsend_unsent h.rest]
  rfl

/-- Settles O26: settings in range are applied to the queue and the link together; others are refused with the
settings in force. -/
theorem setLinkReplacesAllSettingsOrNone : Obligations.SetLinkReplacesAllSettingsOrNone := by
  intro s seq w r0 r1 t0 t1 hf hq resend timeout accepted kept narrowed
  have inRange : LinkSettings.inRange ⟨w.toNat, resend, timeout⟩ = true ↔ accepted :=
    linkSettings_inRange_iff _
  refine ⟨fun ha => ?_, fun ha => ?_⟩
  · have op : opSetLink [w, r0, r1, t0, t1] s.rest.supervise =
        (s.rest.supervise.applyLinkSettings ⟨w.toNat, resend, timeout⟩,
          .fixed [0x00#8, w, r0, r1, t0, t1]) := by
      unfold opSetLink
      dsimp only
      refine (if_pos (inRange.2 ha)).trans ?_
      rw [answer, LinkSettings.bytes, bytes2_le16, bytes2_le16, byteOf, BitVec.ofNat_toNat,
        BitVec.setWidth_eq]
      rfl
    obtain ⟨sent, rest, parts⟩ := ((reportQueueLaws_iff s).1 hq).parts
    have queue : s.reports.applySettings ⟨w.toNat, resend, timeout⟩ = narrowed :=
      applySettings_eq parts _
    obtain ⟨t, next, brings, cache⟩ := request_takes 0x03#8 seq _ s { s with reports := narrowed } _
      [] _ hf op (by rw [← queue]; rfl) (supervised_reasons s) fun _ => rfl
    obtain ⟨settings, timer⟩ := request_settings hf next
    rw [op] at settings timer
    exact ⟨t, next, brings, cache, settings, timer⟩
  · have op : opSetLink [w, r0, r1, t0, t1] s.rest.supervise = (s.rest.supervise,
        .fixed (0x03#8 :: s.link.settings.bytes)) := if_neg (mt inRange.1 ha)
    obtain ⟨t, next, brings, cache⟩ := request_unchanged 0x03#8 hf op
    obtain ⟨settings, -⟩ := request_settings hf next
    rw [op] at settings
    exact ⟨t, next, brings, settings, cache⟩

/-! ### REPORT_ACK (R173, R174) -/

/-- R165: the number of the `k`-th entry behind one, 0 skipped. -/
theorem numberedTo_getElem {next : Nat} {e : Entry} {es : List Entry}
    (h : numberedTo next (e :: es) = true) (he : 1 ≤ e.number ∧ e.number ≤ 65535) {k : Nat} {f : Entry}
    (hk : (e :: es)[k]? = some f) : f.number = (e.number - 1 + k) % 65535 + 1 := by
  induction es generalizing e k with
  | nil =>
    cases k with
    | zero => cases hk; omega
    | succ k => cases hk
  | cons d es ih =>
    cases k with
    | zero => cases hk; omega
    | succ k =>
      obtain ⟨hd, rest⟩ := Bool.and_eq_true_iff.1 h
      rw [beq_iff_eq] at hd
      have := ih rest (hd ▸ numberAfter_range he.2) hk
      unfold numberAfter at hd
      split at hd <;> omega

/-- R165: no two entries of the queue bear one number. -/
theorem number_ne_of_numbered {q : ReportQueue} {gone rest : List Entry} {named : Entry}
    (h : q.Numbered) (hq : q.entries = gone ++ named :: rest) :
    ∀ e ∈ gone, e.number ≠ named.number := by
  intro e he same
  obtain ⟨before, after, rfl⟩ := List.append_of_mem he
  have entry := h.entry e (by simp [hq])
  have room := h.room
  have suffix : e :: (after ++ named :: rest) <:+ q.entries := ⟨before, by simp [hq]⟩
  have number := numberedTo_getElem (numberedTo_of_suffix suffix h.consecutive)
    ⟨entry.1, entry.2.1⟩ (k := after.length + 1) (f := named) (by simp)
  have short : after.length + 1 < 65535 := by
    simp only [hq, List.length_append, List.length_cons, Config.reportCapacity] at room
    omega
  omega

theorem dropThrough_named {gone rest : List Entry} {named : Entry}
    (h : ∀ e ∈ gone, e.number ≠ named.number) :
    dropThrough named.number (gone ++ named :: rest) = rest := by
  induction gone with
  | nil => exact if_pos rfl
  | cons e gone ih =>
    obtain ⟨he, hg⟩ := List.forall_mem_cons.1 h
    exact (if_neg he).trans (ih hg)

/-- R174: the number before one, 0 skipped. -/
def numberBefore (m : Nat) : Nat := if m = 1 then 65535 else m - 1

theorem iterate_numberBefore {m k : Nat} (hm : 1 ≤ m ∧ m ≤ 65535) (hk : k ≤ 65534) :
    numberBefore^[k] m = if k < m then m - k else m + 65535 - k := by
  induction k with
  | zero => simp [show 0 < m by omega]
  | succ k ih =>
    rw [Function.iterate_succ_apply', ih (by omega), numberBefore]
    split_ifs <;> omega

/-- R174: the 64 numbers before the oldest. -/
theorem isStale_iff {q : ReportQueue} {n : Nat} (hn : n ≤ 65535)
    (ho : 1 ≤ q.oldestNumber ∧ q.oldestNumber ≤ 65535) : q.isStale n = true ↔
      ∃ k : Fin 64, n = numberBefore^[k.val + 1] q.oldestNumber := by
  have closed (k : Fin 64) : numberBefore^[k.val + 1] q.oldestNumber = if k.val + 1 < q.oldestNumber
      then q.oldestNumber - (k.val + 1) else q.oldestNumber + 65535 - (k.val + 1) :=
    iterate_numberBefore ho (by omega)
  simp only [ReportQueue.isStale, Bool.and_eq_true, decide_eq_true_eq, closed]
  constructor
  · rintro ⟨⟨positive, first⟩, last⟩
    refine ⟨⟨(q.oldestNumber + 65535 - n) % 65535 - 1, by omega⟩, ?_⟩
    dsimp only
    split_ifs <;> omega
  · rintro ⟨k, rfl⟩
    split_ifs <;> omega

theorem ReportQueue.Numbered.oldest {q : ReportQueue} (h : q.Numbered) :
    1 ≤ q.oldestNumber ∧ q.oldestNumber ≤ 65535 := by
  unfold ReportQueue.oldestNumber
  cases he : q.entries with
  | nil => exact h.next
  | cons e es =>
    have entry := h.entry e (by simp [he])
    exact ⟨entry.1, entry.2.1⟩

/-- R174: the reply as the statement prints it. -/
theorem ackBody_eq (t : State) (r : ResultCode) (n0 n1 : Byte) (removed : Nat) :
    t.ackBody r (le16 n0 n1) removed = [r.code, n0, n1, BitVec.ofNat 8 removed] ++
      (sent2 ((t.reports.entries.head?.map Entry.number).getD 0) ++
        [BitVec.ofNat 8 t.reports.entries.length, BitVec.ofNat 8 t.reports.outstanding]) := by
  rw [State.ackBody, bytes2_le16]
  simp only [List.cons_append, List.nil_append]
  rfl

/-- Settles O27: the numbers of the queue are distinct, so the entry named is the one that the acknowledgement
finds, and the entries up to it are those removed; the stale numbers are the 64 before the oldest. -/
theorem reportAckRemovesWhatItCovers : Obligations.ReportAckRemovesWhatItCovers := by
  intro s seq n0 n1 gone rest named hf hq n oldest before stale shown
  have orderly := (reportQueueLaws_iff s).1 hq
  refine ⟨fun entries number marked => ?_, fun unknown => ?_⟩
  · obtain ⟨sent, unsent, parts⟩ := orderly.parts
    have left : dropThrough n s.reports.entries = rest := by
      rw [entries, ← number]
      exact dropThrough_named (number_ne_of_numbered orderly.numbered entries)
    have removed : s.reports.removedBy n = gone.length + 1 := by
      rw [ReportQueue.removedBy, left, entries]
      simp
      omega
    have covered : gone.length + 1 ≤ s.reports.outstanding := by
      by_contra fewer
      have beyond : named ∈ s.reports.entries.drop s.reports.outstanding := by
        rw [entries, List.drop_append_of_le_length (by omega)]
        simp
      rw [parts.entries, ← parts.count, List.drop_left] at beyond
      exact absurd (marked.symm.trans (parts.rest named beyond)) nofun
    have found : s.rest.supervise.reports.isOutstanding n = true :=
      List.any_eq_true.2 ⟨named, by show named ∈ s.reports.entries; simp [entries], by simp [marked, number]⟩
    have queue : s.reports.acknowledge n s.link.settings.resendTime =
        { s.reports with
          entries := rest
          outstanding := s.reports.outstanding - (gone.length + 1)
          resendTimer := if s.reports.outstanding = gone.length + 1 then none
            else some ⟨s.link.settings.resendTime, 0⟩ } := by
      have timer : s.reports.outstanding - (gone.length + 1) = 0 ↔
          s.reports.outstanding = gone.length + 1 := by omega
      simp only [ReportQueue.acknowledge, left, removed, timer]
      rfl
    have op : opReportAck [n0, n1] s.rest.supervise = ({ s.rest.supervise with
        reports := s.reports.acknowledge n s.link.settings.resendTime },
          .ack .ok n (gone.length + 1)) := by
      rw [← removed]
      exact if_pos found
    rw [queue] at op
    obtain ⟨t, next, brings, cache, -⟩ := request_answers 0x04#8 seq _ s
      { s with reports := { s.reports with
        entries := rest
        outstanding := s.reports.outstanding - (gone.length + 1)
        resendTimer := if s.reports.outstanding = gone.length + 1 then none
          else some ⟨s.link.settings.resendTime, 0⟩ } } _ [] _ hf op rfl (supervised_reasons s) fun _ => rfl
    refine ⟨t, next, brings, cache.trans ?_⟩
    rw [State.answerBody, show n = le16 n0 n1 from rfl, ackBody_eq]
    rfl
  · have missing : ¬ s.rest.supervise.reports.isOutstanding n = true := by
      simpa [ReportQueue.isOutstanding] using unknown
    have stale_iff : s.rest.supervise.reports.isStale n = true ↔ stale :=
      isStale_iff (le16_le n0 n1) orderly.numbered.oldest
    have replies (r : ResultCode) (op : opReportAck [n0, n1] s.rest.supervise =
        (s.rest.supervise, .ack r n 0)) : ∃ t, request 0x04#8 seq (opReportAck [n0, n1]) s = .next t ∧
          Brings s s t [] ∧ t.link.cache = some ⟨0x84#8, seq, [r.code, n0, n1, 0#8] ++ shown t⟩ := by
      obtain ⟨t, next, brings, cache, -⟩ := request_answers 0x04#8 seq _ s s _ [] _ hf op rfl
        (supervised_reasons s) fun _ => rfl
      refine ⟨t, next, brings, cache.trans ?_⟩
      rw [State.answerBody, show n = le16 n0 n1 from rfl, ackBody_eq]
      rfl
    by_cases hs : stale
    · obtain ⟨t, next, brings, cache⟩ := replies .ok
        ((if_neg missing).trans (if_pos (stale_iff.2 hs)))
      exact ⟨t, next, brings, fun _ => cache, fun h => absurd hs h⟩
    · obtain ⟨t, next, brings, cache⟩ := replies .badAck
        ((if_neg missing).trans (if_neg (mt stale_iff.1 hs)))
      exact ⟨t, next, brings, fun h => absurd h hs, fun _ => cache⟩

end Sys2Proof.Machine
end

section
/-! PROOFS. The requests that release a record, hold a zone and put a diverter to work:
`PurgeReleasesATrackedItem` (R34, R40), `HaltAndResumeHoldAndFreeAZone` (R19, R20) and
`DivertersAreTestedEnabledAndCleared` (R119 to R123). -/

namespace Sys2Proof.Machine

set_option Elab.async false

/-! ### PURGE (R40) -/

/-- R34, R154: a release after a frame's signs of life is the release before them, but for LINK. -/
theorem supervised_without (s : State) (tag : Nat) (z : ZoneId) :
    { (s.rest.supervise.without tag).zones[z] with
      reasons := { (s.rest.supervise.without tag).zones[z].reasons with
        link := (s.without tag).zones[z].reasons.link } } = (s.without tag).zones[z] := by
  simp only [State.without, Fin.getElem_fin, Vector.getElem_ofFn]
  simp only [← Fin.getElem_fin, supervised_zone]
  split <;> rfl

section

variable {s : State} {t0 t1 : Byte} {i : Item}

theorem opPurge_tracked (h : s.findItem (le16 t0 t1) = some i) (hi : i.state = .tracked) :
    opPurge [t0, t1] s = (s.without i.tag, .fixed (0x00#8 :: sentItem i (s.position i))) := by
  unfold opPurge
  simp only [h]
  rw [if_neg (by rw [hi]; decide), release_eq_without, item_bytes]
  rfl

theorem opPurge_diverting (h : s.findItem (le16 t0 t1) = some i) (hi : i.state = .diverting) :
    opPurge [t0, t1] s = refuse .tooLate s := by
  unfold opPurge
  simp only [h]
  exact if_pos hi

theorem opPurge_unknown (h : s.findItem (le16 t0 t1) = none) :
    opPurge [t0, t1] s = refuse .unknownTag s := by
  unfold opPurge
  simp only [h]

end

/-- Settles O42: the tag's record is the one that carries it (R28), and its release is the state without the
tag. -/
theorem purgeReleasesATrackedItem : Obligations.PurgeReleasesATrackedItem := by
  intro s seq t0 t1 hf hr tag purge
  have pool : PoolLaws s := ((recordLaws_iff s).1 hr).booked.pool
  have found {i : Item} (hi : i ∈ s.lineItems) (ht : i.tag = tag) :
      s.rest.supervise.findItem (le16 t0 t1) = some i := by
    rw [supervised_findItem, ← pool.findItem_of_mem hi, ht]
    rfl
  refine ⟨fun i hi ht hs => ?_, fun i hi ht hs => ?_, fun h => ?_⟩
  · have op := opPurge_tracked (found hi ht) hs
    rw [ht, supervised_position] at op
    exact request_takes 0x24#8 seq _ s (s.without tag) _ [] _ hf op rfl (supervised_without s tag)
      fun z => by simp [State.without]
  · exact request_refused 0x24#8 hf (opPurge_diverting (found hi ht) hs)
  · refine request_refused 0x24#8 hf (opPurge_unknown ?_)
    rw [supervised_findItem]
    exact findItem_eq_none.2 fun hm => by
      obtain ⟨i, hi, ht⟩ := List.mem_map.1 hm
      exact h i hi ht

/-! ### HALT_ZONE (R19) -/

theorem deriveDownstream_zone (s : State) (z : ZoneId) : s.deriveDownstream.zones[z] =
    { s.zones[z] with reasons := { s.zones[z].reasons with downstream := s.heldDownstream z } } := by
  simp [State.deriveDownstream]

theorem deriveDownstream_frame (s : State) :
    s.deriveDownstream = { s with zones := s.deriveDownstream.zones } := rfl

/-- R16: DOWNSTREAM is derived from JAM and HOST alone. -/
theorem deriveDownstream_heldDownstream (s : State) (z : ZoneId) :
    s.deriveDownstream.heldDownstream z = s.heldDownstream z := by
  unfold State.heldDownstream
  simp only [deriveDownstream_zone]
  rfl

/-- R16: the settling derives DOWNSTREAM once more. -/
theorem settleZones_deriveDownstream (s : State) : s.deriveDownstream.settleZones = s.settleZones := by
  have zone (z : ZoneId) :
      s.deriveDownstream.deriveDownstream.zones[z] = s.deriveDownstream.zones[z] := by
    rw [deriveDownstream_zone s.deriveDownstream, deriveDownstream_heldDownstream,
      deriveDownstream_zone]
  have zones : s.deriveDownstream.deriveDownstream.zones = s.deriveDownstream.zones :=
    Vector.ext fun i hi => zone ⟨i, hi⟩
  have again : s.deriveDownstream.deriveDownstream = s.deriveDownstream :=
    (deriveDownstream_frame _).trans (by rw [zones])
  unfold State.settleZones
  rw [again]

/-- R154: the zones that a fresh request leaves are those of its operation, settled. -/
theorem request_zone {kind seq : Byte} {op : State → State × Answer} {s t : State}
    (h : FreshRequest s seq) (ht : request kind seq op s = .next t) (z : ZoneId) :
    t.zones[z] = (op s.rest.supervise).1.settledZone z := by
  have fresh := request_fresh kind seq op s h
  rw [ht] at fresh
  generalize op s.rest.supervise = r at fresh ⊢
  have zone : r.1.settleZones.zones[z] = r.1.settledZone z := by
    rw [settleZones_eq]
    simp
  generalize r.1.settleZones = v at fresh zone
  cases fresh
  rw [chooseFrame_frame, ← zone]
  rfl

section

variable {s : State} {b : Byte} {z : ZoneId}

theorem opHaltZone_unconfigured (hm : s.module = .unconfigured) :
    opHaltZone [b] s = refuse .wrongState s := if_pos hm

theorem opResumeZone_unconfigured (hm : s.module = .unconfigured) :
    opResumeZone [b] s = refuse .wrongState s := if_pos hm

theorem opHaltZone_unnamed (hm : s.module ≠ .unconfigured) (hn : s.namedZone b = none) :
    opHaltZone [b] s = refuse .badField s := by
  unfold opHaltZone
  dsimp only
  rw [if_neg hm, hn]

theorem opResumeZone_unnamed (hm : s.module ≠ .unconfigured) (hn : s.namedZone b = none) :
    opResumeZone [b] s = refuse .badField s := by
  unfold opResumeZone
  dsimp only
  rw [if_neg hm, hn]

theorem opHaltZone_named (hm : s.module ≠ .unconfigured) (hn : s.namedZone b = some z) :
    opHaltZone [b] s = ((s.setHost z true).deriveDownstream,
      .fixed [0x00#8, sentReasons ((s.setHost z true).settledZone z).reasons]) := by
  unfold opHaltZone
  dsimp only
  rw [if_neg hm, hn]
  dsimp only
  rw [reasonsByte_eq, deriveDownstream_zone]
  rfl

theorem opResumeZone_named (hm : s.module ≠ .unconfigured) (hn : s.namedZone b = some z) :
    opResumeZone [b] s =
      (s.resume z, .fixed [0x00#8, BitVec.ofNat 8 (s.eyesIn z .jammed).length]) := by
  unfold opResumeZone
  dsimp only
  rw [if_neg hm, hn]
  rfl

end

theorem setHost_zone (s : State) (z y : ZoneId) (held : Bool) : (s.setHost z held).zones[y] =
    { s.zones[y] with reasons :=
      if z = y then { s.zones[y].reasons with host := held } else s.zones[y].reasons } :=
  modifyReasons_zone s z y fun r => { r with host := held }

/-- R19, R154: a fresh HALT_ZONE of a zone that its byte names. -/
theorem haltZone_takes {s : State} {seq b : Byte} {z : ZoneId} (hf : FreshRequest s seq)
    (hm : s.module ≠ .unconfigured) (hn : s.namedZone b = some z) :
    Leads (.haltZone seq [b]) s fun t => Brings s (s.setHost z true) t [] ∧
      t.link.cache = some ⟨0xA8#8, seq, [0x00#8, sentReasons t.zones[z].reasons]⟩ := by
  have op := opHaltZone_named (s := s.rest.supervise) hm hn
  generalize hb : sentReasons ((s.rest.supervise.setHost z true).settledZone z).reasons = byte at op
  let held : State → State × Answer := fun t => (t.setHost z true, .fixed [0x00#8, byte])
  have same : request 0x28#8 seq (opHaltZone [b]) s = request 0x28#8 seq held s := by
    rw [request_fresh _ _ _ _ hf, request_fresh _ _ _ _ hf, op]
    dsimp only [held]
    rw [settleZones_deriveDownstream]
  obtain ⟨t, next, brings, cache⟩ := request_takes 0x28#8 seq held s (s.setHost z true)
    (s.rest.supervise.setHost z true) [] _ hf rfl rfl (fun y => by
      rw [setHost_zone, setHost_zone, supervised_zone]
      split <;> split <;> rfl)
    fun y => by rw [setHost_zone]
  refine ⟨t, same.trans next, brings, cache.trans ?_⟩
  rw [request_zone hf next, hb]
  rfl

/-! ### RESUME_ZONE (R20) -/

/-- R20: the eyes with those of a list cleared. -/
def clearedEyes (eyes : Vector Eye 12) (es : List EyeId) : Vector Eye 12 :=
  Vector.ofFn fun e => if e ∈ es then ⟨.clear, 0⟩ else eyes[e]

theorem clearedEyes_cons (eyes : Vector Eye 12) (e : EyeId) (es : List EyeId) :
    clearedEyes (eyes.set e ⟨.clear, 0⟩) es = clearedEyes eyes (e :: es) := by
  ext i hi : 1
  simp only [clearedEyes, Vector.getElem_ofFn, getElem_set_fin, List.mem_cons]
  by_cases he : e = ⟨i, hi⟩
  · simp [he]
  · simp [he, Ne.symm he]

/-- R20 step 2: the JAM_HELD eyes cleared one by one, with a JAM report each. -/
theorem foldl_clearHeld (z : ZoneId) (es : List EyeId) (s : State) :
    es.foldl (State.clearHeld z) s =
      ({ s with eyes := clearedEyes s.eyes es } : State).postAll (es.map fun e => .jam e z false) := by
  induction es generalizing s with
  | nil =>
    have same : clearedEyes s.eyes [] = s.eyes := by
      ext i hi : 1
      simp [clearedEyes]
    rw [List.foldl_nil, same]
    rfl
  | cons e es ih =>
    rw [List.foldl_cons, ih, ← clearedEyes_cons]
    rfl

/-- R15: JAM is withdrawn by what the eyes are, whatever is posted. -/
theorem withdrawJam_postAll (s : State) (z : ZoneId) (rs : List Report) :
    (s.postAll rs).withdrawJam z = (s.withdrawJam z).postAll rs := by
  rw [show (s.withdrawJam z).postAll rs = { s.postAll rs with zones := (s.withdrawJam z).zones } from
    postAll_withZones rs s _, postAll_frame]
  rfl

/-- R20: what RESUME_ZONE does to a zone and its eyes. -/
def State.resumed (s : State) (z : ZoneId) : State :=
  State.withdrawJam z { s.setHost z false with eyes := clearedEyes s.eyes (s.eyesIn z .jamHeld) }

theorem resume_eq (s : State) (z : ZoneId) : s.resume z =
    (s.resumed z).postAll ((s.eyesIn z .jamHeld).map fun e => .jam e z false) := by
  unfold State.resume
  rw [foldl_clearHeld, withdrawJam_postAll]
  rfl

theorem mem_eyesIn (s : State) (z : ZoneId) (x : EyeState) (e : EyeId) : e ∈ s.eyesIn z x ↔
    s.eyes[e].state = x ∧ (s.activeLayout.eyes[e].any fun d => d.zone = z) = true := by
  simp only [State.eyesIn, List.mem_filter, Bool.and_eq_true, decide_eq_true_eq]
  exact and_iff_right (List.mem_finRange e)

theorem holdsJam_iff (x : EyeState) : x.holdsJam = true ↔ x = .jammed ∨ x = .jamHeld := by
  cases x <;> simp [EyeState.holdsJam]

/-- R15, R20: with its JAM_HELD eyes cleared, a zone is jammed by its JAMMED ones. -/
theorem resumed_jam (s : State) (z : ZoneId) :
    (allEyes.any fun e => (clearedEyes s.eyes (s.eyesIn z .jamHeld))[e].state.holdsJam &&
      s.activeLayout.eyes[e].any fun d => d.zone = z) = !(s.eyesIn z .jammed).isEmpty := by
  rw [Bool.eq_iff_iff, List.any_eq_true, Bool.not_eq_true', List.isEmpty_eq_false_iff_exists_mem]
  refine exists_congr fun e => (and_iff_right (List.mem_finRange e)).trans ?_
  rw [mem_eyesIn, Bool.and_eq_true]
  refine and_congr_left fun hz => ?_
  simp only [clearedEyes, Fin.getElem_fin, Vector.getElem_ofFn]
  simp only [← Fin.getElem_fin, mem_eyesIn, hz, and_true]
  split
  · next held =>
    exact iff_of_false (by simp [EyeState.holdsJam]) fun h => nomatch held.symm.trans h
  · next held => rw [holdsJam_iff, or_iff_left held]

theorem resumed_zone (s : State) (z y : ZoneId) : (s.resumed z).zones[y] =
    if z = y then { s.zones[y] with reasons := { s.zones[y].reasons with
      host := false, jam := s.zones[y].reasons.jam && !(s.eyesIn z .jammed).isEmpty } }
    else s.zones[y] := by
  unfold State.resumed State.withdrawJam
  rw [modifyReasons_zone]
  dsimp only
  rw [setHost_zone]
  by_cases h : z = y
  · rw [if_pos h, if_pos h, if_pos h, ← resumed_jam]
    rfl
  · rw [if_neg h, if_neg h, if_neg h]

/-- R154: RESUME_ZONE after a frame's signs of life does the same as before them, but for LINK. -/
theorem supervised_resumed (s : State) (z y : ZoneId) :
    { (s.rest.supervise.resumed z).zones[y] with
      reasons := { (s.rest.supervise.resumed z).zones[y].reasons with
        link := (s.resumed z).zones[y].reasons.link } } = (s.resumed z).zones[y] := by
  rw [resumed_zone, resumed_zone, supervised_zone]
  split <;> split <;> rfl

theorem resumeZone_takes {s : State} {seq b : Byte} {z : ZoneId} (hf : FreshRequest s seq)
    (hm : s.module ≠ .unconfigured) (hn : s.namedZone b = some z) :
    Takes (.resumeZone seq [b]) s (s.resumed z)
      ((s.eyesIn z .jamHeld).map fun e => .jam e z false)
      ⟨0xA9#8, seq, [0x00#8, BitVec.ofNat 8 (s.eyesIn z .jammed).length]⟩ := by
  have op := opResumeZone_named (s := s.rest.supervise) hm hn
  rw [resume_eq] at op
  exact request_takes 0x29#8 seq _ s (s.resumed z) _ _ _ hf op rfl (supervised_resumed s z)
    fun y => by rw [resumed_zone]; split <;> rfl

/-- A vector with one place written, place by place. -/
theorem set_eq_ofFn {α : Type} {n : Nat} (v w : Vector α n) (i : Fin n) (x : α)
    (h : ∀ j : Fin n, w[j] = if i = j then x else v[j]) : w = v.set i x := by
  ext j hj : 1
  exact (h ⟨j, hj⟩).trans (getElem_set_fin v i ⟨j, hj⟩ x).symm

/-- Settles O45: HOST is written in the zone named, and JAM follows the eyes that are left JAMMED in it. -/
theorem haltAndResumeHoldAndFreeAZone : Obligations.HaltAndResumeHoldAndFreeAZone := by
  intro s seq b hf refused
  refine ⟨fun hm => ⟨?_, ?_⟩, fun hm hz => ⟨?_, ?_⟩, fun z hm hb hd => ?_⟩
  · exact request_refused 0x28#8 hf (opHaltZone_unconfigured hm)
  · exact request_refused 0x29#8 hf (opResumeZone_unconfigured hm)
  · exact request_refused 0x28#8 hf (opHaltZone_unnamed hm (namedZone_of_undefined hz))
  · exact request_refused 0x29#8 hf (opResumeZone_unnamed hm (namedZone_of_undefined hz))
  · intro here withReasons
    refine ⟨?_, ?_⟩
    · have halted : s.setHost z true =
          { s with zones := withReasons { s.zones[z].reasons with host := true } } := rfl
      exact halted ▸ haltZone_takes hf hm (namedZone_of_defined hb hd)
    have eyesIn (x : EyeState) : s.eyesIn z x = here x :=
      List.filter_congr fun e _ => by simp [beq_eq_decide]
    have resumed : s.resumed z = { s with
        zones := withReasons { s.zones[z].reasons with
          host := false, jam := s.zones[z].reasons.jam && !(here .jammed).isEmpty }
        eyes := clearedEyes s.eyes (here .jamHeld) } := by
      have zones := set_eq_ofFn s.zones (s.resumed z).zones z { s.zones[z] with
        reasons := { s.zones[z].reasons with
          host := false, jam := s.zones[z].reasons.jam && !(here .jammed).isEmpty } } fun y => by
        rw [resumed_zone, eyesIn]
        split
        · next h =>
          subst h
          rfl
        · rfl
      rw [show s.resumed z = { s with
        zones := (s.resumed z).zones, eyes := clearedEyes s.eyes (s.eyesIn z .jamHeld) } from rfl,
        zones, eyesIn]
    have takes := resumeZone_takes hf hm (namedZone_of_defined hb hd)
    rw [resumed, eyesIn, eyesIn] at takes
    exact takes

/-! ### The diverter requests (R119 to R123) -/

theorem diverterStateCode_eq (x : DiverterState) : x.code = sentDiverterState x := by cases x <;> rfl

theorem namedDiverter_of_number (s : State) {b : Byte} {d : DiverterId} (hd : b.toNat = d.val) :
    s.namedDiverter b = (some d).filter fun d => s.activeLayout.diverters[d].isSome := by
  simp [State.namedDiverter, numberBelow, hd]

theorem namedDiverter_of_defined {s : State} {b : Byte} {d : DiverterId} (hd : b.toNat = d.val)
    (hv : s.activeLayout.diverters[d].isSome = true) : s.namedDiverter b = some d := by
  rw [namedDiverter_of_number s hd, Option.filter_some, if_pos hv]

theorem namedDiverter_of_undefined {s : State} {b : Byte}
    (h : 16 ≤ b.toNat ∨ ∃ d : DiverterId, b.toNat = d.val ∧ s.activeLayout.diverters[d] = none) :
    s.namedDiverter b = none := by
  rcases h with h | ⟨d, hd, hv⟩
  · simp [State.namedDiverter, numberBelow, Nat.not_lt.2 h]
  · rw [namedDiverter_of_number s hd, Option.filter_some, if_neg (by rw [hv]; decide)]

section

variable {allowed : State → DiverterId → Bool} {effect : DiverterId → State → State} {s : State}
  {b : Byte} {d : DiverterId}

theorem diverterRequest_unconfigured (hm : s.module = .unconfigured) :
    diverterRequest allowed effect [b] s = refuse .wrongState s := if_pos hm

theorem diverterRequest_unnamed (hm : s.module ≠ .unconfigured) (hn : s.namedDiverter b = none) :
    diverterRequest allowed effect [b] s = refuse .badField s := by
  unfold diverterRequest
  dsimp only
  rw [if_neg hm, hn]

theorem diverterRequest_allowed (hm : s.module ≠ .unconfigured) (hn : s.namedDiverter b = some d)
    (ha : allowed s d = true) : diverterRequest allowed effect [b] s =
      (effect d s, .fixed [0x00#8, sentDiverterState (effect d s).diverters[d].state]) := by
  unfold diverterRequest
  dsimp only
  rw [if_neg hm, hn, ← diverterStateCode_eq]
  exact if_pos ha

theorem diverterRequest_refused (hm : s.module ≠ .unconfigured) (hn : s.namedDiverter b = some d)
    (ha : ¬ allowed s d = true) : diverterRequest allowed effect [b] s =
      (s, .fixed [0x04#8, sentDiverterState s.diverters[d].state]) := by
  unfold diverterRequest
  dsimp only
  rw [if_neg hm, hn, ← diverterStateCode_eq]
  exact if_neg ha

end

/-- R154: a fresh request whose effect is one diverter's unit and the reports `rs`. -/
theorem request_writesDiverter (kind : Byte) {seq : Byte} {op : State → State × Answer} {s : State}
    {d : DiverterId} {u : Diverter} {rs : List Report} {body : List Byte} (h : FreshRequest s seq)
    (he : op s.rest.supervise = ((s.rest.supervise.modifyDiverter d fun _ => u).postAll rs,
      .fixed body)) :
    ∃ t, request kind seq op s = .next t ∧
      Brings s { s with diverters := s.diverters.set d u } t rs ∧
      t.link.cache = some ⟨replyKind kind, seq, body⟩ :=
  request_takes kind seq op s _ _ rs body h he rfl (supervised_reasons s) fun _ => rfl

/-- R154, R119: a request to a named diverter whose effect is that diverter's unit and the reports `rs`. -/
theorem diverterRequest_takes (kind : Byte) {allowed : State → DiverterId → Bool}
    {effect : DiverterId → State → State} {s : State} {seq b : Byte} {d : DiverterId} {u : Diverter}
    {rs : List Report} (hf : FreshRequest s seq) (hm : s.module ≠ .unconfigured)
    (hn : s.namedDiverter b = some d) (ha : allowed s.rest.supervise d = true)
    (he : effect d s.rest.supervise = (s.rest.supervise.modifyDiverter d fun _ => u).postAll rs) :
    ∃ t, request kind seq (diverterRequest allowed effect [b]) s = .next t ∧
      Brings s { s with diverters := s.diverters.set d u } t rs ∧
      t.link.cache = some ⟨replyKind kind, seq, [0x00#8, sentDiverterState u.state]⟩ := by
  refine request_writesDiverter kind hf ?_
  rw [diverterRequest_allowed (s := s.rest.supervise) hm hn ha, he]
  congr 3
  rw [postAll_frame]
  simp

theorem enterSettling_home {s : State} {d : DiverterId} (h : s.inputs.homes[d] = true) :
    s.enterSettling d = (s.modifyDiverter d fun _ => ⟨.idle, none, none, false⟩).post
      (.diverterChange d .idle .homed) := if_pos h

theorem diverterTimer_eq {s : State} {d : DiverterId} {v : DiverterDef}
    (hv : s.activeLayout.diverters[d] = some v) (value : DiverterDef → Nat) :
    s.diverterTimer d value = some ⟨value v, 0⟩ := by
  rw [State.diverterTimer, hv]
  rfl

theorem enterSettling_away {s : State} {d : DiverterId} {v : DiverterDef}
    (hv : s.activeLayout.diverters[d] = some v) (h : s.inputs.homes[d] = false) :
    s.enterSettling d =
      s.modifyDiverter d fun _ => ⟨.settling, some ⟨v.returnTimeout, 0⟩, none, false⟩ := by
  rw [← diverterTimer_eq hv DiverterDef.returnTimeout]
  exact if_neg (by simp [h])

theorem mayTest_iff (s : State) (d : DiverterId) : s.mayTest d = true ↔
    s.module = .standby ∧ s.diverters[d].state = .idle ∧ s.inputs.estop = false := by
  simp [State.mayTest, and_assoc]

/-- Settles O47: each request is refused by its checks in order, and its effect is one unit written and at
most one report. -/
theorem divertersAreTestedEnabledAndCleared : Obligations.DivertersAreTestedEnabledAndCleared := by
  intro s seq b hf requests
  refine ⟨fun hm => ?_, fun hm hd => ?_, fun d v hv hm hb => ?_⟩
  · have refused {kind : Byte} {allowed effect} := request_refused kind hf
      (diverterRequest_unconfigured (allowed := allowed) (effect := effect) (b := b)
        (s := s.rest.supervise) hm)
    simp only [requests, List.forall_mem_cons]
    exact ⟨refused (kind := 0x30#8), refused (kind := 0x31#8), refused (kind := 0x32#8),
      refused (kind := 0x33#8), nofun⟩
  · have refused {kind : Byte} {allowed effect} := request_refused kind hf
      (diverterRequest_unnamed (allowed := allowed) (effect := effect) (b := b)
        (s := s.rest.supervise) hm (namedDiverter_of_undefined hd))
    simp only [requests, List.forall_mem_cons]
    exact ⟨refused (kind := 0x30#8), refused (kind := 0x31#8), refused (kind := 0x32#8),
      refused (kind := 0x33#8), nofun⟩
  · have hn : s.rest.supervise.namedDiverter b = some d :=
      namedDiverter_of_defined hb (Option.isSome_iff_exists.2 ⟨v, hv⟩)
    intro becomes mayTest settling now
    refine ⟨fun ht => ?_, fun ht => ?_, fun hs => ?_, fun hs hh => ?_, fun hs hh => ?_, fun hs => ?_,
      fun hs hh => ?_, fun hs hh => ?_⟩
    · refine diverterRequest_takes 0x30#8 (rs := []) hf hm hn ((mayTest_iff _ d).2 ht) ?_
      unfold State.testStroke
      rw [diverterTimer_eq (s := s.rest.supervise) hv]
      rfl
    · exact request_unchanged 0x30#8 hf (diverterRequest_refused hm hn (mt (mayTest_iff _ d).1 ht))
    · exact request_unchanged 0x32#8 hf (diverterRequest_refused hm hn (fun h => hs (of_decide_eq_true h)))
    · exact diverterRequest_takes 0x32#8 hf hm hn (decide_eq_true hs) (enterSettling_home hh)
    · exact diverterRequest_takes 0x32#8 (rs := []) hf hm hn (decide_eq_true hs)
        (enterSettling_away hv hh)
    · exact request_unchanged 0x33#8 hf (diverterRequest_refused hm hn (fun h => hs (of_decide_eq_true h)))
    · exact diverterRequest_takes 0x33#8 hf hm hn (decide_eq_true hs) (if_pos hh)
    · exact diverterRequest_takes 0x33#8 (rs := []) hf hm hn (decide_eq_true hs)
        ((if_neg (by simpa using hh)).trans (enterSettling_away hv hh))

end Sys2Proof.Machine
end

section
/-! PROOFS. The span at the induction eye, the link's timers and the end of a frame:
`InductionEyeMeasuresASpan` (R47 to R50, R63), `LinkAndResendTimersUnsendTheReports` (R158, R172, R176)
and `FrameEndLetsTheNextFrameBegin` (R161, R162, R170). -/

namespace Sys2Proof.Machine

set_option Elab.async false

/-! ### A settled state (R11, R16) -/

theorem settledZone_of_settled {s : State} (h : Settled s) (z : ZoneId) :
    s.settledZone z = s.zones[z] := by
  obtain ⟨permit, downstream⟩ := h z
  unfold State.settledZone ZoneUnit.settled
  rw [← downstream, ← permit]

theorem settleReports_of_settled {s : State} (h : Settled s) : s.settleReports = [] := by
  have quiet (z : ZoneId) : permitChange z s.deriveDownstream.zones[z] = [] := by
    obtain ⟨permit, downstream⟩ := h z
    rw [deriveDownstream_zone, ← downstream]
    exact if_pos permit
  simp only [State.settleReports, quiet, List.append_nil]

/-- R11, R12: a settled state has nothing to settle and nothing to report. -/
theorem settleZones_of_settled {s : State} (h : Settled s) : s.settleZones = s := by
  rw [settleZones_eq, settleReports_of_settled h]
  simp only [settledZone_of_settled h, postAll_nil]
  congr 1
  ext i hi
  all_goals simp

/-! ### The span (R47 to R50) -/

section

variable {s : State} {e : EyeId} {d : EyeDef}

theorem blockedThrough_eq (sense : EyeSense) (level : Bool) :
    blockedThrough sense level = bif level then sense == .darkOn else !(sense == .darkOn) := by
  cases sense <;> cases level <;> rfl

theorem eyeBlocked_eq (h : s.activeLayout.eyes[e] = some d) :
    s.eyeBlocked e = (s.inputs.eyes[e] == (d.sense == .darkOn)) := by
  unfold State.eyeBlocked
  rw [h]
  generalize s.inputs.eyes[e] = level
  show blockedThrough d.sense level = _
  cases d.sense <;> cases level <;> rfl

theorem setEyeBlocked_eq (h : s.activeLayout.eyes[e] = some d) (blocked : Bool) :
    s.setEyeBlocked e blocked =
      { s with inputs := { s.inputs with
          eyes := s.inputs.eyes.set e
            (bif blocked then d.sense == .darkOn else !(d.sense == .darkOn)) } } := by
  unfold State.setEyeBlocked
  rw [h]
  simp only [blockedThrough_eq]

/-- Table 4-3: the blocked edge at a CLEAR or a JAM_HELD eye. -/
theorem blockedEdge_open (h : s.activeLayout.eyes[e] = some d)
    (ho : s.eyes[e].state = .clear ∨ s.eyes[e].state = .jamHeld) :
    s.blockedEdge e = State.blockedAtItems e d { s with
      inputs := { s.inputs with eyes := s.inputs.eyes.set e (d.sense == .darkOn) }
      eyes := s.eyes.set e ⟨if s.eyes[e].state = .clear then .blocked else .jammed, 0⟩ } := by
  unfold State.blockedEdge
  rw [setEyeBlocked_eq h, h]
  rcases ho with ho | ho <;> rw [ho] <;> rfl

/-- Table 4-3: the unblocked edge at a BLOCKED or a JAMMED eye. -/
theorem unblockedEdge_shut (h : s.activeLayout.eyes[e] = some d)
    (ho : s.eyes[e].state = .blocked ∨ s.eyes[e].state = .jammed) :
    s.unblockedEdge e = State.unblockedAtItems d { s with
      inputs := { s.inputs with eyes := s.inputs.eyes.set e (!(d.sense == .darkOn)) }
      eyes := s.eyes.set e ⟨if s.eyes[e].state = .blocked then .clear else .jamHeld, 0⟩ } := by
  unfold State.unblockedEdge
  rw [setEyeBlocked_eq h, h]
  rcases ho with ho | ho <;> rw [ho] <;> rfl

/-- An edge that the input's level allows is a blocked edge. -/
theorem blockedEdge_happens {u : State} {rs : List Report} (ha : s.resetActive = false)
    (h : s.activeLayout.eyes[e] = some d) (hi : s.inputs.eyes[e] = !(d.sense == .darkOn))
    (he : s.blockedEdge e = u.postAll rs)
    (hz : ∀ z : ZoneId, u.zones[z].permit = s.zones[z].permit) :
    Happens (.blockedEdge e) s u rs :=
  happening_brings s u rs (State.blockedEdge e) (!s.eyeBlocked e) ha
    (by rw [eyeBlocked_eq h, hi]; simp) he hz

theorem unblockedEdge_happens {u : State} {rs : List Report} (ha : s.resetActive = false)
    (h : s.activeLayout.eyes[e] = some d) (hi : s.inputs.eyes[e] = (d.sense == .darkOn))
    (he : s.unblockedEdge e = u.postAll rs)
    (hz : ∀ z : ZoneId, u.zones[z].permit = s.zones[z].permit) :
    Happens (.unblockedEdge e) s u rs :=
  happening_brings s u rs (State.unblockedEdge e) (s.eyeBlocked e) ha
    (by rw [eyeBlocked_eq h, hi]; simp) he hz

end

/-- Settles O54: each edge leads to `beginSpan` or `endSpan`, by the state of the span. -/
theorem inductionEyeMeasuresASpan : Obligations.InductionEyeMeasuresASpan := by
  unfold Obligations.InductionEyeMeasuresASpan
  intro s e d ha hd hr active became opened shut blocked cleared
  refine ⟨fun hi ho hs => ?_, fun hi ho hs => ?_, fun hi ho hs hm => ?_⟩
  · refine blockedEdge_happens ha hd hi ?_ fun _ => rfl
    rw [blockedEdge_open hd ho, State.blockedAtItems, hr]
    exact if_pos hs
  · refine unblockedEdge_happens ha hd hi ?_ fun _ => rfl
    rw [unblockedEdge_shut hd ho, State.unblockedAtItems, hr]
    exact if_neg (by rw [hs]; decide)
  · refine unblockedEdge_happens ha hd hi ?_ fun _ => rfl
    rw [unblockedEdge_shut hd ho, State.unblockedAtItems, hr]
    exact (if_pos hs).trans (if_pos hm)

/-! ### The link's timers (R158, R172) -/

theorem due_of_elapsed {timer : Option Timer} (h : ∃ τ ∈ timer, τ.duration ≤ τ.elapsed) :
    timer.any Timer.due = true := by
  obtain ⟨τ, hτ, hd⟩ := h
  simpa [Option.mem_def.1 hτ, Timer.due] using hd

/-- R158: what the link timer's running-out does to the zones. -/
theorem linkDown_eq (s : State) :
    s.linkDown =
      { s with
        link := { s.link with up := false, linkTimer := none }
        reports := { s.reports with
          entries := s.reports.entries.map fun e => { e with outstanding := false }
          outstanding := 0, resendTimer := none }
        zones := Vector.ofFn fun z =>
          { s.zones[z] with reasons := { s.zones[z].reasons with
              link := s.zones[z].reasons.link || decide (z = 0 ∧ s.module ≠ .unconfigured ∧
                s.activeLayout.line.infeedHold = true) } } } := by
  have one (z : ZoneId) : s.linkDown.zones[z] =
      { s.zones[z] with reasons := { s.zones[z].reasons with
          link := s.zones[z].reasons.link || decide (z = 0 ∧ s.module ≠ .unconfigured ∧
            s.activeLayout.line.infeedHold = true) } } := by
    unfold State.linkDown State.modifyReasons State.modifyZone State.configured
    by_cases h : z = 0
    · subst h
      have : (s.module != .unconfigured) = decide (s.module ≠ .unconfigured) := by
        cases s.module <;> rfl
      simp [this]
    · have : (0 : Nat) ≠ z := fun e => h (Fin.ext e.symm)
      simp [h, this]
  have zones : s.linkDown.zones = Vector.ofFn fun z => s.linkDown.zones[z] := by
    ext i hi
    all_goals simp
  have frame : s.linkDown = { s.linkDown with zones := s.linkDown.zones } := rfl
  rw [frame, zones]
  simp only [one]
  rfl

/-- R172: every entry is UNSENT, and the oldest has number `n`. -/
structure ReportQueue.Unsent (q : ReportQueue) (n : Nat) : Prop where
  entry : ∀ e ∈ q.entries, e.outstanding = false
  oldest : q.entries.head?.map Entry.number = some n
  count : q.outstanding = 0
  timer : q.resendTimer = none

theorem ReportQueue.Unsent.post {q : ReportQueue} {n : Nat} (h : q.Unsent n) (r : Report) :
    (q.post r).Unsent n := by
  obtain ⟨entry, oldest, count, timer⟩ := h
  cases hr : q.hasRoom with
  | true =>
    rw [post_of_hasRoom hr]
    refine ⟨List.forall_mem_append.2 ⟨entry, by simp⟩, ?_, count, timer⟩
    cases he : q.entries with
    | nil => simp [he] at oldest
    | cons e es => simpa [he] using oldest
  | false =>
    rcases List.eq_nil_or_concat' q.entries with he | ⟨es, e, he⟩
    · simp [he] at oldest
    · rw [post_of_full hr he]
      rw [he] at entry oldest
      obtain ⟨older, newest⟩ := List.forall_mem_append.1 entry
      refine ⟨List.forall_mem_append.2 ⟨older, by simpa [Entry.supersede] using newest⟩, ?_, count,
        timer⟩
      cases es <;> simpa [Entry.supersede] using oldest

theorem postAll_unsent {s : State} {n : Nat} (h : s.reports.Unsent n) (rs : List Report) :
    (s.postAll rs).reports.Unsent n := by
  induction rs generalizing s with
  | nil => exact h
  | cons r rs ih => exact ih (h.post r)

/-- R162, R170, R176: a FREE transmitter whose link is UP begins the oldest of the UNSENT reports. -/
theorem Transmits.unsent {l : HostLink} {q : ReportQueue} {t : State} {n : Nat} (h : Transmits l q t)
    (hf : l.transmitter = .free) (hs : l.slot = none) (hu : l.up = true)
    (hw : 0 < l.settings.sendWindow) (hq : q.Unsent n) :
    ∃ (e : Entry) (rest : List Entry), t.reports.entries = { e with outstanding := true } :: rest ∧
      n = e.number ∧ (∀ f ∈ rest, f.outstanding = false) ∧ t.reports.outstanding = 1 ∧
      t.reports.resendTimer = some ⟨l.settings.resendTime, 0⟩ ∧
      t.link = { l with transmitter := .sending (sentFrame e).bytes } := by
  obtain ⟨entry, oldest, count, timer⟩ := hq
  cases he : q.entries with
  | nil => simp [he] at oldest
  | cons e rest =>
    rw [he] at entry oldest
    obtain ⟨unsent, younger⟩ := List.forall_mem_cons.1 entry
    obtain ⟨link, reports⟩ :=
      (h.2 hf).2.1 hs hu (count ▸ hw) [] rest e he (List.forall_mem_nil _) unsent
    refine ⟨e, rest, by rw [reports]; rfl, by simpa using oldest.symm, younger, ?_, ?_, link⟩
    · rw [reports, count]
    · rw [reports]
      exact if_pos count

/-- Settles O59: each timer's running-out is one equation; the resend timer's leaves every report UNSENT
for the transmitter's choice, whatever the permits post behind them. -/
theorem linkAndResendTimersUnsendTheReports : Obligations.LinkAndResendTimersUnsendTheReports := by
  unfold Obligations.LinkAndResendTimersUnsendTheReports
  intro s ha hq hl unsent due
  obtain ⟨-, ⟨sent, rest, parts⟩, ⟨runs, -⟩, window, -, down⟩ := (reportQueueLaws_iff s).1 hq
  obtain ⟨-, rests⟩ := (linkLaws_iff s).1 hl
  have resends (hd : due s.reports.resendTimer) :
      Happens .resendTimerExpiry s { s with reports := unsent } [] :=
    happening_brings s { s with reports := unsent } [] State.resend
      (s.reports.resendTimer.any Timer.due) ha (due_of_elapsed hd) rfl fun _ => rfl
  refine ⟨fun hu hd => ?_, resends, fun hd hf => ?_⟩
  · refine happening_brings s _ [] State.linkDown (s.link.supervisionTimer.any Timer.due) ha ?_
      (linkDown_eq s) fun z => ?_
    · unfold HostLink.supervisionTimer
      rw [if_pos hu]
      exact due_of_elapsed hd
    · simp
  · obtain ⟨t, ht, -, -, transmits⟩ := resends hd
    have outstanding : 1 ≤ s.reports.outstanding := runs.1 (by
      obtain ⟨τ, hτ, -⟩ := hd
      rw [Option.mem_def.1 hτ]
      rfl)
    have up : s.link.up = true := by
      by_contra h
      rw [down (Bool.eq_false_of_not_eq_true h)] at outstanding
      exact absurd outstanding (by decide)
    cases he : s.reports.entries with
    | nil =>
      have := parts.count
      rw [parts.entries, List.append_eq_nil_iff] at he
      rw [he.1] at this
      exact absurd (this ▸ outstanding) (by decide)
    | cons e es =>
      have all : unsent.Unsent e.number := ⟨by simp [unsent], by simp [unsent, he], rfl, rfl⟩
      obtain ⟨f, rest, entries, number, younger, one, timer, link⟩ :=
        Transmits.unsent transmits hf (rests hf).1 up (outstanding.trans window)
          (postAll_unsent (s := { s with reports := unsent }) all _)
      exact ⟨t, ht, f, rest, entries, by simp [number], younger, one, timer, link⟩

/-- Settles O60: a settled state has nothing to settle, so the end of the frame is the transmitter's choice
alone. -/
theorem frameEndLetsTheNextFrameBegin : Obligations.FrameEndLetsTheNextFrameBegin := by
  unfold Obligations.FrameEndLetsTheNextFrameBegin
  intro s frame ha hq ht hl now
  obtain ⟨-, settled⟩ := (haltReasonLaws_iff s).1 hl
  obtain ⟨_, ⟨front, back, entries, count, marked, unmarked⟩, _⟩ :=
    (reportQueueLaws_iff s).1 hq
  have runs : exec .frameSent s = .next s.frameGone.chooseFrame := by
    show happening (s.link.transmitter != .free) State.frameGone s = _
    unfold happening State.finish
    rw [settleZones_of_settled (s := s.frameGone) (settled.of_eq rfl rfl), ha, ht]
    rfl
  have leaves {link : HostLink} {reports : ReportQueue}
      (h : s.frameGone.chooseFrame.link = link ∧ s.frameGone.chooseFrame.reports = reports) :
      now link reports := by
    obtain ⟨rfl, rfl⟩ := h
    have hc := chooseFrame_frame s.frameGone
    show exec .frameSent s = _
    rw [runs]
    generalize s.frameGone.chooseFrame = t at hc ⊢
    rw [hc]
    rfl
  obtain ⟨-, choice⟩ := chooseFrame_transmits s.frameGone
  obtain ⟨slot, oldest, none⟩ := choice rfl
  refine ⟨fun reply hr => leaves (slot reply hr), fun hs hu hw sent rest e he hn => ?_,
    fun hs h => leaves (none hs ?_)⟩
  · obtain ⟨rfl, rfl⟩ := List.append_inj (entries.symm.trans he) (count.trans hn.symm)
    exact leaves (oldest hs hu hw front rest e he marked (unmarked e (by simp)))
  · refine h.imp_right (Or.imp_right fun hn => ?_)
    have none : back = [] := by
      rw [entries, List.length_append, count] at hn
      exact List.eq_nil_of_length_eq_zero (by omega)
    show ∀ x ∈ s.reports.entries, x.outstanding = true
    rw [entries, none, List.append_nil]
    exact marked

end Sys2Proof.Machine
end

section
/-! PROOFS. Items assigned afresh one after another, and the diverters that leave service:
`DisableDiverterTakesItOutOfService` (R91, R117, R121), `HomeEdgesMoveTheDiverter` (R100 to R105) and
`FieldTimersJamFaultOrRetract` (R65, R103, R104, R107). -/

namespace Sys2Proof.Machine

set_option Elab.async false

/-! ### Items that are moved -/

/-- The record of an item of `tags` edited and assigned afresh, and any other as it was. -/
def Item.moved (tags : List Nat) (new : Nat → Option DiverterId) (edit : Item → Item) (i : Item) :
    Item :=
  if tags.contains i.tag then { edit i with assigned := new i.tag } else i

/-- R85, R87, R91, R117: `t` is `s` with the records of `tags` edited and assigned afresh, in the zones and
in the claim lists, and with `rs` posted. What has become of the diverters is said apart. -/
structure Moves (s t : State) (tags : List Nat) (new : Nat → Option DiverterId) (edit : Item → Item)
    (rs : List Report) : Prop where
  frame : t = { s.postAll rs with zones := t.zones, claims := t.claims, diverters := t.diverters }
  zone : ∀ z : ZoneId, t.zones[z] =
    { s.zones[z] with track := s.zones[z].track.map (Item.moved tags new edit) }
  kept : ∀ v : DiverterId, (t.claims[v].filter fun x => !tags.contains x) =
    s.claims[v].filter fun x => !tags.contains x
  claimed : ∀ v : DiverterId, ∀ x ∈ tags, (x ∈ t.claims[v] ↔ new x = some v)

section

variable {s t u : State} {tags more : List Nat} {new : Nat → Option DiverterId}
  {edit : Item → Item} {rs qs : List Report}

theorem moved_tag (ht : ∀ i, (edit i).tag = i.tag) (i : Item) :
    (i.moved tags new edit).tag = i.tag := by
  unfold Item.moved
  split
  · exact ht i
  · rfl

theorem moved_stands (h : ∀ i, (edit i).zone = i.zone ∧ (edit i).base = i.base) (i : Item) :
    (i.moved tags new edit).zone = i.zone ∧ (i.moved tags new edit).base = i.base := by
  unfold Item.moved
  split
  · exact h i
  · exact ⟨rfl, rfl⟩

theorem moved_of_not_mem {i : Item} (h : i.tag ∉ tags) : i.moved tags new edit = i :=
  if_neg (by simpa using h)

theorem moved_nil : Item.moved [] new edit = id := rfl

theorem moved_moved (ht : ∀ i, (edit i).tag = i.tag) (hd : ∀ x ∈ tags, x ∉ more) (i : Item) :
    (i.moved tags new edit).moved more new edit = i.moved (tags ++ more) new edit := by
  by_cases h : i.tag ∈ tags
  · rw [moved_of_not_mem (tags := more) (by rw [moved_tag ht]; exact hd _ h)]
    simp [Item.moved, h]
  · rw [moved_of_not_mem h]
    simp [Item.moved, h]

theorem Moves.mem_claims (h : Moves s t tags new edit rs) {x : Nat} (hx : x ∉ tags)
    (v : DiverterId) : x ∈ t.claims[v] ↔ x ∈ s.claims[v] := by
  have same : x ∈ (t.claims[v].filter fun x => !tags.contains x) ↔
      x ∈ s.claims[v].filter fun x => !tags.contains x := by rw [h.kept v]
  simpa [List.mem_filter, hx] using same

theorem filter_contains_append (l as bs : List Nat) :
    (l.filter fun x => !(as ++ bs).contains x) =
      (l.filter fun x => !bs.contains x).filter fun x => !as.contains x := by
  rw [List.filter_filter]
  exact List.filter_congr fun x _ => by simp

/-- Posting reads the queue and the counters alone. -/
theorem postAll_withPlaces (rs : List Report) (s : State) (zones : Vector ZoneUnit 4)
    (claims : Vector (List Nat) 16) (diverters : Vector Diverter 16) :
    ({ s with zones := zones, claims := claims, diverters := diverters } : State).postAll rs =
      { s.postAll rs with zones := zones, claims := claims, diverters := diverters } := by
  induction rs generalizing s with
  | nil => rfl
  | cons r rs ih => exact ih (s.post r)

theorem Moves.refl (s : State) (new : Nat → Option DiverterId) (edit : Item → Item) :
    Moves s s [] new edit [] :=
  ⟨rfl, fun z => by rw [moved_nil, List.map_id], fun _ => rfl, nofun⟩

theorem Moves.trans (h : Moves s t tags new edit rs) (k : Moves t u more new edit qs)
    (ht : ∀ i, (edit i).tag = i.tag) (hd : ∀ x ∈ tags, x ∉ more) :
    Moves s u (tags ++ more) new edit (rs ++ qs) := by
  refine ⟨?_, fun z => ?_, fun v => ?_, fun v x hx => ?_⟩
  · rw [k.frame, h.frame, postAll_withPlaces, postAll_append]
  · rw [k.zone, h.zone, List.map_map]
    exact congrArg (fun f => { s.zones[z] with track := List.map f s.zones[z].track })
      (funext (moved_moved ht hd))
  · rw [filter_contains_append, k.kept, List.filter_comm, h.kept, List.filter_comm,
      ← filter_contains_append]
  · rcases List.mem_append.1 hx with hx | hx
    · rw [k.mem_claims (hd x hx), h.claimed v x hx]
    · exact k.claimed v x hx

/-- The assignments of the items moved are all that is read of `new`. -/
theorem Moves.congr {other : Nat → Option DiverterId} (h : Moves s t tags new edit rs)
    (hn : ∀ x ∈ tags, new x = other x) : Moves s t tags other edit rs := by
  refine ⟨h.frame, fun z => ?_, h.kept, fun v x hx => by rw [← hn x hx]; exact h.claimed v x hx⟩
  have same (i : Item) : i.moved tags new edit = i.moved tags other edit := by
    unfold Item.moved
    split
    · next hi => rw [hn _ (by simpa using hi)]
    · rfl
  rw [h.zone]
  exact congrArg (fun f => { s.zones[z] with track := List.map f s.zones[z].track }) (funext same)

theorem Moves.post (h : Moves s t tags new edit rs) (r : Report) :
    Moves s (t.post r) tags new edit (rs ++ [r]) :=
  ⟨by rw [postAll_append]
      exact congrArg (State.post r) h.frame, h.zone, h.kept, h.claimed⟩

/-! ### What a move leaves for the next -/

theorem Moves.lineItems (h : Moves s t tags new edit rs) :
    t.lineItems = s.lineItems.map (Item.moved tags new edit) := by
  have track (z : ZoneId) : t.zones[z].track = s.zones[z].track.map (Item.moved tags new edit) := by
    rw [h.zone]
  have h3 := track 3
  have h2 := track 2
  have h1 := track 1
  have h0 := track 0
  simp only [Fin.getElem_fin] at h3 h2 h1 h0
  simp only [State.lineItems, List.map_append]
  exact congrArg₂ _ (congrArg₂ _ (congrArg₂ _ h3 h2) h1) h0

theorem Moves.lineTags (h : Moves s t tags new edit rs) (ht : ∀ i, (edit i).tag = i.tag) :
    t.lineTags = s.lineTags := by
  simp only [State.lineTags, h.lineItems, List.map_map]
  exact List.map_congr_left fun i _ => moved_tag ht i

theorem Moves.findItem (h : Moves s t tags new edit rs) (ht : ∀ i, (edit i).tag = i.tag) {x : Nat}
    (hx : x ∉ tags) : t.findItem x = s.findItem x := by
  unfold State.findItem
  rw [h.lineItems, List.find?_map]
  simp only [Function.comp_def, moved_tag ht]
  cases hf : s.lineItems.find? fun i => decide (i.tag = x) with
  | none => rfl
  | some i =>
    have : i.tag = x := by simpa using List.find?_some hf
    rw [Option.map_some, moved_of_not_mem (this ▸ hx)]

theorem Moves.position (h : Moves s t tags new edit rs) (i : Item) : t.position i = s.position i := by
  unfold State.position
  rw [h.zone]

theorem Moves.activeLayout (h : Moves s t tags new edit rs) : t.activeLayout = s.activeLayout := by
  rw [h.frame, postAll_frame]

/-- R84, R85: an assignment reads the layout, which diverters are in service, and the item's place. -/
theorem assignment_of_service {i : Item} (hl : t.activeLayout = s.activeLayout)
    (hd : ∀ d : DiverterId, t.diverters[d].state.inService = s.diverters[d].state.inService)
    (hp : t.position i = s.position i) (excluded : Option DiverterId) :
    t.assignment i excluded = s.assignment i excluded := by
  have claimable (d : DiverterId) : t.claimable i d = s.claimable i d := by
    unfold State.claimable
    rw [hl, hd, hp]
  simp only [State.assignment, State.takes, hl, claimable]
  rfl

/-- R85: the assignment that the item with a tag gets with a diverter excluded. -/
def State.newFor (s : State) (d : DiverterId) (x : Nat) : Option DiverterId :=
  (s.findItem x).bind fun i => s.assignment i (some d)

theorem Moves.newFor (h : Moves s t tags new edit rs) (ht : ∀ i, (edit i).tag = i.tag)
    (hd : ∀ d : DiverterId, t.diverters[d].state.inService = s.diverters[d].state.inService)
    (d : DiverterId) {x : Nat} (hx : x ∉ tags) : t.newFor d x = s.newFor d x := by
  unfold State.newFor
  rw [h.findItem ht hx]
  exact congrArg _ (funext fun i => assignment_of_service h.activeLayout hd (h.position i) _)

theorem newFor_ne (s : State) (d : DiverterId) (x : Nat) : s.newFor d x ≠ some d := by
  intro h
  obtain ⟨i, -, h⟩ := Option.bind_eq_some_iff.1 h
  exact (assignment_claimable h).1 rfl

/-! ### One item moved -/

theorem claimLists_kept (s : State) (i : Item) (n : Option DiverterId) (v : DiverterId) :
    ((s.claimLists i n)[v].filter fun x => !([i.tag] : List Nat).contains x) =
      s.claims[v].filter fun x => !([i.tag] : List Nat).contains x := by
  simp only [State.claimLists, Fin.getElem_fin, Vector.getElem_ofFn, Fin.eta]
  split
  · split
    · rfl
    · obtain ⟨k, inserted, -⟩ := insertClaim_place s i s.claims[v]
      simp only [Fin.getElem_fin] at inserted
      rw [inserted, List.filter_append, List.filter_cons_of_neg (by simp), ← List.filter_append,
        List.take_append_drop]
  · rw [List.filter_filter]
    exact List.filter_congr fun x _ => by simp [bne, Bool.beq_eq_decide_eq]

/-- R85, R87, R117: a record edited where it stands and given an assignment. -/
theorem writeClaim_moves (s : State) {i : Item} {x : Nat} (hi : i.tag = x) (new : Option DiverterId)
    (ht : ∀ j, (edit j).tag = j.tag) :
    Moves s ((s.updateItem x edit).writeClaim i new) [x] (fun _ => new) edit [] := by
  subst hi
  refine ⟨rfl, fun z => ?_, fun v => claimLists_kept _ i new v, fun v x hx => ?_⟩
  · have zone : ((s.updateItem i.tag edit).writeClaim i new).zones[z] =
        ((s.updateItem i.tag edit).updateItem i.tag fun j => { j with assigned := new }).zones[z] :=
      rfl
    rw [zone, updateItem_updateItem s _ ht, updateItem_zone]
    refine congrArg (fun f => { s.zones[z] with track := List.map f s.zones[z].track })
      (funext fun j => ?_)
    simp [Item.moved]
  · rw [State.writeClaim_claims, mem_claimLists, if_pos (List.mem_singleton.1 hx)]

/-- R91 steps 1 to 3: one claim of a diverter moved. -/
theorem moveClaim_moves {d : DiverterId} {x : Nat} (hx : x ∈ s.lineTags) :
    Moves s (s.moveClaim d x) [x] (s.newFor d) id [.claimMoved x d (s.newFor d x)] := by
  rcases reassign_cases s x (some d) with ⟨hn, -⟩ | ⟨i, hf, hr⟩
  · exact absurd hx (findItem_eq_none.1 hn)
  · have unedited : s.updateItem x id = s := by
      have zones : (s.updateItem x id).zones = s.zones := by
        ext i hi
        all_goals simp [State.updateItem, State.mapZones]
      rw [show s.updateItem x id = { s with zones := (s.updateItem x id).zones } from rfl, zones]
    have new : s.newFor d x = s.assignment i (some d) := by
      rw [State.newFor, hf]
      rfl
    have one := writeClaim_moves s (edit := id) (findItem_eq_some hf).2 (s.assignment i (some d))
      fun _ => rfl
    rw [unedited] at one
    unfold State.moveClaim
    rw [hr, new]
    exact (one.congr (other := s.newFor d) fun y hy => by rw [List.mem_singleton.1 hy, new]).post _

/-- R91: the claims on a diverter moved one after another. -/
theorem moveClaims_moves (d : DiverterId) {tags : List Nat} (hn : tags.Nodup)
    (hx : ∀ x ∈ tags, x ∈ s.lineTags) :
    Moves s (tags.foldl (State.moveClaim d) s) tags (s.newFor d) id
      (tags.map fun x => .claimMoved x d (s.newFor d x)) := by
  induction tags generalizing s with
  | nil => exact .refl ..
  | cons x tags ih =>
    obtain ⟨absent, hn⟩ := List.nodup_cons.1 hn
    have first := moveClaim_moves (d := d) (hx x List.mem_cons_self)
    have service (e : DiverterId) : (s.moveClaim d x).diverters[e] = s.diverters[e] := by
      unfold State.moveClaim
      rw [State.post_diverters, reassign_frame]
    have same : ∀ y ∈ tags, (s.moveClaim d x).newFor d y = s.newFor d y := fun y hy =>
      first.newFor (fun _ => rfl) (fun e => by rw [service]) d
        (by rw [List.mem_singleton]; exact fun h => absent (h ▸ hy))
    have rest := (ih hn (s := s.moveClaim d x) fun y hy => by
      rw [first.lineTags fun _ => rfl]; exact hx y (List.mem_cons_of_mem _ hy)).congr same
    have := first.trans rest (fun _ => rfl) fun y hy => by rwa [List.mem_singleton.1 hy]
    have reports : (tags.map fun y => Report.claimMoved y d ((s.moveClaim d x).newFor d y)) =
        tags.map fun y => Report.claimMoved y d (s.newFor d y) :=
      List.map_congr_left fun y hy => by rw [same y hy]
    rw [List.map_cons, ← reports]
    exact this

/-! ### The item of a stroke slot returned (R117) -/

theorem Moves.of_diverters {ds : Vector Diverter 16}
    (h : Moves { s with diverters := ds } t tags new edit rs) : Moves s t tags new edit rs := by
  refine ⟨h.frame.trans ?_, h.zone, h.kept, h.claimed⟩
  have posted := postAll_withPlaces rs s s.zones s.claims ds
  rw [posted]

theorem returnItem_diverters (s : State) (d : DiverterId) (cause : MissCause) :
    (s.returnItem d cause).diverters = s.diverters.set d { s.diverters[d] with slot := none } := by
  rcases returnItem_cases d cause s with ⟨hs, h⟩ | ⟨tag, -, h⟩ <;> rw [h]
  · ext i hi : 1
    rw [Vector.getElem_set]
    split
    · next he => subst he; rw [← hs]; rfl
    · rfl
  · rw [State.post_diverters, reassign_frame]
    rfl

/-- R117: the item of a slot goes back on line, assigned afresh from where it stands. -/
theorem returnItem_moves (h : Booked s none) (d : DiverterId) (cause : MissCause) :
    Moves s (s.returnItem d cause) s.diverters[d].slot.toList (s.newFor d) s.backOnLine
      (s.diverters[d].slot.toList.map fun x => .missedDivert x d cause (s.newFor d x)) := by
  rcases returnItem_cases d cause s with ⟨hs, hr⟩ | ⟨x, hs, hr⟩ <;> rw [hr, hs]
  · exact .refl ..
  · obtain ⟨i, hi, rfl, -, -⟩ := (h.claims.slotted d x).1 hs
    have found := h.pool.findItem_of_mem hi
    have tags (j : Item) : (s.backOnLine j).tag = j.tag := rfl
    have emptied : (s.slotEmptied d i.tag).findItem i.tag = some (s.backOnLine i) := by
      unfold State.slotEmptied
      rw [updateItem_findItem _ tags]
      exact (congrArg _ found).trans (congrArg some (if_pos rfl))
    have layout : (s.slotEmptied d i.tag).activeLayout = s.activeLayout := rfl
    have service (e : DiverterId) : (s.slotEmptied d i.tag).diverters[e].state.inService =
        s.diverters[e].state.inService := by
      rw [State.slotEmptied, State.updateItem_diverters, modifyDiverter_diverter]
      split
      · next he => rw [he]
      · rfl
    have position : (s.slotEmptied d i.tag).position (s.backOnLine i) = s.position i := by
      unfold State.slotEmptied
      rw [updateItem_position]
      rfl
    have assigned : (s.slotEmptied d i.tag).assignment (s.backOnLine i) (some d) =
        s.newFor d i.tag := by
      rw [State.newFor, found, Option.bind_some]
      generalize s.slotEmptied d i.tag = w at service position layout
      exact assignment_of_service (i := s.backOnLine i) layout service position _
    rw [reassign_found emptied, assigned]
    have one := writeClaim_moves (s.modifyDiverter d fun u => { u with slot := none })
      (edit := s.backOnLine) (i := s.backOnLine i) (tags i) (s.newFor d i.tag) tags
    exact (one.of_diverters.congr (other := s.newFor d) fun y hy => by
      rw [List.mem_singleton.1 hy]).post _

end

/-! ### A diverter that leaves service (R91, R117) -/

/-- A diverter put out of service as `state`, with its stroke slot still to be emptied. -/
def State.outOfService (d : DiverterId) (state : DiverterState) (first : List Report) (s : State) :
    State :=
  (s.modifyDiverter d fun u =>
    { u with state := state, timer := none, testMark := false }).postAll first

/-- A diverter that leaves service for `state`, its slot's item and its claims being given up in turn. -/
def State.leaveService (d : DiverterId) (state : DiverterState) (cause : MissCause)
    (first : List Report) (s : State) : State :=
  let t := (s.outOfService d state first).returnItem d cause
  if s.diverters[d].state.inService then t.reevaluate d else t

theorem enterFault_eq (d : DiverterId) (cause : DiverterCause) (s : State) :
    s.enterFault d cause =
      s.leaveService d .fault .strokeFault [.diverterChange d .fault cause] := rfl

theorem disableDiverter_eq {s : State} {d : DiverterId} (h : s.diverters[d].state ≠ .disabled) :
    s.disableDiverter d = s.leaveService d .disabled .disabled [] := if_neg h

/-- The new assignment, with the diverter out of service, of the item with a tag. -/
def State.newWithout (s : State) (d : DiverterId) (state : DiverterState) (x : Nat) :
    Option DiverterId := (s.findItem x).bind (s.assignmentWithout d state)

/-- The reports of a diverter that leaves service, but for the changes of permit. -/
def State.partingReports (s : State) (d : DiverterId) (state : DiverterState) (cause : MissCause)
    (first : List Report) : List Report :=
  first ++ ((s.diverters[d].slot.toList.map fun x => .missedDivert x d cause (s.newWithout d state x)) ++
    s.claims[d].map fun x => .claimMoved x d (s.newWithout d state x))

/-- R91, R117: the record of an item of zone `z` once diverter `d` has left service. -/
def State.partedItem (s : State) (d : DiverterId) (state : DiverterState) (z : ZoneId) (i : Item) :
    Item :=
  if s.diverters[d].slot.toList.contains i.tag then
    { i.markAtRisk with
      state := .tracked, returnedAt := some s.zones[z].count, assigned := s.newWithout d state i.tag }
  else if s.claims[d].contains i.tag then { i with assigned := s.newWithout d state i.tag }
  else i

/-- R91, R107, R117, R121: what a diverter's leaving service makes of `s`. -/
structure Parting (s u : State) (d : DiverterId) (state : DiverterState) (cause : MissCause)
    (first : List Report) : Prop where
  frame : u = { s.postAll (s.partingReports d state cause first) with
    zones := u.zones, claims := u.claims, diverters := s.diverters.set d ⟨state, none, none, false⟩ }
  zone : ∀ z : ZoneId, u.zones[z] =
    { s.zones[z] with track := s.zones[z].track.map (s.partedItem d state z) }
  empty : u.claims[d] = []
  kept : ∀ v : DiverterId, v ≠ d → (u.claims[v].filter fun x =>
    !(s.diverters[d].slot.toList ++ s.claims[d]).contains x) = s.claims[v]
  claimed : ∀ v : DiverterId, ∀ x ∈ s.diverters[d].slot.toList ++ s.claims[d],
    (x ∈ u.claims[v] ↔ s.newWithout d state x = some v)

section

variable {s : State} {d : DiverterId}

/-- R86: the item of a claim is TRACKED and assigned to that diverter alone, so it is in no slot and in no
other list. -/
theorem Booked.not_mem_slot (h : Booked s none) {v : DiverterId} {x : Nat} (hx : x ∈ s.claims[v]) :
    x ∉ s.diverters[d].slot.toList := by
  intro hs
  have diverting := (h.claims.slotted d x).1 (by simpa using hs)
  have tracked := (h.claims.claimed v x nofun).1 hx
  exact absurd (h.pool.holds_unique diverting tracked).1 nofun

theorem Booked.not_mem_claims (h : Booked s none) {v : DiverterId} (hv : v ≠ d) {x : Nat}
    (hx : x ∈ s.claims[v]) : x ∉ s.claims[d] := fun hd =>
  hv (Option.some.inj (h.pool.holds_unique ((h.claims.claimed v x nofun).1 hx)
    ((h.claims.claimed d x nofun).1 hd)).2)

variable (s d) (state : DiverterState) (cause : MissCause) (first : List Report)

theorem outOfService_eq : s.outOfService d state first =
    { s.postAll first with
      diverters := s.diverters.set d ⟨state, none, s.diverters[d].slot, false⟩ } := by
  have posted := postAll_withPlaces first s s.zones s.claims
    (s.diverters.set d ⟨state, none, s.diverters[d].slot, false⟩)
  refine Eq.trans posted ?_
  rw [postAll_frame first s]

theorem outOfService_newFor (x : Nat) :
    (s.outOfService d state first).newFor d x = s.newWithout d state x := by
  have zones : (s.outOfService d state first).zones = s.zones := by
    rw [outOfService_eq, postAll_frame]
  have layout : (s.outOfService d state first).activeLayout = s.activeLayout := by
    rw [outOfService_eq, postAll_frame]
  have service (e : DiverterId) : (s.outOfService d state first).diverters[e].state.inService =
      (s.diverters.set d ⟨state, none, none, false⟩)[e].state.inService := by
    rw [outOfService_eq]
    simp only [getElem_set_fin]
    split <;> rfl
  generalize s.outOfService d state first = w at zones layout service
  have found : w.findItem x = s.findItem x := by
    unfold State.findItem State.lineItems
    rw [zones]
  unfold State.newFor State.newWithout State.assignmentWithout
  rw [found]
  exact congrArg _ (funext fun i => assignment_of_service
    (s := { s with diverters := s.diverters.set d ⟨state, none, none, false⟩ }) layout service
    (by unfold State.position; rw [zones]) _)

variable {s d}

theorem outOfService_booked (h : Booked s none) : Booked (s.outOfService d state first) none := by
  unfold State.outOfService State.postAll
  exact (h.modifyDiverter d (fun u => { u with state := state, timer := none, testMark := false })
    rfl).same (foldl_same _ post_same first _)

/-- R91, R117: the state that a diverter's leaving service makes, by its two moves. -/
theorem leaveService_parting (h : Lawful s) :
    Parting s (s.leaveService d state cause first) d state cause first := by
  have booked := outOfService_booked (d := d) state first h.booked
  have newFor := outOfService_newFor s d state first
  have eq := outOfService_eq s d state first
  unfold State.leaveService
  generalize s.outOfService d state first = w at booked newFor eq ⊢
  have wc : w.claims = s.claims := by rw [eq, postAll_frame]
  have wz : w.zones = s.zones := by rw [eq, postAll_frame]
  have wd : w.diverters = s.diverters.set d ⟨state, none, s.diverters[d].slot, false⟩ := by rw [eq]
  have slot : w.diverters[d].slot = s.diverters[d].slot := by
    rw [wd, getElem_set_fin, if_pos rfl]
  have back := returnItem_moves booked d cause
  have td := returnItem_diverters w d cause
  rw [slot, funext newFor] at back
  generalize w.returnItem d cause = t at back td ⊢
  have apart : ∀ x ∈ s.claims[d], x ∉ s.diverters[d].slot.toList := fun x hx =>
    h.booked.not_mem_slot hx
  have away : ∀ x ∈ s.diverters[d].slot.toList, x ∉ s.claims[d] := fun x hs hc => apart x hc hs
  have never (x : Nat) : s.newWithout d state x ≠ some d := newFor x ▸ newFor_ne w d x
  have tc : t.claims[d] = s.claims[d] := by
    have kept := back.kept d
    rw [wc] at kept
    rwa [List.filter_eq_self.2 fun x hx => ?_,
      List.filter_eq_self.2 fun x hx => by simpa using apart x hx] at kept
    by_contra hn
    have hx' : x ∈ s.diverters[d].slot.toList := by simpa using hn
    exact never x ((back.claimed d x hx').1 hx)
  have claims : Moves t (if s.diverters[d].state.inService then t.reevaluate d else t) s.claims[d]
      (s.newWithout d state) id
      (s.claims[d].map fun x => .claimMoved x d (s.newWithout d state x)) := by
    cases hs : s.diverters[d].state.inService with
    | false =>
      rw [h.served d hs]
      exact .refl ..
    | true =>
      rw [if_pos rfl, State.reevaluate, tc]
      have service (e : DiverterId) :
          t.diverters[e].state.inService = w.diverters[e].state.inService := by
        rw [td, getElem_set_fin]
        split
        · next he => rw [he]
        · rfl
      have same : ∀ x ∈ s.claims[d], t.newFor d x = s.newWithout d state x := fun x hx =>
        (back.newFor (fun _ => rfl) service d (apart x hx)).trans (newFor x)
      have held : ∀ x ∈ s.claims[d], x ∈ t.lineTags := fun x hx => by
        rw [back.lineTags fun _ => rfl, State.lineTags, State.lineItems, wz]
        exact ((h.booked.claims.claimed d x nofun).1 hx).mem_lineTags
      have moved := (moveClaims_moves d (h.booked.claims.nodup d) held).congr same
      rwa [List.map_congr_left fun x hx => by rw [same x hx]] at moved
  have ud : (if s.diverters[d].state.inService then t.reevaluate d else t).diverters =
      t.diverters := by
    split
    · rw [reevaluate_frame]
    · rfl
  generalize (if s.diverters[d].state.inService then t.reevaluate d else t) = u at claims ud ⊢
  refine ⟨?_, fun z => ?_, ?_, fun v hv => ?_, fun v x hx => ?_⟩
  · have ends : u.diverters = s.diverters.set d ⟨state, none, none, false⟩ := by
      rw [ud, td, wd]
      ext i hi : 1
      simp only [Vector.getElem_set]
      split <;> simp
    have hf := claims.frame
    rw [ends, back.frame, eq] at hf
    rw [State.partingReports, postAll_append, postAll_append]
    rw [hf]
    simp only [postAll_withPlaces]
  · rw [claims.zone, back.zone, wz, List.map_map]
    refine congrArg (fun l => { s.zones[z] with track := l }) (List.map_congr_left fun i hi => ?_)
    have hz := h.booked.pool.zone z i hi
    unfold State.partedItem
    by_cases hs : i.tag ∈ s.diverters[d].slot.toList
    · rw [Function.comp_apply, moved_of_not_mem (by
        rw [moved_tag (edit := w.backOnLine) fun _ => rfl]; exact away _ hs), Item.moved, if_pos (by simpa using hs),
        if_pos (by simpa using hs)]
      simp only [State.backOnLine, wz, hz]
    · rw [Function.comp_apply, moved_of_not_mem hs, if_neg (by simpa using hs)]
      rfl
  · refine List.eq_nil_iff_forall_not_mem.2 fun x hx => ?_
    by_cases hc : x ∈ s.claims[d]
    · exact never x ((claims.claimed d x hc).1 hx)
    · rw [claims.mem_claims hc, tc] at hx
      exact hc hx
  · have cv := back.kept v
    rw [wc, List.filter_eq_self (l := s.claims[v]).2 fun x hx => by
      simpa using h.booked.not_mem_slot hx] at cv
    rw [filter_contains_append, claims.kept, List.filter_comm, cv]
    exact List.filter_eq_self.2 fun x hx => by
      simpa only [List.contains_eq_mem, Bool.not_eq_true', decide_eq_false_iff_not] using
        h.booked.not_mem_claims hv hx
  · rcases List.mem_append.1 hx with hx | hx
    · rw [claims.mem_claims (away x hx), back.claimed v x hx]
    · exact claims.claimed v x hx

end

/-! ### The end of the happening in which a diverter leaves service -/

/-- A state that has all of `s` but the link, and in the zones LINK. -/
structure AsideFromLink (s x : State) : Prop where
  frame : x = { s with link := x.link, zones := x.zones }
  zone : ∀ z : ZoneId, { x.zones[z] with
    reasons := { x.zones[z].reasons with link := s.zones[z].reasons.link } } = s.zones[z]

theorem AsideFromLink.refl (s : State) : AsideFromLink s s := ⟨rfl, fun _ => rfl⟩

section

variable {s x u t : State} {d : DiverterId} {state : DiverterState} {cause : MissCause}
  {first : List Report}

theorem AsideFromLink.track (h : AsideFromLink s x) (z : ZoneId) :
    x.zones[z].track = s.zones[z].track := by rw [← h.zone z]

theorem AsideFromLink.count (h : AsideFromLink s x) (z : ZoneId) :
    x.zones[z].count = s.zones[z].count := by rw [← h.zone z]

theorem AsideFromLink.findItem (h : AsideFromLink s x) (n : Nat) : x.findItem n = s.findItem n := by
  unfold State.findItem
  rw [lineItems_congr h.track]

theorem AsideFromLink.newWithout (h : AsideFromLink s x) (n : Nat) :
    x.newWithout d state n = s.newWithout d state n := by
  unfold State.newWithout
  rw [h.findItem]
  refine congrArg _ (funext fun i => ?_)
  have position : x.position i = s.position i := by
    unfold State.position
    rw [h.count]
  have layout : x.activeLayout = s.activeLayout := by rw [h.frame]
  have diverters : x.diverters = s.diverters := by rw [h.frame]
  unfold State.assignmentWithout
  exact assignment_congr (s := { s with diverters := s.diverters.set d ⟨state, none, none, false⟩ })
    (t := { x with diverters := x.diverters.set d ⟨state, none, none, false⟩ })
    layout (by simp only [diverters]) position _

theorem AsideFromLink.partedItem (h : AsideFromLink s x) (z : ZoneId) (i : Item) :
    x.partedItem d state z i = s.partedItem d state z i := by
  have claims : x.claims = s.claims := by rw [h.frame]
  have diverters : x.diverters = s.diverters := by rw [h.frame]
  unfold State.partedItem
  rw [claims, diverters, h.count, h.newWithout]

theorem AsideFromLink.partingReports (h : AsideFromLink s x) :
    x.partingReports d state cause first = s.partingReports d state cause first := by
  have claims : x.claims = s.claims := by rw [h.frame]
  have diverters : x.diverters = s.diverters := by rw [h.frame]
  unfold State.partingReports
  simp only [claims, diverters, h.newWithout]

/-- The state that a diverter's leaving service makes, but for the reports. -/
def State.parted (s : State) (d : DiverterId) (state : DiverterState) (claims : Vector (List Nat) 16) :
    State :=
  { s with
    zones := Vector.ofFn fun z =>
      { s.zones[z] with track := s.zones[z].track.map (s.partedItem d state z) }
    claims := claims
    diverters := s.diverters.set d ⟨state, none, none, false⟩ }

theorem parted_zone (claims : Vector (List Nat) 16) (z : ZoneId) :
    (s.parted d state claims).zones[z] =
      { s.zones[z] with track := s.zones[z].track.map (s.partedItem d state z) } := by
  simp [State.parted]

theorem parted_postAll (claims : Vector (List Nat) 16) (rs : List Report) :
    (s.parted d state claims).postAll rs =
      { s.postAll rs with
        zones := (s.parted d state claims).zones, claims := claims
        diverters := s.diverters.set d ⟨state, none, none, false⟩ } := postAll_withPlaces ..

theorem leavingReports_eq : leavingReports s t d state cause first =
    s.partingReports d state cause first ++ zoneChanges s t := by
  rw [leavingReports, State.partingReports, ← List.append_assoc]
  rfl

/-- R91, R107, R117, R121: the parting is one state and its reports. -/
theorem Parting.eq (h : Parting s u d state cause first) :
    u = (s.parted d state u.claims).postAll (s.partingReports d state cause first) := by
  have zones : u.zones = (s.parted d state u.claims).zones := by
    ext i hi : 1
    have one := (h.zone ⟨i, hi⟩).trans (parted_zone u.claims ⟨i, hi⟩).symm
    exact one
  have hf := h.frame
  rw [zones] at hf
  exact hf.trans (parted_postAll ..).symm

theorem parted_zone_aside (hx : AsideFromLink s x) (claims : Vector (List Nat) 16) (z : ZoneId) :
    { (x.parted d state claims).zones[z] with
      reasons := { (x.parted d state claims).zones[z].reasons with
        link := (s.parted d state claims).zones[z].reasons.link } } =
      (s.parted d state claims).zones[z] := by
  rw [parted_zone, parted_zone, funext (hx.partedItem z), hx.track]
  exact congrArg (fun y : ZoneUnit =>
    { y with track := s.zones[z].track.map (s.partedItem d state z) }) (hx.zone z)

/-- What is left of a diverter that has left service, once the happening is settled. -/
theorem Parting.leaves (h : Parting x u d state cause first) (hx : AsideFromLink s x)
    (ht : LeavesElsewhere s (s.parted d state u.claims) t (s.partingReports d state cause first)) :
    LeavesService s t d state cause first := by
  obtain ⟨-, -, empty, kept, claimed⟩ := h
  have xc : x.claims = s.claims := by rw [hx.frame]
  have xd : x.diverters = s.diverters := by rw [hx.frame]
  rw [xc, xd] at kept claimed
  simp only [hx.newWithout] at claimed
  generalize u.claims = claims at ht empty kept claimed
  obtain ⟨elsewhere, reasons, track, counters, settled⟩ := ht
  have hc : t.claims = claims := by
    have := congrArg State.claims elsewhere
    exact this
  subst hc
  rw [← leavingReports_eq, parted_postAll] at counters
  refine ⟨?_, congrArg State.diverters elsewhere, empty, kept, claimed, fun z => ?_, fun z => ?_,
    counters, settled⟩
  · have := congrArg (fun y : State => { y with
      zones := s.zones, claims := s.claims, diverters := s.diverters }) elsewhere
    exact this
  · have := reasons z
    rwa [parted_zone] at this
  · rw [track z, parted_zone]
    rfl

/-- R107: a happening that takes a diverter to FAULT. -/
theorem enterFault_leads (h : Lawful s) (d : DiverterId) (cause : DiverterCause) :
    FaultsAway s (s.enterFault d cause).finish d cause := by
  have parting := leaveService_parting (d := d) .fault .strokeFault [.diverterChange d .fault cause] h
  rw [← enterFault_eq] at parting
  have brings := finish_brings s (s.parted d .fault (s.enterFault d cause).claims)
    (s.partingReports d .fault .strokeFault [.diverterChange d .fault cause])
    fun z => by rw [parted_zone]
  rw [← parting.eq] at brings
  obtain ⟨elsewhere, link, transmits⟩ := brings
  refine ⟨parting.leaves (.refl s) elsewhere, fun z => ?_, ?_⟩
  · rw [link, parted_zone]
  · rw [← leavingReports_eq, parted_postAll] at transmits
    exact transmits

theorem supervise_aside (s : State) : AsideFromLink s s.rest.supervise :=
  ⟨by rw [supervise_frame], fun z => supervised_reasons s z⟩

end

/-- Settles O48: the request's effect is the parting of the diverter, with no report of its own. -/
theorem disableDiverterTakesItOutOfService : Obligations.DisableDiverterTakesItOutOfService := by
  unfold Obligations.DisableDiverterTakesItOutOfService
  intro s seq b d hf hl hm hb hd disabled
  have hn : s.rest.supervise.namedDiverter b = some d := namedDiverter_of_defined hb hd
  have taken := diverterRequest_allowed (allowed := fun _ _ => true)
    (effect := State.disableDiverter) (s := s.rest.supervise) hm hn rfl
  have sd : s.rest.supervise.diverters = s.diverters := by rw [supervise_frame]
  refine ⟨fun hs => ?_, fun hs => ?_⟩
  · have same : s.rest.supervise.disableDiverter d = s.rest.supervise := if_pos (by rw [sd]; exact hs)
    rw [same, sd, hs] at taken
    exact request_unchanged 0x31#8 hf taken
  · have aside := supervise_aside s
    have parting := leaveService_parting (d := d) .disabled .disabled []
      ((((recordLaws_iff s).1 hl).same (t := s.rest) ⟨rfl, fun _ => rfl⟩).same (supervise_same s.rest))
    rw [← disableDiverter_eq (by rw [sd]; exact hs)] at parting
    generalize s.rest.supervise.disableDiverter d = u at taken parting
    have eq := parting.eq
    rw [aside.partingReports] at eq
    have state : u.diverters[d].state = .disabled := by
      rw [parting.frame, sd]
      simp
    rw [state, eq] at taken
    obtain ⟨t, ht, ⟨elsewhere, reports⟩, cache⟩ := request_takes 0x31#8 seq (opDisableDiverter [b]) s
      (s.parted d .disabled u.claims) (s.rest.supervise.parted d .disabled u.claims) _ _ hf taken
      (by unfold State.parted; rw [sd, supervise_frame]) (parted_zone_aside aside u.claims)
      fun z => by rw [parted_zone]
    rw [← leavingReports_eq, parted_postAll] at reports
    exact ⟨t, ht, parting.leaves aside elsewhere, reports, cache⟩

end Sys2Proof.Machine
end

section
/-! PROOFS. Home edges and the field's timers: `HomeEdgesMoveTheDiverter` (R100 to R105, R107) and
`FieldTimersJamFaultOrRetract` (R65, R103, R104, R107). -/

namespace Sys2Proof.Machine

set_option Elab.async false

/-! ### Home edges (R100 to R105) -/

/-- R107: a happening whose effect is the fault of a diverter. -/
theorem happening_faults {s u : State} {occurs : Bool} {effect : State → State} (h : Lawful u)
    (ha : s.resetActive = false) (ho : occurs = true) {d : DiverterId} {cause : DiverterCause}
    (he : effect s = u.enterFault d cause) :
    ∃ t, happening occurs effect s = .next t ∧ FaultsAway u t d cause :=
  ⟨_, by rw [happening, ha, ho, he]; rfl, enterFault_leads h d cause⟩

section

variable {s : State} {d : DiverterId}

theorem setHome_lawful (h : Lawful s) (level : Bool) : Lawful (s.setHome d level) :=
  h.same (.of_zones rfl rfl)

theorem homeActive_settling (h : s.diverters[d].state = .settling) :
    s.homeActive d = ((s.setHome d true).modifyDiverter d fun u =>
      { u with state := .idle, timer := none }).post (.diverterChange d .idle .homed) := by
  unfold State.homeActive
  rw [h]

theorem homeActive_retracting (h : s.diverters[d].state = .retracting) :
    s.homeActive d = ((s.setHome d true).modifyDiverter d fun u =>
      { u with state := .idle, timer := none, testMark := false }).postAll
        (if s.diverters[d].testMark then [.diverterChange d .idle .testComplete] else []) := by
  unfold State.homeActive
  rw [h]
  show (s.setHome d true).retracted d = _
  have mark : (s.setHome d true).diverters[d].testMark = s.diverters[d].testMark := rfl
  unfold State.retracted
  rw [mark]
  cases s.diverters[d].testMark <;> rfl

theorem homeActive_holding (h : s.diverters[d].state = .holding) :
    s.homeActive d = (s.setHome d true).enterFault d .shortStroke := by
  unfold State.homeActive
  rw [h]

theorem homeActive_other (h1 : s.diverters[d].state ≠ .settling)
    (h2 : s.diverters[d].state ≠ .retracting) (h3 : s.diverters[d].state ≠ .holding) :
    s.homeActive d = s.setHome d true := by
  unfold State.homeActive
  dsimp only
  split
  · next h => exact absurd h h1
  · next h => exact absurd h h2
  · next h => exact absurd h h3
  all_goals rfl

theorem homeInactive_idle (h : s.diverters[d].state = .idle) :
    s.homeInactive d = (s.setHome d false).enterFault d .homeLost := by
  unfold State.homeInactive
  rw [h]

theorem homeInactive_extending (h : s.diverters[d].state = .extending) :
    s.homeInactive d = (s.setHome d false).completeStroke d := by
  unfold State.homeInactive
  rw [h]

theorem homeInactive_other (h1 : s.diverters[d].state ≠ .idle)
    (h2 : s.diverters[d].state ≠ .extending) : s.homeInactive d = s.setHome d false := by
  unfold State.homeInactive
  dsimp only
  split
  · next h => exact absurd h h1
  · next h => exact absurd h h2
  all_goals rfl

/-- R102: the stroke of an empty slot. -/
theorem completeStroke_empty (h : s.diverters[d].slot = none) :
    s.completeStroke d = s.modifyDiverter d fun u =>
      ⟨.holding, s.diverterTimer d DiverterDef.dwell, none, u.testMark⟩ := by
  unfold State.completeStroke
  simp only [h, State.modifyDiverter]

/-- R116: a release empties the slot that holds the tag, as one that was empty before. -/
theorem without_slot {tag : Nat} (h : s.diverters[d].slot = some tag) (state : DiverterState)
    (timer : Option Timer) :
    (s.modifyDiverter d fun u => { u with state := state, timer := timer }).without tag =
      (s.modifyDiverter d fun u => ⟨state, timer, none, u.testMark⟩).without tag := by
  have units : ((s.modifyDiverter d fun u =>
      { u with state := state, timer := timer }).without tag).diverters =
      ((s.modifyDiverter d fun u => ⟨state, timer, none, u.testMark⟩).without tag).diverters := by
    ext i hi : 1
    simp only [State.without, State.modifyDiverter, Vector.getElem_map, Vector.getElem_set]
    by_cases hd : d.val = i
    · simp only [if_pos hd, h]
      rfl
    · simp only [if_neg hd]
  exact congrArg (fun ds => { (s.modifyDiverter d fun u =>
    { u with state := state, timer := timer }).without tag with diverters := ds }) units

/-- R102, R116: the item of the slot is DIVERTED, counted and released. -/
theorem completeStroke_slot {i : Item} (h : s.diverters[d].slot = some i.tag)
    (hf : s.findItem i.tag = some i) :
    s.completeStroke d = State.postAll [.diverted i.tag d i.reference]
      { (s.modifyDiverter d fun u =>
          ⟨.holding, s.diverterTimer d DiverterDef.dwell, none, u.testMark⟩).without i.tag with
        counters := { s.counters with diverted := s.counters.diverted + 1 } } := by
  unfold State.completeStroke
  rw [h]
  dsimp only
  rw [hf, release_eq_without, ← without_slot h]
  rfl

end

/-- Settles O56: each edge, by the state of its diverter. -/
theorem homeEdgesMoveTheDiverter : Obligations.HomeEdgesMoveTheDiverter := by
  unfold Obligations.HomeEdgesMoveTheDiverter
  intro s d hr ha level becomes faults state holding
  have lawful := (recordLaws_iff s).1 hr
  have active {u : State} {rs : List Report} (hi : s.inputs.homes[d] = false)
      (he : s.homeActive d = u.postAll rs)
      (hz : ∀ z : ZoneId, u.zones[z].permit = s.zones[z].permit) :
      Happens (.homeActiveEdge d) s u rs :=
    happening_brings s u rs (State.homeActive d) (!s.inputs.homes[d]) ha (by rw [hi]; rfl) he hz
  have inactive {u : State} {rs : List Report} (hi : s.inputs.homes[d] = true)
      (he : s.homeInactive d = u.postAll rs)
      (hz : ∀ z : ZoneId, u.zones[z].permit = s.zones[z].permit) :
      Happens (.homeInactiveEdge d) s u rs :=
    happening_brings s u rs (State.homeInactive d) s.inputs.homes[d] ha hi he hz
  refine ⟨fun hi => ⟨fun hs => ?_, fun hs => ?_, fun hs => ?_, fun h1 h2 h3 => ?_⟩,
    fun hi => ⟨fun hs => ?_, fun hs he => ?_, fun hs i hl he => ?_, fun h1 h2 => ?_⟩⟩
  · exact active hi (homeActive_settling hs) fun _ => rfl
  · exact active hi (homeActive_retracting hs) fun _ => rfl
  · exact happening_faults (setHome_lawful lawful true) ha (by rw [hi]; rfl) (homeActive_holding hs)
  · exact active (rs := []) hi (homeActive_other h1 h2 h3) fun _ => rfl
  · exact happening_faults (setHome_lawful lawful false) ha hi (homeInactive_idle hs)
  · refine inactive (rs := []) hi ((homeInactive_extending hs).trans (completeStroke_empty ?_)) fun _ => rfl
    exact he
  · refine inactive hi ((homeInactive_extending hs).trans (completeStroke_slot (i := i) ?_ ?_)) fun z => ?_
    · exact he
    · exact lawful.booked.pool.findItem_of_mem hl
    · simp [State.without, becomes, level]
  · exact inactive (rs := []) hi (homeInactive_other h1 h2) fun _ => rfl

/-! ### The field's timers (R65, R103, R104, R107) -/

section

variable {s : State} {e : EyeId} {v : EyeDef}

theorem jamTimer_due (hv : s.activeLayout.eyes[e] = some v) (hs : s.eyes[e].state = .blocked)
    (hj : v.jamTime ≠ 0) (hp : s.zones[v.zone].permit = true) (he : v.jamTime ≤ s.eyes[e].jamElapsed) :
    (s.jamTimer e).any Timer.due = true := by
  have runs : s.jamTimerRuns e = true := by
    unfold State.jamTimerRuns
    rw [hs, hv, Option.any_some, hp, bne_iff_ne.2 hj]
    rfl
  rw [State.jamTimer, if_pos runs, hv]
  exact decide_eq_true he

theorem jamEye_eq (hv : s.activeLayout.eyes[e] = some v) :
    s.jamEye e = State.postAll [.jam e v.zone true] { s with
      eyes := s.eyes.set e ⟨.jammed, 0⟩
      zones := s.zones.set v.zone { s.zones[v.zone] with
        reasons := { s.zones[v.zone].reasons with jam := true } } } := by
  unfold State.jamEye
  rw [hv]
  rfl

/-- R99: a diverter's timer that has run for its time, in a state that runs one. -/
theorem DiverterLaws.due {s : State} (h : DiverterLaws s) {d : DiverterId}
    (hd : ∀ τ ∈ s.diverters[d].timer, τ.duration ≤ τ.elapsed)
    (hs : s.diverters[d].state = .settling ∨ s.diverters[d].state = .extending ∨
      s.diverters[d].state = .holding ∨ s.diverters[d].state = .retracting) :
    s.diverters[d].timer.any Timer.due = true := by
  obtain ⟨-, -, -, runs, -⟩ := h d
  obtain ⟨τ, hτ⟩ := Option.isSome_iff_exists.1 (runs.2 hs)
  rw [hτ]
  exact decide_eq_true (hd τ hτ)

end

/-- Settles O57: each timer's running-out, by the state that runs it. -/
theorem fieldTimersJamFaultOrRetract : Obligations.FieldTimersJamFaultOrRetract := by
  unfold Obligations.FieldTimersJamFaultOrRetract
  intro s e d ha
  refine ⟨fun v hv hs hj hp he => ?_, ?_⟩
  · refine happening_brings s _ _ (State.jamEye e) _ ha (jamTimer_due hv hs hj hp he) (jamEye_eq hv)
      fun z => ?_
    simp only [getElem_set_fin]
    split
    · next h => subst h; rfl
    · rfl
  · intro hr hl hd faults state
    have lawful := (recordLaws_iff s).1 hr
    have stroke (h : s.diverters[d].state = .extending) :
        (s.strokeTimer d).any Timer.due = true := by
      rw [State.strokeTimer, h]
      exact DiverterLaws.due hl hd (.inr (.inl h))
    have dwell (h : s.diverters[d].state = .holding) : (s.dwellTimer d).any Timer.due = true := by
      rw [State.dwellTimer, h]
      exact DiverterLaws.due hl hd (.inr (.inr (.inl h)))
    have away (h : s.diverters[d].state = .settling ∨ s.diverters[d].state = .retracting) :
        (s.returnTimer d).any Timer.due = true := by
      have due := DiverterLaws.due hl hd (h.imp_right fun h => .inr (.inr h))
      rcases h with h | h <;> rw [State.returnTimer, h] <;> exact due
    refine ⟨fun hs => ?_, fun hs => ?_, fun hs => ?_, fun hs => ?_⟩
    · exact happening_faults lawful ha (stroke hs) rfl
    · refine happening_brings s _ [] (State.enterRetracting d) _ ha (dwell hs) ?_ fun _ => rfl
      obtain ⟨-, -, home, -⟩ := hl d
      exact if_neg (by rw [home (.inr (.inl hs))]; decide)
    · refine happening_faults lawful ha (away (.inl hs)) ?_
      exact congrArg (s.enterFault d) (if_pos hs)
    · refine happening_faults lawful ha (away (.inr hs)) ?_
      have other : s.diverters[d].state ≠ .settling := by
        rw [show s.diverters[d].state = .retracting from hs]
        decide
      exact congrArg (s.enterFault d) (if_neg other)

end Sys2Proof.Machine
end

section
/-! PROOFS. Happenings that go over the diverters in ascending number:
`RestartGivesUpTheAccountAndKeepsTheLayout` (R134, R135), `AcceptedCommitTakesUpThePendingLayout` (R143) and
`EstopHoldsTheZonesAndWithdrawsTheStrokes` (R14, R108, R124). -/

namespace Sys2Proof.Machine

set_option Elab.async false

/-! ### A sweep over the diverters -/

/-- Posting reads and writes the report queue and the counters alone. -/
theorem postAll_congr {s t : State} (hr : t.reports = s.reports) (hc : t.counters = s.counters)
    (rs : List Report) : t.postAll rs =
      { t with reports := (s.postAll rs).reports, counters := (s.postAll rs).counters } := by
  induction rs generalizing s t with
  | nil => rw [postAll_nil, postAll_nil, ← hr, ← hc]
  | cons r rs ih =>
    rw [postAll_cons, postAll_cons, ih (s := s.post r) (t := t.post r)]
    · rfl
    · exact congrArg (ReportQueue.post r) hr
    · simp only [State.post, hr, hc]

/-- The state with the home inputs and the units of the diverters `ds` written. -/
def State.swept (s : State) (ds : List DiverterId) (home : DiverterId → Bool)
    (unit : DiverterId → Diverter) : State :=
  { s with
    inputs := { s.inputs with
      homes := Vector.ofFn fun d => if d ∈ ds then home d else s.inputs.homes[d] }
    diverters := Vector.ofFn fun d => if d ∈ ds then unit d else s.diverters[d] }

/-- The state with the home input and the unit of one diverter written. -/
def State.sweptAt (s : State) (d : DiverterId) (home : Bool) (unit : Diverter) : State :=
  { s with
    inputs := { s.inputs with homes := s.inputs.homes.set d home }
    diverters := s.diverters.set d unit }

theorem swept_sweptAt (s : State) (ds : List DiverterId) (d : DiverterId)
    (home : DiverterId → Bool) (unit : DiverterId → Diverter) :
    (s.swept ds home unit).sweptAt d (home d) (unit d) = s.swept (ds ++ [d]) home unit := by
  have last {α : Type} (f g : DiverterId → α) :
      ((Vector.ofFn fun v => if v ∈ ds then f v else g v).set d (f d)) =
        Vector.ofFn fun v => if v ∈ ds ++ [d] then f v else g v := by
    ext i hi : 1
    rw [Vector.getElem_set]
    by_cases h : d.val = i
    · subst h
      simp
    · have : (⟨i, hi⟩ : DiverterId) ≠ d := fun e => h (congrArg Fin.val e).symm
      simp [h, this]
  unfold State.sweptAt State.swept
  rw [last, last]

theorem sweptAt_postAll (s : State) (rs : List Report) (d : DiverterId) (home : Bool)
    (unit : Diverter) : (s.postAll rs).sweptAt d home unit = (s.sweptAt d home unit).postAll rs := by
  rw [postAll_congr (s := s) (t := s.sweptAt d home unit) rfl rfl, postAll_frame]
  rfl

/-- What a sweep reads of the state when it comes to diverter `d`. -/
structure Unswept (s w : State) (d : DiverterId) : Prop where
  layout : w.activeLayout = s.activeLayout
  pending : w.pending = s.pending
  home : w.inputs.homes[d] = s.inputs.homes[d]
  unit : w.diverters[d] = s.diverters[d]

/-- A sweep that writes, at each diverter, its home input and its unit, and posts. -/
theorem foldl_sweeps {s : State} {f : State → DiverterId → State} {home : DiverterId → Bool}
    {unit : DiverterId → Diverter} {posts : DiverterId → List Report}
    (hf : ∀ w d, Unswept s w d → f w d = (w.sweptAt d (home d) (unit d)).postAll (posts d))
    {ds : List DiverterId} (hn : ds.Nodup) :
    ds.foldl f s = (s.swept ds home unit).postAll (ds.flatMap posts) := by
  induction ds using List.reverseRecOn with
  | nil =>
    show s = s.swept [] home unit
    have same {α : Type} (v : Vector α 16) : v = Vector.ofFn fun d : DiverterId => v[d] := by
      ext i hi : 1
      simp
    unfold State.swept
    simp only [List.not_mem_nil, if_false, ← same]
  | append_singleton ds d ih =>
    have absent : d ∉ ds := by
      have := List.nodup_append.1 hn
      exact fun h => this.2.2 d h d (by simp) rfl
    have unswept : Unswept s ((s.swept ds home unit).postAll (ds.flatMap posts)) d := by
      constructor <;> rw [postAll_frame] <;> simp [State.swept, absent]
    rw [List.foldl_append, ih (hn.sublist (List.sublist_append_left ..)), List.foldl_cons,
      List.foldl_nil, hf _ d unswept, sweptAt_postAll, swept_sweptAt, ← postAll_append,
      List.flatMap_append]
    simp

/-! ### Diverters settled (R100, R126) -/

/-- R100, R105: the home input as the diverter that settles reads it. -/
def State.homeRead (s : State) (d : DiverterId) : Bool := s.inputs.homes[d] && !s.leavingHome d

/-- R100: the unit of a diverter that has settled, or that awaits its home. -/
def State.settledUnit (s : State) (d : DiverterId) : Diverter :=
  if s.homeRead d then ⟨.idle, none, none, false⟩
  else ⟨.settling, s.diverterTimer d DiverterDef.returnTimeout, none, false⟩

theorem Unswept.homeRead {s w : State} {d : DiverterId} (h : Unswept s w d) :
    w.homeRead d = s.homeRead d := by
  unfold State.homeRead State.leavingHome
  rw [h.home, h.unit, h.pending]

theorem Unswept.diverterTimer {s w : State} {d : DiverterId} (h : Unswept s w d)
    (value : DiverterDef → Nat) : w.diverterTimer d value = s.diverterTimer d value := by
  unfold State.diverterTimer
  rw [h.layout]

/-- R100: diverter `d` reads its home input and enters SETTLING. -/
theorem enterSettling_sweeps {s w : State} {d : DiverterId} (h : Unswept s w d) :
    (w.readHome d).enterSettling d = (w.sweptAt d (s.homeRead d) (s.settledUnit d)).postAll
      (if s.homeRead d then [.diverterChange d .idle .homed] else []) := by
  have read : w.readHome d =
      { w with inputs := { w.inputs with homes := w.inputs.homes.set d (s.homeRead d) } } := by
    rw [State.readHome_frame, ← h.homeRead]
    rfl
  unfold State.settledUnit
  rw [read, ← h.diverterTimer]
  cases hs : s.homeRead d with
  | true => exact enterSettling_home (by simp)
  | false => exact if_neg (by simp)

theorem flatMap_posts (ds : List DiverterId) (which home : DiverterId → Bool)
    (post : DiverterId → Report) :
    (ds.filter which).flatMap (fun d => if home d then [post d] else []) =
      (ds.filter fun d => which d && home d).map post := by
  induction ds with
  | nil => rfl
  | cons d ds ih =>
    cases hw : which d <;> cases hh : home d <;> simp_all

theorem allDiverters_nodup : allDiverters.Nodup := by decide

/-- R126: every diverter that `which` names has settled, or awaits its home. -/
theorem settleDiverters_eq (which : DiverterId → Bool) (s : State) :
    s.settleDiverters which =
      ({ s with
        inputs := { s.inputs with homes := Vector.ofFn fun d =>
          s.inputs.homes[d] && !(which d && s.leavingHome d) }
        diverters := Vector.ofFn fun d =>
          if which d then s.settledUnit d else s.diverters[d] } : State).postAll
        ((allDiverters.filter fun d => which d && s.homeRead d).map
          fun d => .diverterChange d .idle .homed) := by
  unfold State.settleDiverters
  rw [foldl_sweeps (fun w d h => enterSettling_sweeps h) (allDiverters_nodup.filter _),
    flatMap_posts]
  unfold State.swept State.homeRead
  simp only [List.mem_filter, mem_allDiverters, true_and]
  congr 4
  funext d
  cases which d <;> simp

/-! ### RESTART (R134, R135) -/

theorem leavingHome_extending {s : State} {d : DiverterId} (h : s.leavingHome d = true) :
    s.diverters[d].state = .extending := by
  have both := Bool.and_eq_true_iff.1 h
  exact of_decide_eq_true both.1

/-- An inactive edge at an input that is inactive already is no happening. -/
theorem homeInactiveEdge_next {t : State} {d : DiverterId} (h : t.inputs.homes[d] = false) :
    exec (.homeInactiveEdge d) t = .next t := exec_of_not_occurs (by simpa [State.occurs] using h)

/-- R134: what a RESTART gives up, before its report. -/
def State.cleared (s : State) : State :=
  { s.giveUp with counters := ⟨0, 0, 0, 0, 0, 0, 0, 0⟩, reports := ⟨[], 1, 0, none⟩ }

theorem giveUp_eq (s : State) : s.giveUp = s.cleared.post
    (.moduleState (if s.configured then .standby else .unconfigured) .restart) := rfl

/-- R126, R134: what a RESTART leaves, but for its reports. -/
def State.restarted (s : State) : State :=
  { s.cleared with
    inputs := { s.inputs with homes := Vector.ofFn fun d =>
      s.inputs.homes[d] && !(s.restartsDiverter d && s.leavingHome d) }
    diverters := Vector.ofFn fun d =>
      if s.restartsDiverter d then s.settledUnit d else s.diverters[d] }

theorem restart_eq (s : State) : s.giveUp.settleDiverters s.restartsDiverter =
    s.restarted.postAll (.moduleState (if s.configured then .standby else .unconfigured) .restart ::
      (allDiverters.filter fun d => s.restartsDiverter d && s.homeRead d).map
        fun d => .diverterChange d .idle .homed) := by
  rw [settleDiverters_eq, giveUp_eq, postAll_cons]
  rfl

/-- Settles O28: the account is cleared and every diverter in use settles; the reports follow from number 1. -/
theorem restartGivesUpTheAccountAndKeepsTheLayout :
    Obligations.RestartGivesUpTheAccountAndKeepsTheLayout := by
  unfold Obligations.RestartGivesUpTheAccountAndKeepsTheLayout
  intro s seq hf state settles set home u
  have restarted := restart_eq s.rest.supervise
  have module : (if s.rest.supervise.configured then ModuleState.standby else .unconfigured) =
      state := by
    show (if (s.module != .unconfigured) = true then _ else _) = _
    unfold state
    cases s.module <;> rfl
  have homes : (allDiverters.filter fun d =>
      s.rest.supervise.restartsDiverter d && s.rest.supervise.homeRead d) =
      allDiverters.filter fun d => settles d && home d := by
    refine List.filter_congr fun d _ => ?_
    show (settles d && (s.inputs.homes[d] && !s.leavingHome d)) = (settles d && home d)
    unfold home
    cases settles d <;> rfl
  rw [module, homes] at restarted
  have effect : opRestart [] s.rest.supervise = (s.rest.supervise.restarted.postAll
      (.moduleState state .restart :: (allDiverters.filter fun d => settles d && home d).map
        fun d => .diverterChange d .idle .homed), .fixed [0x00#8, sentModuleState state]) := by
    unfold opRestart stateAnswer
    dsimp only
    rw [restarted, ← moduleStateCode_eq, postAll_frame, ← module]
    rfl
  have eyes : s.rest.supervise.restarted.eyes = u.eyes := by
    refine congrArg Vector.ofFn (funext fun e => ?_)
    show s.restartEye e = _
    unfold State.restartEye
    cases s.eyes[e].state <;> rfl
  have diverters : s.rest.supervise.restarted.diverters = u.diverters := by
    refine congrArg Vector.ofFn (funext fun d => ?_)
    show (if settles d then s.settledUnit d else s.diverters[d]) = _
    cases hd : settles d with
    | false => rfl
    | true =>
      have read : s.homeRead d = home d := by
        unfold home State.homeRead
        rw [hd, Bool.true_and]
      unfold State.settledUnit
      rw [read]
      rfl
  have same : { s.rest.supervise.restarted with link := u.link, zones := u.zones } = u := by
    calc { s.rest.supervise.restarted with link := u.link, zones := u.zones }
        = { u with
            module := s.rest.supervise.restarted.module
            eyes := s.rest.supervise.restarted.eyes
            diverters := s.rest.supervise.restarted.diverters } := rfl
      _ = u := by
        rw [eyes, diverters, show s.rest.supervise.restarted.module = u.module from module]
  have zones (z : ZoneId) : s.rest.supervise.restarted.zones[z] = s.rest.supervise.zones[z].restart := by
    simp [State.restarted, State.cleared, State.giveUp]
  have reasons (z : ZoneId) : { s.rest.supervise.restarted.zones[z] with
      reasons := { s.rest.supervise.restarted.zones[z].reasons with
        link := u.zones[z].reasons.link } } = u.zones[z] := by
    rw [zones, supervised_zone]
    simp only [u, Fin.getElem_fin, Vector.getElem_ofFn]
    split <;> rfl
  have permits (z : ZoneId) : u.zones[z].permit = s.zones[z].permit := by simp [u]
  obtain ⟨t, ht, brings, cache⟩ := request_takes 0x05#8 seq (opRestart []) s u
    s.rest.supervise.restarted _ _ hf effect same reasons permits
  have unsent : t.reports.Unsent 1 := by
    rw [brings.2]
    refine postAll_unsent (s := u.post (.moduleState state .restart)) ?_ _
    rw [State.post, post_of_hasRoom (q := u.reports) rfl]
    exact ⟨by simp [u], rfl, rfl, rfl⟩
  refine ⟨t, ht, brings, cache, unsent.count, unsent.timer, unsent.entry, fun d hd => ?_⟩
  have elsewhere : SameElsewhere u t := brings.1.1
  unfold SameElsewhere at elsewhere
  have inputs := congrArg State.inputs elsewhere
  have settling : settles d = true := by
    unfold settles
    rw [leavingHome_extending hd]
    rfl
  refine homeInactiveEdge_next ?_
  rw [show t.inputs = u.inputs from inputs]
  simp [u, home, hd, settling]

/-! ### COMMIT_LAYOUT (R141, R143) -/

/-- R143: what an accepted commit leaves, but for its reports. -/
def State.committed (s : State) : State :=
  { s.takeLayout with
    inputs := { s.inputs with homes := Vector.ofFn fun d =>
      s.inputs.homes[d] && !(s.pendingLayout.diverters[d].isSome && s.leavingHome d) }
    diverters := Vector.ofFn fun d =>
      match s.pendingLayout.diverters[d] with
      | some v => if s.homeRead d then ⟨.idle, none, none, false⟩
        else ⟨.settling, some ⟨v.returnTimeout, 0⟩, none, false⟩
      | none => ⟨.undefined, none, none, false⟩ }

theorem takeLayout_diverter (s : State) (d : DiverterId) : s.takeLayout.diverters[d] =
    if s.pendingLayout.diverters[d].isSome then s.diverters[d] else Diverter.blank := by
  simp [State.takeLayout]

theorem takeLayout_homeRead {s : State} {d : DiverterId}
    (h : s.pendingLayout.diverters[d].isSome = true) :
    s.takeLayout.leavingHome d = s.leavingHome d ∧ s.takeLayout.homeRead d = s.homeRead d := by
  have leaving : s.takeLayout.leavingHome d = s.leavingHome d := by
    unfold State.leavingHome
    rw [takeLayout_diverter, if_pos h]
    rfl
  refine ⟨leaving, ?_⟩
  unfold State.homeRead
  rw [leaving]
  rfl

/-- A report ahead of the sweep goes ahead of its reports. -/
theorem post_settleDiverters (r : Report) (which : DiverterId → Bool) (s : State) :
    (s.post r).settleDiverters which =
      ({ s with
        inputs := { s.inputs with homes := Vector.ofFn fun d =>
          s.inputs.homes[d] && !(which d && s.leavingHome d) }
        diverters := Vector.ofFn fun d =>
          if which d then s.settledUnit d else s.diverters[d] } : State).postAll
        (r :: (allDiverters.filter fun d => which d && s.homeRead d).map
          fun d => .diverterChange d .idle .homed) := by
  rw [settleDiverters_eq, postAll_cons]
  rfl

theorem takeLayout_settledUnit {s : State} {d : DiverterId} {v : DiverterDef}
    (h : s.pendingLayout.diverters[d] = some v) : s.takeLayout.settledUnit d =
      if s.homeRead d then ⟨.idle, none, none, false⟩
      else ⟨.settling, some ⟨v.returnTimeout, 0⟩, none, false⟩ := by
  have timer := diverterTimer_eq (s := s.takeLayout) h DiverterDef.returnTimeout
  unfold State.settledUnit
  rw [(takeLayout_homeRead (by rw [h]; rfl)).2, timer]

/-- R143: the diverters of the new layout settle; the others are as the layout leaves them. -/
theorem commit_eq (s : State) : s.commit =
    s.committed.postAll (.moduleState .standby .commit ::
      (allDiverters.filter fun d => s.pendingLayout.diverters[d].isSome && s.homeRead d).map
        fun d => .diverterChange d .idle .homed) := by
  have inputs : s.takeLayout.inputs = s.inputs := rfl
  have homes (d : DiverterId) : (s.inputs.homes[d] &&
      !(s.pendingLayout.diverters[d].isSome && s.takeLayout.leavingHome d)) =
      (s.inputs.homes[d] && !(s.pendingLayout.diverters[d].isSome && s.leavingHome d)) := by
    cases h : s.pendingLayout.diverters[d].isSome with
    | false => simp only [Bool.false_and]
    | true => rw [(takeLayout_homeRead h).1]
  have units (d : DiverterId) : (if s.pendingLayout.diverters[d].isSome then
      s.takeLayout.settledUnit d else s.takeLayout.diverters[d]) =
      match s.pendingLayout.diverters[d] with
      | some v => if s.homeRead d then ⟨.idle, none, none, false⟩
        else ⟨.settling, some ⟨v.returnTimeout, 0⟩, none, false⟩
      | none => ⟨.undefined, none, none, false⟩ := by
    cases h : s.pendingLayout.diverters[d] with
    | none => rw [takeLayout_diverter, h]; rfl
    | some v => exact takeLayout_settledUnit h
  have reads (d : DiverterId) : (s.pendingLayout.diverters[d].isSome && s.takeLayout.homeRead d) =
      (s.pendingLayout.diverters[d].isSome && s.homeRead d) := by
    cases h : s.pendingLayout.diverters[d].isSome with
    | false => simp only [Bool.false_and]
    | true => rw [(takeLayout_homeRead h).2]
  unfold State.commit State.committed
  rw [post_settleDiverters, inputs]
  simp only [homes, units, reads]

/-- R22, R37, Table 1-4: the zones at a commit, with every record free. -/
theorem takeLayout_zone {s : State} (hn : s.pendingLayout.line.poolReserve ≤ s.freeRecords)
    (z : ZoneId) : s.takeLayout.zones[z] = { s.zones[z] with
      reasons := ⟨true, s.zones[z].reasons.estop, false,
        s.zones[z].reasons.host && s.pendingLayout.zones[z].isSome, false, false, false⟩ } := by
  have reserve : (s.layoutTaken.configured &&
      decide (s.layoutTaken.freeRecords < s.layoutTaken.activeLayout.line.poolReserve)) = false := by
    rw [Bool.and_eq_false_iff]
    exact .inr (decide_eq_false (Nat.not_lt.2 hn))
  have one : s.layoutTaken.zones[z] = s.zones[z].commit s.pendingLayout.zones[z].isSome := by
    simp [State.layoutTaken, State.zoneDefined]
  rw [takeLayout_eq, State.evaluatePoolLow, reserve, modifyReasons_zone, one]
  split <;> rfl

theorem opCommitLayout_accepted {s : State} (h : s.module ≠ .tracking) (hi : s.lineItems = [])
    (ha : s.announcements = []) (hv : s.pendingLayout.validate = none) :
    opCommitLayout [] s = stateAnswer .ok s.commit := by
  unfold opCommitLayout
  dsimp only
  rw [if_neg h, hi, ha, hv]
  rfl

theorem inductionEye_defined {l : Layout} {e : EyeId} (h : l.inductionEye = some e) :
    ∃ d, l.eyes[e] = some d ∧ d.role = .induct := by
  unfold Layout.inductionEye at h
  have found := List.find?_some h
  simpa [Option.any_eq_true] using found

/-- Settles O37: the request's effect is the commit of the state that the frame's signs of life leave. -/
theorem acceptedCommitTakesUpThePendingLayout :
    Obligations.AcceptedCommitTakesUpThePendingLayout := by
  unfold Obligations.AcceptedCommitTakesUpThePendingLayout
  intro s seq hf hm hi ha hv hn hp l blocked home u
  have committed := commit_eq s.rest.supervise
  have line : s.rest.supervise.lineItems = [] :=
    (lineItems_congr (supervise_aside s).track).trans hi
  have homes : (allDiverters.filter fun d =>
      s.rest.supervise.pendingLayout.diverters[d].isSome && s.rest.supervise.homeRead d) =
      allDiverters.filter fun d => l.diverters[d].isSome && home d := by
    refine List.filter_congr fun d _ => ?_
    show (l.diverters[d].isSome && (s.inputs.homes[d] && !s.leavingHome d)) = _
    unfold home
    cases l.diverters[d].isSome <;> rfl
  rw [homes] at committed
  have accepted := opCommitLayout_accepted (s := s.rest.supervise) hm line ha hv
  have answered (rs : List Report) : stateAnswer .ok (s.rest.supervise.committed.postAll rs) =
      (s.rest.supervise.committed.postAll rs, .fixed [0x00#8, 0x01#8]) := by
    unfold stateAnswer
    rw [postAll_frame]
    rfl
  rw [committed, answered] at accepted
  have reads (e : EyeId) (d : EyeDef) : blockedThrough d.sense s.inputs.eyes[e] = blocked e d := by
    unfold blocked
    cases d.sense <;> rfl
  have eyes : s.rest.supervise.committed.eyes = u.eyes := by
    refine congrArg Vector.ofFn (funext fun e => ?_)
    show (if l.eyes[e].isSome then (⟨if (match l.eyes[e] with
      | some d => blockedThrough d.sense s.inputs.eyes[e]
      | none => s.inputs.eyes[e]) then .blocked else .clear, 0⟩ : Eye) else Eye.blank) = _
    cases h : l.eyes[e] with
    | none => rfl
    | some d => simp only [reads]; rfl
  have diverters : s.rest.supervise.committed.diverters = u.diverters := by
    refine congrArg Vector.ofFn (funext fun d => ?_)
    show (match l.diverters[d] with
      | some v => if s.homeRead d then ⟨.idle, none, none, false⟩
        else ⟨.settling, some ⟨v.returnTimeout, 0⟩, none, false⟩
      | none => ⟨.undefined, none, none, false⟩ : Diverter) = _
    cases h : l.diverters[d] with
    | none => rfl
    | some v =>
      have read : s.homeRead d = home d := by
        unfold home State.homeRead
        rw [h, Option.isSome_some, Bool.true_and]
      rw [read]
  have span : s.rest.supervise.committed.span = u.span := by
    show (if l.inductionEye.any (fun e => match l.eyes[e] with
      | some d => blockedThrough d.sense s.inputs.eyes[e]
      | none => s.inputs.eyes[e]) then SpanState.passed else .idle) = _
    have found : l.inductionEye.any (fun e => match l.eyes[e] with
        | some d => blockedThrough d.sense s.inputs.eyes[e]
        | none => s.inputs.eyes[e]) = l.inductionEye.any fun e => l.eyes[e].any (blocked e) := by
      cases he : l.inductionEye with
      | none => rfl
      | some e =>
        obtain ⟨d, hd, -⟩ := inductionEye_defined he
        simp only [Option.any_some, hd, reads]
    rw [found]
  have same : { s.rest.supervise.committed with link := u.link, zones := u.zones } = u := by
    calc { s.rest.supervise.committed with link := u.link, zones := u.zones }
        = { u with
            span := s.rest.supervise.committed.span
            eyes := s.rest.supervise.committed.eyes
            diverters := s.rest.supervise.committed.diverters } := rfl
      _ = u := by rw [eyes, diverters, span]
  have reasons (z : ZoneId) : { s.rest.supervise.committed.zones[z] with
      reasons := { s.rest.supervise.committed.zones[z].reasons with
        link := u.zones[z].reasons.link } } = u.zones[z] := by
    have zone : s.rest.supervise.committed.zones[z] = s.rest.supervise.takeLayout.zones[z] := rfl
    have enough : s.rest.supervise.pendingLayout.line.poolReserve ≤ s.rest.supervise.freeRecords :=
      hp.trans (hn ▸ by decide)
    rw [zone, takeLayout_zone enough, supervised_zone]
    simp only [u, Fin.getElem_fin, Vector.getElem_ofFn]
    split <;> rfl
  have permits (z : ZoneId) : u.zones[z].permit = s.zones[z].permit := by simp [u]
  exact request_takes 0x19#8 seq (opCommitLayout []) s u s.rest.supervise.committed _ _ hf accepted same
    reasons permits

end Sys2Proof.Machine
end

section
/-! PROOFS. The emergency stop: `EstopHoldsTheZonesAndWithdrawsTheStrokes` (R14, R105, R108, R117, R124). -/

namespace Sys2Proof.Machine

set_option Elab.async false

/-! ### The items of several slots returned (R117, R124) -/

/-- The items in the slots of the diverters `ds`, each with its diverter. -/
def State.slotted (s : State) (ds : List DiverterId) : List (Nat × DiverterId) :=
  ds.flatMap fun d => s.diverters[d].slot.toList.map fun x => (x, d)

/-- R117: the assignment that a returned item gets, the diverter that it was assigned to being excluded. -/
def State.newBack (s : State) (x : Nat) : Option DiverterId :=
  (s.findItem x).bind fun i => i.assigned.bind fun d => s.assignment i (some d)

theorem mem_slotted {s : State} {ds : List DiverterId} {r : Nat × DiverterId} :
    r ∈ s.slotted ds ↔ r.2 ∈ ds ∧ s.diverters[r.2].slot = some r.1 := by
  obtain ⟨x, d⟩ := r
  simp only [State.slotted, List.mem_flatMap, List.mem_map, Option.mem_toList, Prod.mk.injEq]
  constructor
  · rintro ⟨e, he, y, hy, rfl, rfl⟩
    exact ⟨he, hy⟩
  · rintro ⟨hd, hx⟩
    exact ⟨d, hd, x, hx, rfl, rfl⟩

theorem Booked.newBack {s : State} (h : Booked s none) {d : DiverterId} {x : Nat}
    (hx : s.diverters[d].slot = some x) : s.newBack x = s.newFor d x := by
  obtain ⟨i, hi, rfl, -, ha⟩ := (h.claims.slotted d x).1 hx
  unfold State.newBack State.newFor
  rw [h.pool.findItem_of_mem hi, Option.bind_some, Option.bind_some, ha]
  rfl

/-- R116: a tag is in one slot at most. -/
theorem Booked.slot_unique {s : State} (h : Booked s none) {d e : DiverterId} {x : Nat}
    (hd : s.diverters[d].slot = some x) (he : s.diverters[e].slot = some x) : d = e :=
  Option.some.inj (h.pool.holds_unique ((h.claims.slotted d x).1 hd) ((h.claims.slotted e x).1 he)).2

theorem Moves.newBack {s t : State} {tags : List Nat} {new : Nat → Option DiverterId}
    {edit : Item → Item} {rs : List Report} (h : Moves s t tags new edit rs)
    (ht : ∀ i, (edit i).tag = i.tag)
    (hd : ∀ d : DiverterId, t.diverters[d].state.inService = s.diverters[d].state.inService)
    {x : Nat} (hx : x ∉ tags) : t.newBack x = s.newBack x := by
  unfold State.newBack
  rw [h.findItem ht hx]
  refine congrArg _ (funext fun i => congrArg _ (funext fun d => ?_))
  exact assignment_of_service h.activeLayout hd (h.position i) _

theorem returnItem_unit (s : State) (d e : DiverterId) (cause : MissCause) :
    (s.returnItem d cause).diverters[e] =
      if d = e then { s.diverters[e] with slot := none } else s.diverters[e] := by
  rw [returnItem_diverters, getElem_set_fin]
  split
  · next h => subst h; rfl
  · rfl

theorem slotted_congr {s t : State} {ds : List DiverterId}
    (h : ∀ d ∈ ds, t.diverters[d].slot = s.diverters[d].slot) : t.slotted ds = s.slotted ds :=
  List.flatMap_congr fun d hd => by rw [h d hd]

/-- R108, R124: the items of the slots of `ds` returned, one after another. -/
theorem returnItems_moves {s : State} (h : Booked s none) (cause : MissCause) {ds : List DiverterId}
    (hn : ds.Nodup) :
    Moves s (ds.foldl (fun t d => t.returnItem d cause) s) ((s.slotted ds).map Prod.fst) s.newBack
      s.backOnLine ((s.slotted ds).map fun r => .missedDivert r.1 r.2 cause (s.newBack r.1)) := by
  induction ds generalizing s with
  | nil => exact .refl ..
  | cons d ds ih =>
    obtain ⟨absent, hn⟩ := List.nodup_cons.1 hn
    have first := (returnItem_moves h d cause).congr (other := s.newBack) fun x hx =>
      (h.newBack (by simpa using hx)).symm
    have service (e : DiverterId) :
        (s.returnItem d cause).diverters[e].state.inService = s.diverters[e].state.inService := by
      rw [returnItem_unit]
      split <;> rfl
    have kept : (s.returnItem d cause).slotted ds = s.slotted ds :=
      slotted_congr fun e he => by
        have other : d ≠ e := fun hd => absent (hd ▸ he)
        rw [returnItem_unit, if_neg other]
    have apart : ∀ x ∈ s.diverters[d].slot.toList, x ∉ (s.slotted ds).map Prod.fst := by
      intro x hx hm
      obtain ⟨⟨y, e⟩, hr, rfl⟩ := List.mem_map.1 hm
      obtain ⟨he, hy⟩ := mem_slotted.1 hr
      exact absent (h.slot_unique (by simpa using hx) hy ▸ he)
    have same : ∀ x ∈ (s.slotted ds).map Prod.fst, (s.returnItem d cause).newBack x = s.newBack x :=
      fun x hx => first.newBack (fun _ => rfl) service fun hd => apart x hd hx
    have back : (s.returnItem d cause).backOnLine = s.backOnLine := by
      funext i
      unfold State.backOnLine
      rw [first.zone]
    have rest := ih (returnItem_spec h d cause).1 hn
    rw [kept, back] at rest
    have all := first.trans (rest.congr same) (fun _ => rfl) apart
    have tags : (s.slotted (d :: ds)).map Prod.fst =
        s.diverters[d].slot.toList ++ (s.slotted ds).map Prod.fst := by
      simp [State.slotted, Function.comp_def]
    have head : (s.diverters[d].slot.toList.map fun x => Report.missedDivert x d cause (s.newFor d x)) =
        (s.diverters[d].slot.toList.map fun x => (x, d)).map
          fun r => Report.missedDivert r.1 r.2 cause (s.newBack r.1) := by
      rw [List.map_map]
      exact List.map_congr_left fun x hx => by
        have slot : s.diverters[d].slot = some x := by simpa using hx
        exact congrArg (Report.missedDivert x d cause) (h.newBack slot).symm
    have tail : ((s.slotted ds).map fun r =>
        Report.missedDivert r.1 r.2 cause ((s.returnItem d cause).newBack r.1)) =
        (s.slotted ds).map fun r => Report.missedDivert r.1 r.2 cause (s.newBack r.1) :=
      List.map_congr_left fun r hr => by rw [same _ (List.mem_map_of_mem hr)]
    rw [head, tail, ← List.map_append, ← tags] at all
    exact all

theorem returnItems_units (s : State) (cause : MissCause) (ds : List DiverterId) :
    (ds.foldl (fun t d => t.returnItem d cause) s).diverters = Vector.ofFn fun d =>
      if d ∈ ds then { s.diverters[d] with slot := none } else s.diverters[d] := by
  have one (d : DiverterId) : (ds.foldl (fun t d => t.returnItem d cause) s).diverters[d] =
      if d ∈ ds then { s.diverters[d] with slot := none } else s.diverters[d] := by
    induction ds generalizing s with
    | nil => rfl
    | cons e ds ih =>
      rw [List.foldl_cons, ih, returnItem_unit]
      by_cases he : e = d
      · subst he; simp
      · simp [he, Ne.symm he]
  ext i hi : 1
  rw [Vector.getElem_ofFn]
  exact one ⟨i, hi⟩

/-! ### The strokes withdrawn (R105, R124) -/

section

variable {s : State} {d : DiverterId}

/-- R105, R124: the unit of a diverter whose stroke an emergency stop has withdrawn. -/
def State.withdrawnUnit (s : State) (d : DiverterId) : Diverter :=
  if s.diverters[d].state.driven then
    if s.homeRead d then ⟨.idle, none, s.diverters[d].slot, false⟩
    else ⟨.retracting, s.diverterTimer d DiverterDef.returnTimeout, s.diverters[d].slot,
      s.diverters[d].testMark⟩
  else s.diverters[d]

/-- R105, R108: the report of a stroke whose actuator is home at once. -/
def State.withdrawnReports (s : State) (d : DiverterId) : List Report :=
  if s.diverters[d].state.driven && s.homeRead d && s.diverters[d].testMark then
    [.diverterChange d .idle .testComplete]
  else []

theorem homeRead_undriven (h : s.diverters[d].state.driven = false) :
    s.homeRead d = s.inputs.homes[d] := by
  unfold State.homeRead State.leavingHome
  rw [decide_eq_false fun he => by rw [he] at h; cases h]
  simp

theorem sweptAt_self (w : State) (d : DiverterId) :
    w.sweptAt d w.inputs.homes[d] w.diverters[d] = w := by
  unfold State.sweptAt
  simp

/-- R105: RETRACTING is entered, and left at once by a diverter that is home. -/
theorem enterRetracting_eq (s : State) (d : DiverterId) : s.enterRetracting d =
    (s.modifyDiverter d fun u => if s.inputs.homes[d] then ⟨.idle, none, u.slot, false⟩
      else ⟨.retracting, s.diverterTimer d DiverterDef.returnTimeout, u.slot, u.testMark⟩).postAll
      (if s.inputs.homes[d] && s.diverters[d].testMark then [.diverterChange d .idle .testComplete]
        else []) := by
  unfold State.enterRetracting
  cases s.inputs.homes[d] with
  | false => rfl
  | true =>
    have twice (f g : Diverter → Diverter) : (s.modifyDiverter d f).modifyDiverter d g =
        s.modifyDiverter d fun u => g (f u) := by
      simp [State.modifyDiverter]
    have mark (f : Diverter → Diverter) :
        (s.modifyDiverter d f).diverters[d] = f s.diverters[d] := by
      rw [modifyDiverter_diverter, if_pos rfl]
    unfold State.retracted
    dsimp only
    rw [twice, mark]
    cases s.diverters[d].testMark <;> rfl

theorem withdrawStroke_sweeps {w : State} (h : Unswept s w d) : w.withdrawStroke d =
    (w.sweptAt d (s.homeRead d) (s.withdrawnUnit d)).postAll (s.withdrawnReports d) := by
  unfold State.withdrawStroke State.withdrawnUnit State.withdrawnReports
  rw [h.unit]
  cases hd : s.diverters[d].state.driven with
  | false =>
    rw [homeRead_undriven hd, ← h.home, ← h.unit]
    exact (sweptAt_self w d).symm
  | true =>
    have read : w.readHome d =
        { w with inputs := { w.inputs with homes := w.inputs.homes.set d (s.homeRead d) } } := by
      rw [State.readHome_frame, ← h.homeRead]
      rfl
    have level : (w.inputs.homes.set d (s.homeRead d))[d] = s.homeRead d := by simp
    have timer := h.diverterTimer DiverterDef.returnTimeout
    rw [read, enterRetracting_eq, ← timer, ← h.unit]
    dsimp only
    rw [level]
    unfold State.sweptAt State.modifyDiverter
    cases s.homeRead d <;> rfl

/-- R124: the diverters whose strokes have their items still in their slots. -/
def State.extending (s : State) : List DiverterId :=
  allDiverters.filter fun d => s.diverters[d].state = .extending

theorem mem_extending {s : State} {d : DiverterId} :
    d ∈ s.extending ↔ s.diverters[d].state = .extending := by
  simp [State.extending, mem_allDiverters]

/-- The items that an emergency stop returns. -/
def State.stoppedTags (s : State) : List Nat := (s.slotted s.extending).map Prod.fst

/-- R105, R117, R124: what an emergency stop leaves at the diverters, but for its reports. -/
def State.stopped (s : State) (claims : Vector (List Nat) 16) : State :=
  { s with
    inputs := { s.inputs with homes := Vector.ofFn s.homeRead }
    claims := claims
    diverters := Vector.ofFn fun d =>
      if s.diverters[d].state = .extending then { s.withdrawnUnit d with slot := none }
      else s.withdrawnUnit d
    zones := Vector.ofFn fun z => { s.zones[z] with
      track := s.zones[z].track.map (Item.moved s.stoppedTags s.newBack s.backOnLine) } }

theorem swept_postAll (ds : List DiverterId) (home : DiverterId → Bool) (unit : DiverterId → Diverter)
    (rs : List Report) : (s.swept ds home unit).postAll rs = { s.swept ds home unit with
      reports := (s.postAll rs).reports, counters := (s.postAll rs).counters } :=
  postAll_congr (by dsimp only [State.swept]) (by dsimp only [State.swept]) rs

theorem stopped_postAll (claims : Vector (List Nat) 16) (rs : List Report) :
    (s.stopped claims).postAll rs = { s.stopped claims with
      reports := (s.postAll rs).reports, counters := (s.postAll rs).counters } :=
  postAll_congr (by dsimp only [State.stopped]) (by dsimp only [State.stopped]) rs

/-- R108: the reports of an emergency stop at the diverters. -/
def State.stopReports (s : State) : List Report :=
  allDiverters.flatMap s.withdrawnReports ++
    (s.slotted s.extending).map fun r => .missedDivert r.1 r.2 .estop (s.newBack r.1)

theorem withdrawnUnit_slot (s : State) (d : DiverterId) :
    (s.withdrawnUnit d).slot = s.diverters[d].slot := by
  unfold State.withdrawnUnit
  split_ifs <;> rfl

theorem withdrawnUnit_service (s : State) (d : DiverterId) :
    (s.withdrawnUnit d).state.inService = s.diverters[d].state.inService := by
  have serving {x : DiverterState} (h : x.driven = true) : x.inService = true := by
    revert h
    cases x <;> decide
  unfold State.withdrawnUnit
  split_ifs with hd hh
  · exact (serving hd).symm
  · exact (serving hd).symm
  · rfl

theorem withdrawn_eq (s : State) : allDiverters.foldl State.withdrawStroke s =
    (s.swept allDiverters s.homeRead s.withdrawnUnit).postAll
      (allDiverters.flatMap s.withdrawnReports) :=
  foldl_sweeps (fun _ _ h => withdrawStroke_sweeps h) allDiverters_nodup

theorem withdrawn_booked {s : State} (h : Lawful s) :
    Booked (allDiverters.foldl State.withdrawStroke s) none := by
  have start : Withdrawing s s.extending :=
    ⟨h.booked, h.served, fun d hs => List.mem_filter.2
      ⟨mem_allDiverters d, decide_eq_true (by_contra fun he => hs (h.struck d he))⟩⟩
  have withdrawn (l : List DiverterId) {t : State} (ht : Withdrawing t s.extending) :
      Withdrawing (l.foldl State.withdrawStroke t) s.extending := by
    induction l generalizing t with
    | nil => exact ht
    | cons d l ih => exact ih (ht.withdrawStroke d)
  exact (withdrawn allDiverters start).booked

/-- R124: the two passes of an emergency stop. -/
theorem withdrawStrokes_eq {s : State} (h : Lawful s) :
    s.withdrawStrokes = (s.stopped s.withdrawStrokes.claims).postAll s.stopReports ∧
    (∀ v : DiverterId, (s.withdrawStrokes.claims[v].filter fun x => !s.stoppedTags.contains x) =
      s.claims[v].filter fun x => !s.stoppedTags.contains x) ∧
    ∀ v : DiverterId, ∀ x ∈ s.stoppedTags,
      (x ∈ s.withdrawStrokes.claims[v] ↔ s.newBack x = some v) := by
  have booked := withdrawn_booked h
  have swept := withdrawn_eq s
  unfold State.withdrawStrokes
  rw [← State.extending]
  generalize allDiverters.foldl State.withdrawStroke s = w at booked swept ⊢
  have frame := postAll_frame (allDiverters.flatMap s.withdrawnReports)
    (s.swept allDiverters s.homeRead s.withdrawnUnit)
  rw [← swept] at frame
  have zones : w.zones = s.zones := by rw [frame, State.swept]
  have claims : w.claims = s.claims := by rw [frame, State.swept]
  have layout : w.activeLayout = s.activeLayout := by rw [frame, State.swept]
  have unit (d : DiverterId) : w.diverters[d] = s.withdrawnUnit d := by
    rw [frame]
    simp [State.swept, mem_allDiverters]
  have slotted : w.slotted s.extending = s.slotted s.extending :=
    slotted_congr fun d _ => by rw [unit, withdrawnUnit_slot]
  have back : w.backOnLine = s.backOnLine := by
    funext i
    unfold State.backOnLine
    rw [zones]
  have new : w.newBack = s.newBack := by
    funext x
    have found : w.findItem x = s.findItem x := by
      unfold State.findItem State.lineItems
      rw [zones]
    unfold State.newBack
    rw [found]
    refine congrArg _ (funext fun i => congrArg _ (funext fun d => ?_))
    refine assignment_of_service layout (fun d => ?_) ?_ _
    · rw [unit, withdrawnUnit_service]
    · unfold State.position
      rw [zones]
  have moves := returnItems_moves booked .estop (ds := s.extending) (allDiverters_nodup.filter _)
  have units := returnItems_units w .estop s.extending
  rw [slotted, back, new, ← State.stoppedTags] at moves
  generalize s.extending.foldl (fun t d => t.returnItem d .estop) w = t at moves units ⊢
  refine ⟨?_, fun v => by rw [← claims]; exact moves.kept v, moves.claimed⟩
  have tz : t.zones = (s.stopped t.claims).zones := by
    ext i hi : 1
    have one := moves.zone ⟨i, hi⟩
    rw [zones] at one
    simpa [State.stopped] using one
  have td : t.diverters = (s.stopped t.claims).diverters := by
    rw [units]
    simp only [unit, mem_extending]
    rfl
  have hf := moves.frame
  rw [tz, td, swept, ← postAll_append] at hf
  refine hf.trans ?_
  unfold State.stopReports
  rw [swept_postAll, stopped_postAll]
  dsimp only [State.swept, State.stopped]
  simp only [mem_allDiverters, if_true]

end

/-! ### The statement -/

theorem driven_eq_false {x : DiverterState} (he : x ≠ .extending) (hh : x ≠ .holding) :
    x.driven = false := by
  revert he hh
  cases x <;> decide

section

variable {s : State} (hl : DiverterLaws s)
include hl

/-- R105, Table 6-3: what the withdrawal leaves of a diverter, by its state and its actuator. -/
theorem withdrawnUnit_eq (hr : Lawful s) (d : DiverterId) :
    (if s.diverters[d].state = .extending then { s.withdrawnUnit d with slot := none }
      else s.withdrawnUnit d) =
      if s.leavingHome d = true ∨ s.diverters[d].state = .holding then
        ⟨.retracting, some ⟨(s.activeLayout.diverters[d].map DiverterDef.returnTimeout).getD 0, 0⟩,
          none, s.diverters[d].testMark⟩
      else if s.diverters[d].state = .extending then ⟨.idle, none, none, false⟩
      else s.diverters[d] := by
  obtain ⟨-, home, away, -⟩ := hl d
  by_cases he : s.diverters[d].state = .extending
  · have read : s.homeRead d = !s.leavingHome d := by
      rw [State.homeRead, home (.inr he), Bool.true_and]
    unfold State.withdrawnUnit
    rw [read, he]
    cases s.leavingHome d <;> rfl
  · have stays : s.leavingHome d = false := Bool.eq_false_iff.2 fun h => he (leavingHome_extending h)
    rw [if_neg he, stays]
    by_cases hh : s.diverters[d].state = .holding
    · have read : s.homeRead d = false := by
        rw [State.homeRead, away (.inr (.inl hh))]
        rfl
      unfold State.withdrawnUnit
      rw [read, hh, hr.struck d he]
      rfl
    · have undriven : s.diverters[d].state.driven = false := by
        cases hs : s.diverters[d].state <;> simp_all [DiverterState.driven]
      unfold State.withdrawnUnit
      simp only [undriven, Bool.false_eq_true, false_or, hh, he, if_false]

theorem withdrawnReports_eq : allDiverters.flatMap s.withdrawnReports =
    ((allDiverters.filter fun d => s.diverters[d].state == .extending).filter fun d =>
      s.diverters[d].testMark && !s.leavingHome d).map
        fun d => .diverterChange d .idle .testComplete := by
  have all := flatMap_posts allDiverters (fun _ => true) (fun d => (s.diverters[d].testMark &&
    !s.leavingHome d) && s.diverters[d].state == .extending) fun d => .diverterChange d .idle .testComplete
  simp only [List.filter_true, Bool.true_and] at all
  rw [List.filter_filter, ← all]
  refine List.flatMap_congr fun d _ => ?_
  obtain ⟨-, home, away, -⟩ := hl d
  have same : (s.diverters[d].state.driven && s.homeRead d && s.diverters[d].testMark) =
      ((s.diverters[d].testMark && !s.leavingHome d) && s.diverters[d].state == .extending) := by
    by_cases he : s.diverters[d].state = .extending
    · rw [State.homeRead, home (.inr he), he]
      cases s.diverters[d].testMark <;> cases s.leavingHome d <;> rfl
    · rw [beq_eq_false_iff_ne.2 he, Bool.and_false]
      by_cases hh : s.diverters[d].state = .holding
      · rw [State.homeRead, away (.inr (.inl hh))]
        simp
      · rw [driven_eq_false he hh]
        rfl
  unfold State.withdrawnReports
  rw [same]

end

theorem claims_of_sameElsewhere {u t : State} (h : SameElsewhere u t) : t.claims = u.claims := by
  unfold SameElsewhere at h
  exact (congrArg State.claims h :)

theorem inputs_of_sameElsewhere {u t : State} (h : SameElsewhere u t) : t.inputs = u.inputs := by
  unfold SameElsewhere at h
  exact (congrArg State.inputs h :)

theorem stopped_claims (s : State) (claims : Vector (List Nat) 16) : (s.stopped claims).claims = claims := rfl

/-- Settles O58: the zone unit's part is one equation; the diverter unit's is the two passes of
`withdrawStrokes`. -/
theorem estopHoldsTheZonesAndWithdrawsTheStrokes :
    Obligations.EstopHoldsTheZonesAndWithdrawsTheStrokes := by
  unfold Obligations.EstopHoldsTheZonesAndWithdrawsTheStrokes
  intro s active ha changed
  refine ⟨?_, fun hi => ?_, fun hi hr hl => ?_⟩
  · exact happening_brings s _ [] (State.estopAtZones active) true ha rfl rfl fun z => by simp
  · exact happening_brings s changed [] (State.estopAtDiverters active) true ha rfl
      (by subst hi; rfl) fun _ => rfl
  · intro extending retracting returned new
    have lawful : Lawful changed := ((recordLaws_iff s).1 hr).same (.of_zones rfl rfl)
    have laws : DiverterLaws changed := hl
    obtain ⟨eq, kept, claimed⟩ := withdrawStrokes_eq lawful
    have list : changed.extending = extending := by
      refine List.filter_congr fun d _ => ?_
      show decide (s.diverters[d].state = .extending) = (s.diverters[d].state == .extending)
      cases s.diverters[d].state <;> rfl
    have pairs : changed.slotted changed.extending = returned := by
      rw [list]
      rfl
    have given : ∀ r ∈ returned, changed.newBack r.1 = new r := fun r hm => by
      rw [← pairs] at hm
      exact lawful.booked.newBack (mem_slotted.1 hm).2
    have reports : changed.stopReports = (extending.filter fun d =>
        s.diverters[d].testMark && !s.leavingHome d).map
          (fun d => .diverterChange d .idle .testComplete) ++
        returned.map fun r => .missedDivert r.1 r.2 .estop (new r) := by
      rw [State.stopReports, withdrawnReports_eq laws, pairs]
      exact congrArg _ (List.map_congr_left fun r hm => by rw [given r hm])
    have line (claims : Vector (List Nat) 16) : changed.stopped claims = { changed with
        inputs := { changed.inputs with
          homes := Vector.ofFn fun d => s.inputs.homes[d] && !s.leavingHome d }
        claims := claims
        diverters := Vector.ofFn fun d =>
          if s.leavingHome d = true ∨ s.diverters[d].state = .holding then retracting d
          else if s.diverters[d].state = .extending then ⟨.idle, none, none, false⟩
          else s.diverters[d]
        zones := Vector.ofFn fun z =>
          { s.zones[z] with track := s.zones[z].track.map fun i =>
              match returned.find? fun r => r.1 = i.tag with
              | some r =>
                { i.markAtRisk with
                  state := .tracked, returnedAt := some s.zones[z].count, assigned := new r }
              | none => i } } := by
      have units : (Vector.ofFn fun d =>
          if s.diverters[d].state = .extending then { changed.withdrawnUnit d with slot := none }
          else changed.withdrawnUnit d) = Vector.ofFn fun d =>
            if s.leavingHome d = true ∨ s.diverters[d].state = .holding then retracting d
            else if s.diverters[d].state = .extending then ⟨.idle, none, none, false⟩
            else s.diverters[d] :=
        congrArg Vector.ofFn (funext fun d => withdrawnUnit_eq laws lawful d)
      have track (z : ZoneId) : s.zones[z].track.map
          (Item.moved changed.stoppedTags changed.newBack changed.backOnLine) =
          s.zones[z].track.map fun i =>
            match returned.find? fun r => r.1 = i.tag with
            | some r =>
              { i.markAtRisk with
                state := .tracked, returnedAt := some s.zones[z].count, assigned := new r }
            | none => i := by
        refine List.map_congr_left fun i hi => ?_
        have hz := lawful.booked.pool.zone z i hi
        cases hf : returned.find? fun r => decide (r.1 = i.tag) with
        | none =>
          refine moved_of_not_mem fun hm => ?_
          obtain ⟨r, hr, ht⟩ := List.mem_map.1 hm
          have absent := List.find?_eq_none.1 hf r (pairs ▸ hr)
          exact absent (decide_eq_true ht)
        | some r =>
          have found : r.1 = i.tag := by simpa using List.find?_some hf
          have hr := List.mem_of_find?_eq_some hf
          have mem : i.tag ∈ changed.stoppedTags := by
            rw [State.stoppedTags, pairs, ← found]
            exact List.mem_map_of_mem hr
          have back := given r hr
          rw [found] at back
          unfold Item.moved State.backOnLine
          rw [if_pos (by simpa using mem), back]
          subst hz
          rfl
      have homes : changed.homeRead = fun d => s.inputs.homes[d] && !s.leavingHome d := rfl
      have zones : (Vector.ofFn fun z => ({ changed.zones[z] with
          track := changed.zones[z].track.map
            (Item.moved changed.stoppedTags changed.newBack changed.backOnLine) } : ZoneUnit)) =
          Vector.ofFn fun z => { s.zones[z] with track := s.zones[z].track.map fun i =>
            match (returned.find? fun r => r.1 = i.tag) with
            | some r =>
              { i.markAtRisk with
                state := .tracked, returnedAt := some s.zones[z].count, assigned := new r }
            | none => i } :=
        congrArg Vector.ofFn (funext fun z =>
          congrArg (fun l => { s.zones[z] with track := l }) (track z))
      unfold State.stopped
      rw [units, homes, zones]
    have brings := finish_brings s (changed.stopped changed.withdrawStrokes.claims) changed.stopReports
      fun z => by simp [State.stopped, changed]
    rw [← eq, reports] at brings
    have ends : (changed.withdrawStrokes).finish.claims = changed.withdrawStrokes.claims :=
      (claims_of_sameElsewhere brings.1.1).trans (stopped_claims _ _)
    have tags : changed.stoppedTags = returned.map Prod.fst := by rw [State.stoppedTags, pairs]
    rw [tags] at kept claimed
    refine ⟨changed.withdrawStrokes.finish, ?_, ?_, fun v => ⟨?_, ?_⟩, fun d hd => ?_⟩
    · have effect : s.estopAtDiverters active = changed.withdrawStrokes := if_pos hi
      show happening true (State.estopAtDiverters active) s = _
      unfold happening
      rw [ha, effect]
      rfl
    · rw [line, ← ends] at brings
      exact brings
    · rw [ends, kept v]
      refine List.filter_eq_self.2 fun x hx => ?_
      rw [← tags, Bool.not_eq_true', List.contains_eq_mem, decide_eq_false_iff_not]
      intro hm
      obtain ⟨r, hr, rfl⟩ := List.mem_map.1 hm
      have slot := (mem_slotted.1 hr).2
      exact lawful.booked.not_mem_slot (d := r.2) hx (by rw [slot]; exact Option.mem_toList.2 rfl)
    · rw [ends]
      intro r hm
      rw [claimed v r.1 (List.mem_map_of_mem hm), given r hm]
    · have same := brings.1.1
      unfold SameElsewhere at same
      have inputs := congrArg State.inputs same
      refine homeInactiveEdge_next ?_
      rw [show changed.withdrawStrokes.finish.inputs = (changed.stopped _).inputs from inputs]
      have leaving : changed.leavingHome d = true := hd
      simp [State.stopped, State.homeRead, leaving]

end Sys2Proof.Machine
end

section
/-! PROOFS. The receiver: `EveryRescanComesToAnEnd`, `ReceiverTakesBytes`, `DiscardCountsAndRescans` and
`ReceivedFrameIsItsRequest` (R148 to R154, R182). -/

namespace Sys2Proof.Machine

set_option Elab.async false

/-! ### Scans that come to an end (R153) -/

/-- What a scan has still to do: each step takes a byte, or gives up a SYNC for good. -/
def scanWork (r : Receiver) (bytes : List Byte) : Nat :=
  (r.held + bytes.length) * (r.held + bytes.length) + bytes.length

theorem scanWork_le_bound (r : Receiver) (bytes : List Byte) :
    scanWork r bytes ≤ scanBound r bytes := by
  unfold scanWork scanBound
  nlinarith

section

variable {b : Byte} {bs buffer : List Byte}

theorem scanWork_hunting : scanWork .hunting bs < scanWork .hunting (b :: bs) := by
  simp only [scanWork, Receiver.held, List.length_cons]
  nlinarith

theorem scanWork_sync : scanWork (.collecting []) bs < scanWork .hunting (b :: bs) := by
  simp only [scanWork, Receiver.held, List.length_cons, List.length_nil]
  nlinarith

theorem scanWork_collected :
    scanWork (.collecting (buffer ++ [b])) bs < scanWork (.collecting buffer) (b :: bs) := by
  simp only [scanWork, Receiver.held, List.length_append, List.length_cons, List.length_nil]
  nlinarith

theorem scanWork_taken : scanWork .hunting bs < scanWork (.collecting buffer) (b :: bs) := by
  simp only [scanWork, Receiver.held, List.length_cons]
  nlinarith

theorem scanWork_failed :
    scanWork .hunting (buffer ++ [b] ++ bs) < scanWork (.collecting buffer) (b :: bs) := by
  simp only [scanWork, Receiver.held, List.length_append, List.length_cons, List.length_nil]
  nlinarith

end

/-- Any two bounds that are enough give one scan. -/
theorem scan_enough {n m : Nat} {r : Receiver} {bytes : List Byte} (hn : scanWork r bytes ≤ n)
    (hm : scanWork r bytes ≤ m) : scan n r bytes = scan m r bytes := by
  induction n generalizing m r bytes with
  | zero =>
    cases bytes with
    | nil => cases m <;> rfl
    | cons b bs =>
      unfold scanWork at hn
      simp at hn
  | succ n ih =>
    cases bytes with
    | nil => cases m <;> rfl
    | cons b bs =>
      cases m with
      | zero =>
        unfold scanWork at hm
        simp at hm
      | succ m =>
        have less {r' : Receiver} {bytes' : List Byte}
            (h : scanWork r' bytes' < scanWork r (b :: bs)) : scan n r' bytes' = scan m r' bytes' :=
          ih (by omega) (by omega)
        cases r with
        | hunting =>
          unfold scan
          rw [less scanWork_hunting, less scanWork_sync]
        | collecting buffer =>
          unfold scan
          rw [less scanWork_collected, less scanWork_taken, less scanWork_failed]

/-- Settles O19: the bound exceeds what a scan has to do. -/
theorem everyRescanComesToAnEnd : Obligations.EveryRescanComesToAnEnd := fun r bytes _ hn =>
  scan_enough ((scanWork_le_bound r bytes).trans hn) (scanWork_le_bound r bytes)

/-! ### A scan, byte by byte (R150, R151, R153) -/

section

variable {b : Byte} {bs buffer : List Byte}

/-- A scan run with one step more than is enough. -/
theorem scanAll_eq (r : Receiver) (bytes : List Byte) :
    scanAll r bytes = scan (scanBound r bytes + 1) r bytes :=
  (everyRescanComesToAnEnd r bytes _ (Nat.le_succ _)).symm

theorem scan_of_bound {n : Nat} {r : Receiver} {bytes : List Byte} (h : scanWork r bytes ≤ n) :
    scan n r bytes = scanAll r bytes := scan_enough h (scanWork_le_bound r bytes)

theorem scanAll_nil (r : Receiver) : scanAll r [] = ([], r) := by
  rw [scanAll_eq]
  rfl

/-- R150: a byte taken while HUNTING. -/
theorem scanAll_hunting (b : Byte) (bs : List Byte) : scanAll .hunting (b :: bs) =
    if b = syncByte then scanAll (.collecting []) bs else scanAll .hunting bs := by
  have enough := scanWork_le_bound .hunting (b :: bs)
  rw [scanAll_eq, scan, scan_of_bound (scanWork_sync.le.trans enough),
    scan_of_bound (scanWork_hunting.le.trans enough)]

/-- R150: a byte that leaves the frame unfinished is collected. -/
theorem scanAll_incomplete (h : judge (buffer ++ [b]) = .incomplete) :
    scanAll (.collecting buffer) (b :: bs) = scanAll (.collecting (buffer ++ [b])) bs := by
  have enough := scanWork_le_bound (.collecting buffer) (b :: bs)
  rw [scanAll_eq, scan, h]
  exact scan_of_bound (scanWork_collected.le.trans enough)

/-- R151: a byte that completes a valid frame. -/
theorem scanAll_valid {f : Frame} (h : judge (buffer ++ [b]) = .valid f) :
    scanAll (.collecting buffer) (b :: bs) =
      (.frame f :: (scanAll .hunting bs).1, (scanAll .hunting bs).2) := by
  have enough := scanWork_le_bound (.collecting buffer) (b :: bs)
  rw [scanAll_eq, scan, h, ← scan_of_bound (scanWork_taken.le.trans enough)]

/-- R153: a byte that makes the frame fail. -/
theorem scanAll_failed (h : judge (buffer ++ [b]) = .failed) :
    scanAll (.collecting buffer) (b :: bs) =
      (.discard :: (scanAll .hunting (buffer ++ [b] ++ bs)).1,
        (scanAll .hunting (buffer ++ [b] ++ bs)).2) := by
  have enough := scanWork_le_bound (.collecting buffer) (b :: bs)
  rw [scanAll_eq, scan, h, ← scan_of_bound (scanWork_failed.le.trans enough)]

/-- R150: bytes that are no SYNC are dropped. -/
theorem scanAll_noise {noise : List Byte} (h : 0xA5#8 ∉ noise) (rest : List Byte) :
    scanAll .hunting (noise ++ rest) = scanAll .hunting rest := by
  induction noise with
  | nil => rfl
  | cons b bs ih =>
    obtain ⟨hb, hbs⟩ := not_or.1 (mt List.mem_cons.2 h)
    have other : b ≠ syncByte := Ne.symm hb
    rw [List.cons_append, scanAll_hunting, if_neg other, ih hbs]

end

/-! ### What a buffer amounts to (R148 to R151) -/

/-- R150: a buffer is unfinished as long as its LENGTH byte is in range and it is short of it. -/
theorem judge_incomplete_iff (len : Byte) (rest : List Byte) :
    judge (len :: rest) = .incomplete ↔ badLength len = false ∧ rest.length < len.toNat + 2 := by
  unfold judge
  dsimp only
  cases hb : badLength len with
  | true => simp
  | false =>
    by_cases hl : rest.length < len.toNat + 2
    · simp [hl]
    · simp only [Bool.false_eq_true, if_false, hl, and_false, iff_false]
      split
      · split <;> exact nofun
      · exact nofun

theorem judge_prefix {front back : List Byte} (h : judge (front ++ back) = .incomplete) :
    judge front = .incomplete := by
  cases front with
  | nil => rfl
  | cons len rest =>
    rw [List.cons_append, judge_incomplete_iff, List.length_append] at h
    exact (judge_incomplete_iff len rest).2 ⟨h.1, by omega⟩

/-- R150, R151: an unfinished buffer that the next byte makes fail is that of a failing frame. -/
theorem frameFails_of_failed {buffer : List Byte} {b : Byte} (hi : judge buffer = .incomplete)
    (hf : judge (buffer ++ [b]) = .failed) : frameFails (buffer ++ [b]) = true := by
  cases buffer with
  | nil =>
    unfold frameFails
    cases hb : badLength b with
    | true => simp [hb]
    | false =>
      have := (judge_incomplete_iff b []).2 ⟨hb, by simp⟩
      rw [List.nil_append, this] at hf
      cases hf
  | cons len rest =>
    obtain ⟨hb, short⟩ := (judge_incomplete_iff len rest).1 hi
    have full : ¬ (rest ++ [b]).length < len.toNat + 2 := fun hl => by
      rw [List.cons_append, (judge_incomplete_iff len _).2 ⟨hb, hl⟩] at hf
      cases hf
    have length : (rest ++ [b]).length = len.toNat + 2 := by
      rw [List.length_append, List.length_singleton] at full ⊢
      omega
    rw [List.cons_append] at hf ⊢
    unfold frameFails
    dsimp only
    rw [hb, hf, length]
    simp

section

variable {f : Frame} (h : f.body.length ≤ 248)
include h

theorem length_toNat : (BitVec.ofNat 8 (f.body.length + 2)).toNat = f.body.length + 2 := by
  rw [BitVec.toNat_ofNat]
  omega

theorem length_inRange : badLength (BitVec.ofNat 8 (f.body.length + 2)) = false := by
  unfold badLength
  rw [length_toNat h]
  simp
  omega

/-- R151: the bytes of a frame, whole. -/
theorem judge_afterSync : judge f.afterSync = .valid f := by
  have covered : f.covered.length = f.body.length + 2 + 1 := by simp [Frame.covered]
  have whole : f.afterSync = BitVec.ofNat 8 (f.body.length + 2) ::
      f.kind :: f.seq :: (f.body ++ checkBytes (crc f.covered)) := rfl
  have taken : f.afterSync.take (f.body.length + 2 + 1) = f.covered := by
    rw [Frame.afterSync, ← covered, List.take_left]
  have dropped : f.afterSync.drop (f.body.length + 2 + 1) = checkBytes (crc f.covered) := by
    rw [Frame.afterSync, ← covered, List.drop_left]
  rw [whole] at taken dropped ⊢
  unfold judge
  dsimp only
  rw [length_inRange h, length_toNat h, taken, dropped, if_neg (by decide), if_neg, if_pos rfl]
  · simp
  · simp [checkBytes]

/-- R150: the bytes of a frame, not yet whole. -/
theorem judge_take_afterSync {k : Nat} (hk : k < f.afterSync.length) :
    judge (f.afterSync.take k) = .incomplete := by
  cases k with
  | zero => rfl
  | succ k =>
    have whole : f.afterSync = BitVec.ofNat 8 (f.body.length + 2) ::
        (f.kind :: f.seq :: (f.body ++ checkBytes (crc f.covered))) := rfl
    rw [whole] at hk ⊢
    refine (judge_incomplete_iff _ _).2 ⟨length_inRange h, ?_⟩
    rw [length_toNat h, List.length_take]
    simp [checkBytes] at hk ⊢
    omega

end

/-! ### Scans of whole frames (R150, R151, R153) -/

section

variable {buffer front bs : List Byte}

/-- R150: bytes that leave the buffer unfinished are collected. -/
theorem scanAll_collected (h : judge (buffer ++ front) = .incomplete) (rest : List Byte) :
    scanAll (.collecting buffer) (front ++ rest) = scanAll (.collecting (buffer ++ front)) rest := by
  induction front generalizing buffer with
  | nil => rw [List.append_nil, List.nil_append]
  | cons b bs ih =>
    rw [List.append_cons] at h ⊢
    rw [List.cons_append, scanAll_incomplete (judge_prefix h), ih h]

/-- Bytes that are decided by their last one. -/
theorem exists_last (hj : judge bs ≠ .incomplete)
    (hi : ∀ k < bs.length, judge (bs.take k) = .incomplete) :
    ∃ (front : List Byte) (last : Byte), bs = front ++ [last] ∧ judge front = .incomplete := by
  rcases List.eq_nil_or_concat' bs with rfl | ⟨front, last, rfl⟩
  · exact absurd rfl hj
  · exact ⟨front, last, rfl, by simpa using hi front.length (by simp)⟩

/-- R151: a valid frame's bytes, behind its SYNC. -/
theorem scanAll_frame {f : Frame} (h : f.body.length ≤ 248) (later : List Byte) :
    scanAll (.collecting []) (f.afterSync ++ later) =
      (.frame f :: (scanAll .hunting later).1, (scanAll .hunting later).2) := by
  have valid := judge_afterSync h
  obtain ⟨front, last, hb, hf⟩ := exists_last (by rw [valid]; exact nofun)
    fun k hk => judge_take_afterSync h hk
  rw [hb] at valid ⊢
  rw [List.append_assoc, scanAll_collected (buffer := []) hf]
  exact scanAll_valid valid

/-- R153: a failing frame's bytes, behind its SYNC. -/
theorem scanAll_failing (hj : judge bs = .failed)
    (hi : ∀ k < bs.length, judge (bs.take k) = .incomplete) (later : List Byte) :
    scanAll (.collecting []) (bs ++ later) =
      (.discard :: (scanAll .hunting (bs ++ later)).1, (scanAll .hunting (bs ++ later)).2) := by
  obtain ⟨front, last, rfl, hf⟩ := exists_last (by rw [hj]; exact nofun) hi
  rw [List.append_assoc, scanAll_collected (buffer := []) hf]
  refine (scanAll_failed hj).trans ?_
  rw [List.append_assoc]
  rfl

end

/-! ### What taking bytes leaves (R150 to R154) -/

/-- R150: bytes that bring about nothing but a receiver. -/
theorem receive_quiet (s : State) (r : Receiver) :
    s.receive ([], r) = (s.setReceiver r).finish := rfl

/-- R153: a discard, and what comes behind it. -/
theorem receive_discard (s : State) (events : List ScanEvent) (r : Receiver) :
    s.receive (.discard :: events, r) = s.countDiscard.receive (events, r) := rfl

theorem receive_setReceiver (s : State) (l : HostLink) (scanned : List ScanEvent × Receiver)
    (hl : { l with receiver := s.link.receiver, interByte := s.link.interByte } = s.link) :
    ({ s with link := l } : State).receive scanned = s.receive scanned := by
  have same : ({ s with link := l } : State).setReceiver scanned.2 = s.setReceiver scanned.2 := by
    unfold State.setReceiver
    rw [← hl]
  unfold State.receive
  rw [same]

/-- Settles O20: each byte's scan is one step of the receiver. -/
theorem receiverTakesBytes : Obligations.ReceiverTakesBytes := by
  unfold Obligations.ReceiverTakesBytes
  intro s b buffer ha
  have taken : exec (.receivedByte b) s = .next (s.receive (scanAll s.link.receiver [b])) := by
    show execReceivedByte b s = _
    unfold execReceivedByte
    rw [ha]
    rfl
  have quiet {r : Receiver} (hs : scanAll s.link.receiver [b] = ([], r)) :
      Happens (.receivedByte b) s (s.setReceiver r) [] := by
    refine ⟨_, taken, ?_⟩
    rw [hs, receive_quiet]
    have brings := finish_brings s (s.setReceiver r) [] fun _ => rfl
    rwa [postAll_nil] at brings
  refine ⟨fun hr hb => ?_, fun hr hb => ?_, fun hr hj => ?_, fun hr hi hj => ?_⟩
  · have hunting := quiet (r := .hunting) (by
      rw [hr, scanAll_hunting, if_neg (show b ≠ syncByte from hb), scanAll_nil])
    have dropped : s.setReceiver .hunting = { s with link := { s.link with interByte := none } } := by
      unfold State.setReceiver
      rw [if_pos rfl, ← hr]
    rwa [dropped] at hunting
  · exact quiet (r := .collecting []) (by
      rw [hr, scanAll_hunting, if_pos (show b = syncByte from hb), scanAll_nil])
  · exact quiet (by rw [hr, scanAll_incomplete hj, scanAll_nil])
  · have failed := scanAll_failed (bs := []) hj
    rw [List.append_nil] at failed
    rw [taken, hr, failed]
    show _ = execFrameDiscarded (buffer ++ [b]) s
    unfold execFrameDiscarded
    rw [ha, frameFails_of_failed hi hj]
    rfl

/-! ### Discards (R152, R153) -/

theorem requestParts_body {c : Instr} {f : Frame} (hf : requestParts c = some f)
    (hw : WellFormed c = true) : f.body.length ≤ 248 := by
  cases c with
  | badKindFrame kind seq body =>
    cases hf
    exact of_decide_eq_true (Bool.and_eq_true_iff.1 hw).2
  | _ => cases hf <;> exact of_decide_eq_true hw

/-- R151, R154: a valid frame with nothing behind it is the request that it spells. -/
theorem receive_frame {s : State} (ha : s.resetActive = false) {c : Instr} {f : Frame}
    (hf : requestParts c = some f) : exec c s = .next (s.receive ([.frame f], .hunting)) := by
  rw [exec_request hf]
  unfold request
  rw [ha]
  rfl

/-- R152, R153: either discard has one effect. -/
theorem discard_next {s : State} (ha : s.resetActive = false) {c : Instr} {buffer : List Byte}
    (hc : c = .interByteTimeout ∧ s.link.receiver = .collecting buffer ∧
        (∃ τ ∈ s.link.interByte, τ.duration ≤ τ.elapsed) ∨
      c = .frameDiscarded buffer ∧ frameFails buffer = true) :
    exec c s = .next (s.countDiscard.receive (scanAll .hunting buffer)) := by
  rcases hc with ⟨rfl, hr, hd⟩ | ⟨rfl, hf⟩
  · show execInterByteTimeout s = _
    have due : s.link.gapTimer.any Timer.due = true := by
      rw [HostLink.gapTimer, hr]
      exact due_of_elapsed hd
    unfold execInterByteTimeout
    rw [ha, due, hr]
    rfl
  · show execFrameDiscarded buffer s = _
    unfold execFrameDiscarded
    rw [ha, hf]
    rfl

/-- Settles O21: a discard is the scan of its buffer, taken apart at its first SYNC. -/
theorem discardCountsAndRescans : Obligations.DiscardCountsAndRescans := by
  unfold Obligations.DiscardCountsAndRescans
  intro s c buffer ha hc counted leaves
  have next := discard_next ha hc
  have quiet {r : Receiver} (hs : scanAll .hunting buffer = ([], r)) :
      Happens c s (s.countDiscard.setReceiver r) [] := by
    refine ⟨_, next, ?_⟩
    rw [hs, receive_quiet]
    have brings := finish_brings s (s.countDiscard.setReceiver r) [] fun _ => rfl
    rwa [postAll_nil] at brings
  refine ⟨fun hn => ?_, fun noise rest hn => ⟨fun hb hj => ?_, fun failed later hb hj hi => ?_,
    fun r f hf hw hb hq => ?_⟩⟩
  · refine quiet ?_
    have all := scanAll_noise hn []
    rwa [List.append_nil, scanAll_nil] at all
  · refine quiet (r := .collecting rest) ?_
    rw [hb, scanAll_noise hn, scanAll_hunting]
    have all := scanAll_collected (buffer := []) hj []
    rwa [List.append_nil, List.nil_append, scanAll_nil] at all
  · rw [next, hb, scanAll_noise hn, scanAll_hunting]
    have again := discard_next (s := { counted with
      link := { s.link with receiver := .collecting (failed ++ later), interByte := some ⟨3, 3⟩ } })
      ha (.inl ⟨rfl, rfl, _, rfl, le_refl 3⟩)
    rw [again]
    rw [if_pos (show 0xA5#8 = syncByte from rfl), scanAll_failing hj hi, receive_discard]
    exact congrArg _ (receive_setReceiver s.countDiscard.countDiscard _ _ rfl).symm
  · have silent := scanAll_noise hq []
    rw [List.append_nil, scanAll_nil] at silent
    have bytes : f.bytes ++ rest = 0xA5#8 :: (f.afterSync ++ rest) := rfl
    rw [next, hb, List.append_assoc, scanAll_noise hn, bytes, scanAll_hunting,
      if_pos (show 0xA5#8 = syncByte from rfl), scanAll_frame (requestParts_body hf hw), silent]
    exact (receive_frame (s := s.countDiscard) ha hf).symm

/-! ### A request's bytes (R150, R151, R154, R182) -/

/-- R182: a KIND that Table 10-4 does not list. -/
theorem commandOf_badKind {f : Frame} (h : isRequestKind f.kind = false) :
    commandOf f = .badKindFrame f.kind f.seq f.body := by
  unfold commandOf
  split
  case h_32 => rfl
  all_goals
    next hk =>
      rw [eq_ofNat_of_toNat hk] at h
      exact absurd h (by decide)

theorem commandOf_of_parts {c : Instr} {f : Frame} (hf : requestParts c = some f)
    (hw : WellFormed c = true) : commandOf f = c := by
  cases c with
  | badKindFrame kind seq body =>
    cases hf
    exact commandOf_badKind (by simpa using (Bool.and_eq_true_iff.1 hw).1)
  | _ => cases hf <;> rfl

theorem chooseFrame_of_rests {s : State} (h : s.Rests) : s.chooseFrame = s := by
  rcases chooseFrame_cases s with ⟨hc, -⟩ | ⟨reply, hf, hs, -⟩ | ⟨e, hf, -, hs, -⟩
  · exact hc
  · rw [(h hf).1] at hs
    cases hs
  · rw [(h hf).2] at hs
    cases hs

section

variable {s : State} {b : Byte} {buffer bytes : List Byte} (ha : s.resetActive = false)
include ha

theorem exec_receivedByte (r : Receiver) : exec (.receivedByte b) (s.setReceiver r) =
    .next (s.receive (scanAll r [b])) := by
  show execReceivedByte b (s.setReceiver r) = _
  unfold execReceivedByte
  rw [if_neg (show ¬ (s.setReceiver r).resetActive = true from Bool.eq_false_iff.1 ha)]
  exact congrArg _ (receive_setReceiver s _ _ rfl)

variable (hs : Settled s) (hl : s.Rests)
include hs hl

/-- R150: in a settled state, a byte that leaves the frame unfinished only moves the receiver. -/
theorem receive_settled (r : Receiver) : s.receive ([], r) = s.setReceiver r := by
  rw [receive_quiet, State.finish, settleZones_of_settled (s := s.setReceiver r) hs]
  exact chooseFrame_of_rests (s := s.setReceiver r) hl

theorem execAll_collected (hj : judge (buffer ++ bytes) = .incomplete) (cs : List Instr) :
    execAll (bytes.map .receivedByte ++ cs) (s.setReceiver (.collecting buffer)) =
      execAll cs (s.setReceiver (.collecting (buffer ++ bytes))) := by
  induction bytes generalizing buffer with
  | nil => rw [List.append_nil]; rfl
  | cons b bytes ih =>
    rw [List.append_cons] at hj ⊢
    rw [List.map_cons, List.cons_append, execAll, exec_receivedByte ha,
      scanAll_incomplete (judge_prefix hj), scanAll_nil, receive_settled ha hs hl]
    exact ih hj

/-- R150, R151: the bytes of a frame, taken one by one. -/
theorem execAll_frame (hr : s.link.receiver = .hunting) {f : Frame} (hb : f.body.length ≤ 248) :
    execAll (f.bytes.map .receivedByte) s = .next (s.receive ([.frame f], .hunting)) := by
  have valid := judge_afterSync hb
  obtain ⟨front, last, split, hj⟩ := exists_last (by rw [valid]; exact nofun)
    fun k hk => judge_take_afterSync hb hk
  have begun : exec (.receivedByte 0xA5#8) s = .next (s.setReceiver (.collecting [])) := by
    show execReceivedByte _ s = _
    unfold execReceivedByte
    rw [ha, hr, scanAll_hunting, if_pos (show 0xA5#8 = syncByte from rfl), scanAll_nil,
      receive_settled ha hs hl]
    rfl
  have bytes : f.bytes.map Instr.receivedByte =
      .receivedByte 0xA5#8 :: (front.map .receivedByte ++ [.receivedByte last]) := by
    rw [Frame.bytes, split, List.map_cons, List.map_append]
    rfl
  rw [split] at valid
  rw [bytes, execAll, begun]
  dsimp only
  rw [execAll_collected (buffer := []) ha hs hl hj, execAll, exec_receivedByte ha,
    List.nil_append, scanAll_valid valid, scanAll_nil]
  rfl

end

theorem execAll_reset {s : State} (ha : s.resetActive = true) (bytes : List Byte) :
    execAll (bytes.map .receivedByte) s = .next s := by
  induction bytes with
  | nil => rfl
  | cons b bytes ih =>
    have still : exec (.receivedByte b) s = .next s := by
      show execReceivedByte b s = _
      unfold execReceivedByte
      rw [if_pos ha]
    rw [List.map_cons, execAll, still]
    exact ih

/-- Settles O18: all bytes but the last one move the receiver alone, and the last one is the request. -/
theorem receivedFrameIsItsRequest : Obligations.ReceivedFrameIsItsRequest := by
  intro s c f hf hw hs hl hr
  refine ⟨commandOf_of_parts hf hw, ?_⟩
  obtain ⟨-, settled⟩ := (haltReasonLaws_iff s).1 hs
  obtain ⟨-, rests⟩ := (linkLaws_iff s).1 hl
  cases ha : s.resetActive with
  | true =>
    rw [execAll_reset ha, exec_request hf]
    unfold request
    rw [if_pos ha]
  | false => rw [execAll_frame ha settled rests hr (requestParts_body hf hw), receive_frame ha hf]

end Sys2Proof.Machine
end

section
/-! PROOFS. What the crossings of one happening keep: an induction over the order in which they are taken
(R6, R7). -/

namespace Sys2Proof.Machine

set_option Elab.async false

/-- What the crossings owed can still cost: one step each, and for a zone's end those of the points that a
transfer leads past. -/
def owedWeight (owed : List Crossing) : Nat :=
  owed.length + 28 * owed.countP fun c => c.point = .zoneEnd

/-- The crossings owed once `b` has been taken with the outcome `u`: what it leads past is owed too, and an
item that has been released owes nothing more (R7, R35). -/
def owedAfter (owed : List Crossing) (b : Crossing) (u : State × List Crossing) : List Crossing :=
  if (u.1.findItem b.tag).isSome then owed.filter (fun x => x != b) ++ u.2
  else (owed.filter fun x => x != b).filter fun x => x.tag != b.tag

theorem mem_owedAfter {owed : List Crossing} {b c : Crossing} {u : State × List Crossing} :
    c ∈ owedAfter owed b u ↔ c ∈ owed ∧ c ≠ b ∧ ((u.1.findItem b.tag).isSome = true ∨ c.tag ≠ b.tag) ∨
      c ∈ u.2 ∧ (u.1.findItem b.tag).isSome = true := by
  unfold owedAfter
  split
  · next h => simp [h]
  · next h =>
    simp only [List.mem_filter, bne_iff_ne, h, Bool.false_eq_true, false_or, and_false, or_false, and_assoc]

/-! ### The points that a transfer leads past -/

theorem triggersIn_points {l : Layout} {tag : Nat} {z : ZoneId} {low high : Int} {c : Crossing}
    (h : c ∈ l.triggersIn tag z low high) : ∃ d def_, l.diverters[d] = some def_ ∧ def_.zone = z ∧
      low < def_.triggerPoint ∧ def_.triggerPoint ≤ high ∧
      c = ⟨tag, def_.triggerPoint.toNat, .trigger d⟩ := by
  obtain ⟨d, -, hd⟩ := List.mem_filterMap.1 h
  obtain ⟨def_, hdef, hc⟩ := Option.bind_eq_some_iff.1 hd
  split at hc
  · next hp =>
    obtain ⟨hz, hl, hh⟩ := hp
    exact ⟨d, def_, hdef, hz, hl, hh, (Option.some.inj hc).symm⟩
  · cases hc

theorem windowEndsIn_points {l : Layout} {tag : Nat} {z : ZoneId} {low high : Int} {c : Crossing}
    (h : c ∈ l.windowEndsIn tag z low high) : ∃ e def_, l.eyes[e] = some def_ ∧ def_.zone = z ∧
      low < def_.missPoint ∧ (def_.missPoint : Int) ≤ high ∧ def_.missPoint < l.zoneLength z ∧
      c = ⟨tag, def_.missPoint, .windowEnd e⟩ := by
  obtain ⟨e, -, he⟩ := List.mem_filterMap.1 h
  obtain ⟨def_, hdef, hc⟩ := Option.bind_eq_some_iff.1 he
  split at hc
  · next hp =>
    obtain ⟨hz, hl, hh, hn⟩ := hp
    exact ⟨e, def_, hdef, hz, hl, hh, hn, (Option.some.inj hc).symm⟩
  · cases hc

theorem pointsIn_tag {l : Layout} {tag : Nat} {z : ZoneId} {low high : Int} {c : Crossing}
    (h : c ∈ l.pointsIn tag z low high) : c.tag = tag ∧ c.point ≠ .zoneEnd ∧ c.point ≠ .overlength := by
  rcases List.mem_append.1 h with h | h
  · obtain ⟨d, def_, -, -, -, -, rfl⟩ := triggersIn_points h
    exact ⟨rfl, nofun, nofun⟩
  · obtain ⟨e, def_, -, -, -, -, -, rfl⟩ := windowEndsIn_points h
    exact ⟨rfl, nofun, nofun⟩

theorem pointsIn_length (l : Layout) (tag : Nat) (z : ZoneId) (low high : Int) :
    (l.pointsIn tag z low high).length ≤ 28 := by
  unfold Layout.pointsIn
  rw [List.length_append]
  exact Nat.add_le_add (List.length_filterMap_le ..) (List.length_filterMap_le ..)

/-- R7: a transfer leads its item past points of the next zone, and no other crossing leads past any. -/
theorem cross_more (s : State) (b : Crossing) : (s.cross b).2 = [] ∨
    b.point = .zoneEnd ∧ ∃ (y : ZoneId) (p : Nat), (s.cross b).2 = s.activeLayout.pointsIn b.tag y (-1) p := by
  unfold State.cross
  split
  · next hb =>
    split
    · next i hi =>
      refine (em ((s.leaveZone b.tag i.zone).2 = [])).imp id fun hne => ⟨hb, ?_⟩
      have layout : (if (s.findItem b.tag).any (s.transferMeetsReturn i.zone) then s
          else s.takeWindowEnds b.tag i.zone 12).activeLayout = s.activeLayout := by
        split
        exacts [rfl, activeLayout_of_still (takeWindowEnds_still b.tag i.zone 12 s)]
      unfold State.leaveZone at hne ⊢
      dsimp only at hne ⊢
      generalize (if (s.findItem b.tag).any (s.transferMeetsReturn i.zone) then s
        else s.takeWindowEnds b.tag i.zone 12) = t at layout hne ⊢
      split at hne
      · exact absurd rfl hne
      · next j hj =>
        obtain ⟨-, tag⟩ := findItem_eq_some hj
        split at hne
        · next y hy =>
          rw [← layout]
          unfold State.transferItem at hne ⊢
          split at hne
          · exact absurd rfl hne
          · next p clamped hp => exact ⟨y, p, by rw [tag]⟩
        · exact absurd rfl hne
    · exact .inl rfl
  all_goals exact .inl rfl

theorem cross_more_length (s : State) (b : Crossing) :
    (s.cross b).2.length ≤ 28 ∧ (s.cross b).2.countP (fun c => c.point = .zoneEnd) = 0 ∧
      (b.point ≠ .zoneEnd → (s.cross b).2 = []) := by
  rcases cross_more s b with h | ⟨hb, y, p, h⟩
  · rw [h]
    exact ⟨Nat.zero_le _, rfl, fun _ => rfl⟩
  · rw [h]
    refine ⟨pointsIn_length .., ?_, fun hn => absurd hb hn⟩
    rw [List.countP_eq_zero]
    intro c hc
    simpa using (pointsIn_tag hc).2.1

/-! ### The weight falls -/

theorem owedWeight_le_of_sublist {l k : List Crossing} (h : l.Sublist k) : owedWeight l ≤ owedWeight k :=
  Nat.add_le_add h.length_le (Nat.mul_le_mul_left _ h.countP_le)

theorem owedWeight_erase {owed : List Crossing} {b : Crossing} (h : b ∈ owed) :
    owedWeight (owed.filter fun x => x != b) + (if b.point = .zoneEnd then 29 else 1) ≤ owedWeight owed := by
  have sub : (owed.filter fun x => x != b).Sublist (owed.erase b) := by
    have : (owed.filter fun x => x != b) = (owed.erase b).filter fun x => x != b := by
      rw [List.erase_filter.symm.trans (List.erase_of_not_mem (by simp))]
    exact this ▸ List.filter_sublist
  have length := List.length_erase_of_mem h
  have count := List.countP_erase (fun c : Crossing => decide (c.point = .zoneEnd)) owed b
  have pos := List.length_pos_of_mem h
  have le := owedWeight_le_of_sublist sub
  unfold owedWeight at le ⊢
  split
  · next hb =>
    have : 0 < owed.countP fun c => decide (c.point = .zoneEnd) :=
      List.countP_pos_iff.2 ⟨b, h, decide_eq_true hb⟩
    rw [if_pos ⟨h, decide_eq_true hb⟩] at count
    omega
  · next hb =>
    rw [if_neg (fun hp => hb (of_decide_eq_true hp.2))] at count
    omega

theorem owedWeight_after {s : State} {owed : List Crossing} {b : Crossing} (h : b ∈ owed) :
    owedWeight (owedAfter owed b (s.cross b)) < owedWeight owed := by
  have erased := owedWeight_erase h
  obtain ⟨length, none, only⟩ := cross_more_length s b
  unfold owedAfter
  split
  · have : owedWeight ((owed.filter fun x => x != b) ++ (s.cross b).2) =
        owedWeight (owed.filter fun x => x != b) + (s.cross b).2.length := by
      simp only [owedWeight, List.length_append, List.countP_append, none]
      omega
    split at erased
    · omega
    · next hb =>
      have nil := congrArg List.length (only hb)
      rw [List.length_nil] at nil
      omega
  · have := owedWeight_le_of_sublist
      (List.filter_sublist (p := fun x => x.tag != b.tag) (l := owed.filter fun x => x != b))
    split at erased <;> omega

/-- R7: of crossings owed, one at the lowest position is ready. -/
theorem exists_isLowest {owed : List Crossing} (h : owed ≠ []) :
    ∃ c ∈ owed, isLowest owed c = true := by
  obtain ⟨c, hc, least⟩ := owed.toFinset.exists_min_image Crossing.position
    (List.toFinset_nonempty_iff _ |>.2 h)
  refine ⟨c, List.mem_toFinset.1 hc, ?_⟩
  simp only [isLowest, List.all_eq_true, Bool.or_eq_true, decide_eq_true_eq]
  exact fun b hb => .inr (least b (List.mem_toFinset.2 hb))

theorem owedWeight_skip {owed ready : List Crossing} {c : Crossing} (hc : c ∈ owed) (hr : c ∈ ready) :
    owedWeight (owed.filter fun b => !ready.contains b) < owedWeight owed := by
  have sub : (owed.filter fun b => !ready.contains b).Sublist (owed.filter fun x => x != c) := by
    refine List.monotone_filter_right _ fun b hb => ?_
    have absent : b ∉ ready := by simpa using hb
    simpa using fun h : b = c => absent (h ▸ hr)
  have := owedWeight_erase hc
  have := owedWeight_le_of_sublist sub
  split at * <;> omega

/-! ### The induction -/

/-- R6: one of the crossings that may be taken next is chosen, if there is any. -/
theorem chooseCrossing_cases (s : State) (ready : List Crossing) :
    (ready = [] ∧ s.chooseCrossing ready = (none, s)) ∨
    ∃ b ∈ ready, ∃ k, s.chooseCrossing ready = (some b, { s with freeIndex := k }) := by
  unfold State.chooseCrossing
  match ready with
  | [] => exact .inl ⟨rfl, rfl⟩
  | [c] => exact .inr ⟨c, .head _, s.freeIndex, rfl⟩
  | c :: b :: cs =>
    have inside : Config.crossingChoice s.freeIndex % (cs.length + 2) < (c :: b :: cs).length :=
      Nat.mod_lt _ (by omega)
    refine .inr ⟨_, List.getElem_mem inside, s.freeIndex + 1, ?_⟩
    simp only [List.getElem?_eq_getElem inside]

theorem takeCrossings_passed {s t : State} {n : Nat} {owed : List Crossing} (h : owed ≠ [])
    (hc : s.chooseCrossing ((owed.filter (isLowest owed)).filter s.actsAt) = (none, t)) :
    s.takeCrossings (n + 1) owed =
      t.takeCrossings n (owed.filter fun b => !(owed.filter (isLowest owed)).contains b) := by
  cases owed with
  | nil => exact absurd rfl h
  | cons c cs =>
    rw [State.takeCrossings]
    dsimp only
    rw [hc]

theorem takeCrossings_taken {s t : State} {n : Nat} {owed : List Crossing} {b : Crossing} (h : owed ≠ [])
    (hc : s.chooseCrossing ((owed.filter (isLowest owed)).filter s.actsAt) = (some b, t)) :
    s.takeCrossings (n + 1) owed = (t.cross b).1.takeCrossings n (owedAfter owed b (t.cross b)) := by
  cases owed with
  | nil => exact absurd rfl h
  | cons c cs =>
    rw [State.takeCrossings]
    dsimp only
    rw [hc]
    exact (apply_ite (fun owed => (t.cross b).1.takeCrossings n owed) _ _ _).symm

/-- R6, R7: what holds of a state and the crossings owed in it, and is kept as a free choice is counted, as
crossings of which nothing comes are passed over, and as one that acts is taken, holds in the end with
nothing owed. -/
theorem takeCrossings_induction {P : State → List Crossing → Prop}
    (free : ∀ {s owed} (k : Nat), P s owed → P { s with freeIndex := k } owed)
    (skip : ∀ {s owed} {ready : List Crossing}, P s owed → (∀ c ∈ ready, c ∈ owed ∧ isLowest owed c = true ∧
      s.actsAt c = false) → P s (owed.filter fun b => !ready.contains b))
    (take : ∀ {s owed b}, P s owed → b ∈ owed → isLowest owed b = true → s.actsAt b = true →
      P (s.cross b).1 (owedAfter owed b (s.cross b)))
    (n : Nat) {owed : List Crossing} {s : State} (h : P s owed) :
    ∃ left, P (s.takeCrossings n owed) left ∧ (owedWeight owed ≤ n → left = []) := by
  induction n generalizing owed s with
  | zero =>
    refine ⟨owed, h, fun hn => List.eq_nil_of_length_eq_zero ?_⟩
    unfold owedWeight at hn
    omega
  | succ n ih =>
    cases owed with
    | nil => exact ⟨[], h, fun _ => rfl⟩
    | cons c cs =>
      generalize howed : c :: cs = owed at h
      have le {left : List Crossing} (hl : owedWeight left < owedWeight owed)
          (hn : owedWeight owed ≤ n + 1) : owedWeight left ≤ n := by omega
      rcases chooseCrossing_cases s ((owed.filter (isLowest owed)).filter s.actsAt) with
        ⟨none, hc⟩ | ⟨b, hb, k, hc⟩
      · rw [takeCrossings_passed (howed ▸ List.cons_ne_nil _ _) hc]
        have idle : ∀ c ∈ owed.filter (isLowest owed), c ∈ owed ∧ isLowest owed c = true ∧
            s.actsAt c = false := fun c hm => ⟨(List.mem_filter.1 hm).1, (List.mem_filter.1 hm).2, by
          simpa using List.filter_eq_nil_iff.1 none c hm⟩
        obtain ⟨left, hp, hl⟩ := ih (skip h idle)
        refine ⟨left, hp, fun hn => hl (le ?_ hn)⟩
        obtain ⟨d, hd, lowest⟩ := exists_isLowest (owed := owed) (howed ▸ List.cons_ne_nil _ _)
        exact owedWeight_skip hd (List.mem_filter.2 ⟨hd, lowest⟩)
      · rw [takeCrossings_taken (howed ▸ List.cons_ne_nil _ _) hc]
        obtain ⟨ready, acts⟩ := List.mem_filter.1 hb
        obtain ⟨mem, lowest⟩ := List.mem_filter.1 ready
        obtain ⟨left, hp, hl⟩ := ih (take (free k h) mem lowest acts)
        exact ⟨left, hp, fun hn => hl (le (owedWeight_after mem) hn)⟩

/-- R6, R7: the same of all the crossings of a happening, which owe at most one zone's end. -/
theorem takeAll_induction {P : State → List Crossing → Prop}
    (free : ∀ {s owed} (k : Nat), P s owed → P { s with freeIndex := k } owed)
    (skip : ∀ {s owed} {ready : List Crossing}, P s owed → (∀ c ∈ ready, c ∈ owed ∧ isLowest owed c = true ∧
      s.actsAt c = false) → P s (owed.filter fun b => !ready.contains b))
    (take : ∀ {s owed b}, P s owed → b ∈ owed → isLowest owed b = true → s.actsAt b = true →
      P (s.cross b).1 (owedAfter owed b (s.cross b)))
    {owed : List Crossing} {s : State} (h : P s owed)
    (one : owed.countP (fun c => c.point = .zoneEnd) ≤ 1) : P (s.takeAll owed) [] := by
  obtain ⟨left, hp, hl⟩ := takeCrossings_induction free skip take (owed.length + 28) h
  obtain rfl := hl (Nat.add_le_add_left (Nat.mul_le_mul_left 28 one) _)
  exact hp

/-- What each crossing and a free choice keep of the state, all the crossings of a happening keep. -/
theorem takeAll_kept {P : State → Prop} (free : ∀ {s} (k : Nat), P s → P { s with freeIndex := k })
    (take : ∀ {s} (b : Crossing), P s → P (s.cross b).1) (owed : List Crossing) {s : State} (h : P s) :
    P (s.takeAll owed) := by
  obtain ⟨-, hp, -⟩ := takeCrossings_induction (P := fun s _ => P s) (fun k => free k)
    (fun hs _ => hs) (fun hs _ _ _ => take _ hs) (owed.length + 28) h
  exact hp

end Sys2Proof.Machine
end

section
/-! PROOFS. The diverter laws over a step (R97, R99 to R105, Table 6-3). -/

namespace Sys2Proof.Machine

set_option Elab.async false

/-! ### What the laws read of one diverter -/

/-- What the diverter laws read of a diverter: its unit but for the slot, its home input, and whether it is
defined. -/
def State.strokeView (s : State) (d : DiverterId) : Diverter × Bool × Bool :=
  ({ s.diverters[d] with slot := none }, s.inputs.homes[d], s.activeLayout.diverters[d].isSome)

/-- The diverter laws of one diverter. -/
def StrokeSound (v : Diverter × Bool × Bool) : Prop :=
  (v.1.state = .undefined ↔ v.2.2 = false) ∧
  (v.1.state = .idle ∨ v.1.state = .extending → v.2.1 = true) ∧
  (v.1.state = .settling ∨ v.1.state = .holding ∨ v.1.state = .retracting → v.2.1 = false) ∧
  (v.1.timer.isSome = true ↔ v.1.state = .settling ∨ v.1.state = .extending ∨ v.1.state = .holding ∨
    v.1.state = .retracting) ∧
  (v.1.testMark = true → v.1.state = .extending ∨ v.1.state = .holding ∨ v.1.state = .retracting) ∧
  ∀ τ ∈ v.1.timer, τ.elapsed ≤ τ.duration + 1

theorem diverterLaws_iff (s : State) : DiverterLaws s ↔ ∀ d, StrokeSound (s.strokeView d) := by
  simp only [DiverterLaws, StrokeSound, State.strokeView, Option.isSome_eq_false_iff,
    Option.isNone_iff_eq_none]

theorem diverterLaws_of_view {s t : State} (h : DiverterLaws s) (hv : t.strokeView = s.strokeView) :
    DiverterLaws t := by
  rw [diverterLaws_iff] at h ⊢
  exact hv ▸ h

/-- The laws are kept where one diverter is changed to a sound one. -/
theorem DiverterLaws.update {s t : State} (h : DiverterLaws s) {d : DiverterId}
    {v : Diverter × Bool × Bool} (hv : t.strokeView = Function.update s.strokeView d v)
    (sound : StrokeSound v) : DiverterLaws t := by
  rw [diverterLaws_iff] at h ⊢
  rw [hv, Function.forall_update_iff]
  exact ⟨sound, fun e _ => h e⟩

/-! ### What operations leave of it -/

theorem strokeView_post (s : State) (r : Report) : (s.post r).strokeView = s.strokeView := rfl

theorem strokeView_reassign (s : State) (tag : Nat) (excluded : Option DiverterId) :
    (s.reassign tag excluded).1.strokeView = s.strokeView := by
  unfold State.reassign
  split <;> rfl

theorem strokeView_reevaluate (s : State) (d : DiverterId) :
    (s.reevaluate d).strokeView = s.strokeView :=
  List.foldlRecOn (motive := fun t : State => t.strokeView = s.strokeView) s.claims[d] _ rfl
    fun t ht tag _ => (strokeView_reassign t tag (some d)).trans ht

theorem strokeView_release (s : State) (tag : Nat) : (s.release tag).strokeView = s.strokeView := by
  funext d
  simp [State.strokeView, State.release, State.evaluatePoolLow, State.modifyReasons, State.modifyZone,
    State.removeItem, State.mapZones]

theorem strokeView_modifyDiverter (s : State) (d : DiverterId) (f : Diverter → Diverter) :
    (s.modifyDiverter d f).strokeView =
      Function.update s.strokeView d ({ f s.diverters[d] with slot := none }, (s.strokeView d).2) := by
  funext e
  rw [Function.update_apply]
  unfold State.strokeView
  rw [modifyDiverter_diverter]
  split
  · next h => rw [if_pos h.symm]; subst h; rfl
  · next h => rw [if_neg (Ne.symm h)]; rfl

theorem strokeView_setHome (s : State) (d : DiverterId) (level : Bool) :
    (s.setHome d level).strokeView =
      Function.update s.strokeView d ((s.strokeView d).1, level, (s.strokeView d).2.2) := by
  funext e
  rw [Function.update_apply]
  unfold State.strokeView State.setHome
  dsimp only
  rw [getElem_set_fin]
  split
  · next h => rw [if_pos h.symm]; subst h; rfl
  · next h => rw [if_neg (Ne.symm h)]

theorem strokeView_returnItem (s : State) (d : DiverterId) (cause : MissCause) :
    (s.returnItem d cause).strokeView = s.strokeView := by
  unfold State.returnItem
  split
  · rfl
  · dsimp only
    rw [strokeView_post, strokeView_reassign]
    exact (strokeView_modifyDiverter s d fun u => { u with slot := none }).trans
      (Function.update_eq_self d s.strokeView)

theorem strokeView_leaves (s : State) (d : DiverterId) (state : DiverterState) :
    (s.modifyDiverter d fun u => { u with state := state, timer := none, testMark := false }).strokeView =
      Function.update s.strokeView d (⟨state, none, none, false⟩, (s.strokeView d).2) :=
  strokeView_modifyDiverter s d _

theorem strokeView_enterFault (s : State) (d : DiverterId) (cause : DiverterCause) :
    (s.enterFault d cause).strokeView =
      Function.update s.strokeView d (⟨.fault, none, none, false⟩, (s.strokeView d).2) := by
  rw [← strokeView_leaves]
  unfold State.enterFault
  dsimp only
  split
  · exact (strokeView_reevaluate _ d).trans (strokeView_returnItem _ d _)
  · exact strokeView_returnItem _ d _

theorem strokeView_disableDiverter (s : State) (d : DiverterId) :
    (s.disableDiverter d).strokeView = s.strokeView ∨ (s.disableDiverter d).strokeView =
      Function.update s.strokeView d (⟨.disabled, none, none, false⟩, (s.strokeView d).2) := by
  rw [← strokeView_leaves]
  unfold State.disableDiverter
  dsimp only
  split_ifs
  · exact .inl rfl
  · exact .inr ((strokeView_reevaluate _ d).trans (strokeView_returnItem _ d _))
  · exact .inr (strokeView_returnItem _ d _)

theorem strokeView_retracted (s : State) (d : DiverterId) : (s.retracted d).strokeView =
    Function.update s.strokeView d (⟨.idle, none, none, false⟩, (s.strokeView d).2) := by
  rw [← strokeView_leaves]
  unfold State.retracted
  dsimp only
  split <;> rfl

theorem strokeView_enterSettling (s : State) (d : DiverterId) : (s.enterSettling d).strokeView =
    Function.update s.strokeView d
      (if s.inputs.homes[d] then ⟨.idle, none, none, false⟩
        else ⟨.settling, s.diverterTimer d DiverterDef.returnTimeout, none, false⟩,
        (s.strokeView d).2) := by
  unfold State.enterSettling
  split
  · exact strokeView_modifyDiverter s d fun _ => ⟨.idle, none, none, false⟩
  · exact strokeView_modifyDiverter s d _

theorem strokeView_enterRetracting (s : State) (d : DiverterId) : (s.enterRetracting d).strokeView =
    Function.update s.strokeView d
      (if s.inputs.homes[d] then ⟨.idle, none, none, false⟩
        else ⟨.retracting, s.diverterTimer d DiverterDef.returnTimeout, none, s.diverters[d].testMark⟩,
        (s.strokeView d).2) := by
  have modified := strokeView_modifyDiverter s d fun u =>
    { u with state := .retracting, timer := s.diverterTimer d DiverterDef.returnTimeout }
  unfold State.enterRetracting
  dsimp only
  split
  · rw [strokeView_retracted, modified, Function.update_idem, Function.update_self]
  · exact modified

theorem strokeView_completeStroke (s : State) (d : DiverterId) : (s.completeStroke d).strokeView =
    Function.update s.strokeView d
      (⟨.holding, s.diverterTimer d DiverterDef.dwell, none, s.diverters[d].testMark⟩,
        (s.strokeView d).2) := by
  have modified := strokeView_modifyDiverter s d fun u =>
    { u with state := .holding, timer := s.diverterTimer d DiverterDef.dwell }
  unfold State.completeStroke
  dsimp only
  split
  · exact modified
  · exact (strokeView_release _ _).trans modified

theorem strokeView_readHome (s : State) (d : DiverterId) : (s.readHome d).strokeView =
    Function.update s.strokeView d ((s.strokeView d).1, s.homeRead d, (s.strokeView d).2.2) := by
  unfold State.readHome State.homeRead
  cases s.leavingHome d with
  | false =>
    simp only [Bool.false_eq_true, ↓reduceIte, Bool.not_false, Bool.and_true]
    exact (Function.update_eq_self d s.strokeView).symm
  | true =>
    simp only [↓reduceIte, Bool.not_true, Bool.and_false]
    exact strokeView_setHome s d false

/-! ### What is sound -/

section
variable {home defined : Bool} {n : Nat} {mark : Bool}

theorem strokeSound_idle (hd : defined = true) (hh : home = true) :
    StrokeSound (⟨.idle, none, none, false⟩, home, defined) := by
  simp [StrokeSound, hd, hh]

theorem strokeSound_settling (hd : defined = true) (hh : home = false) :
    StrokeSound (⟨.settling, startTimer n, none, false⟩, home, defined) := by
  simp [StrokeSound, startTimer, hd, hh]

theorem strokeSound_extending (hd : defined = true) (hh : home = true) :
    StrokeSound (⟨.extending, startTimer n, none, mark⟩, home, defined) := by
  simp [StrokeSound, startTimer, hd, hh]

theorem strokeSound_holding (hd : defined = true) (hh : home = false) :
    StrokeSound (⟨.holding, startTimer n, none, mark⟩, home, defined) := by
  simp [StrokeSound, startTimer, hd, hh]

theorem strokeSound_retracting (hd : defined = true) (hh : home = false) :
    StrokeSound (⟨.retracting, startTimer n, none, mark⟩, home, defined) := by
  simp [StrokeSound, startTimer, hd, hh]

theorem strokeSound_fault (hd : defined = true) :
    StrokeSound (⟨.fault, none, none, false⟩, home, defined) := by
  simp [StrokeSound, hd]

theorem strokeSound_disabled (hd : defined = true) :
    StrokeSound (⟨.disabled, none, none, false⟩, home, defined) := by
  simp [StrokeSound, hd]

theorem strokeSound_undefined : StrokeSound (⟨.undefined, none, none, false⟩, home, false) := by
  simp [StrokeSound]

end

section
variable {s : State} {d : DiverterId}

theorem DiverterLaws.defined (h : DiverterLaws s) (hs : s.diverters[d].state ≠ .undefined) :
    s.activeLayout.diverters[d].isSome = true := by
  rw [Option.isSome_iff_ne_none]
  exact fun hn => hs ((h d).1.2 hn)

theorem DiverterLaws.defined_at (h : DiverterLaws s) {x : DiverterState} (hs : s.diverters[d].state = x)
    (hx : x ≠ .undefined) : s.activeLayout.diverters[d].isSome = true :=
  h.defined fun hu => hx (hs.symm.trans hu)

/-- What ends a stroke leaves a sound diverter, if it is home at once or waits for its home. -/
theorem settled_sound (hd : s.activeLayout.diverters[d].isSome = true) : StrokeSound
    (if s.inputs.homes[d] then ⟨.idle, none, none, false⟩
      else ⟨.settling, s.diverterTimer d DiverterDef.returnTimeout, none, false⟩, (s.strokeView d).2) := by
  split
  · next hh => exact strokeSound_idle hd hh
  · next hh => exact strokeSound_settling hd (Bool.eq_false_of_not_eq_true hh)

theorem retracted_sound (hd : s.activeLayout.diverters[d].isSome = true) {mark : Bool} : StrokeSound
    (if s.inputs.homes[d] then ⟨.idle, none, none, false⟩
      else ⟨.retracting, s.diverterTimer d DiverterDef.returnTimeout, none, mark⟩,
      (s.strokeView d).2) := by
  split
  · next hh => exact strokeSound_idle hd hh
  · next hh => exact strokeSound_retracting hd (Bool.eq_false_of_not_eq_true hh)

/-! ### What operations keep of the laws -/

theorem enterFault_diverterLaws (h : DiverterLaws s) (hs : s.diverters[d].state ≠ .undefined)
    (cause : DiverterCause) : DiverterLaws (s.enterFault d cause) :=
  h.update (strokeView_enterFault s d cause) (strokeSound_fault (h.defined hs))

theorem enterSettling_diverterLaws (h : DiverterLaws s) (hs : s.diverters[d].state ≠ .undefined) :
    DiverterLaws (s.enterSettling d) :=
  h.update (strokeView_enterSettling s d) (settled_sound (h.defined hs))

theorem enterRetracting_diverterLaws (h : DiverterLaws s) (hs : s.diverters[d].state ≠ .undefined) :
    DiverterLaws (s.enterRetracting d) :=
  h.update (strokeView_enterRetracting s d) (retracted_sound (h.defined hs))

/-- R124: a stroke withdrawn, its home input read first. -/
theorem withdrawStroke_diverterLaws (h : DiverterLaws s) : DiverterLaws (s.withdrawStroke d) := by
  unfold State.withdrawStroke
  split
  · next hs =>
    have defined := h.defined (d := d) (fun hu => by rw [hu] at hs; cases hs)
    refine h.update (d := d) (v := _) ?_ (retracted_sound (s := s.readHome d) (d := d)
      (mark := (s.readHome d).diverters[d].testMark) ?_)
    · rw [strokeView_enterRetracting, strokeView_readHome, Function.update_idem]
    · have same := congrArg (fun v => (v d).2.2) (strokeView_readHome s d)
      rw [Function.update_self] at same
      exact same.trans defined
  · exact h

theorem withdrawStrokes_diverterLaws (h : DiverterLaws s) : DiverterLaws s.withdrawStrokes := by
  unfold State.withdrawStrokes
  refine List.foldlRecOn (motive := DiverterLaws) _ _ (List.foldlRecOn (motive := DiverterLaws) _ _ h
    fun t ht d _ => withdrawStroke_diverterLaws ht) fun t ht d _ => ?_
  exact diverterLaws_of_view ht (strokeView_returnItem t d .estop)

/-! ### Home edges and timers -/

theorem setHome_defined (level : Bool) :
    ((s.setHome d level).strokeView d).2 = (level, s.activeLayout.diverters[d].isSome) := by
  rw [strokeView_setHome, Function.update_self]
  rfl

theorem homeActive_diverterLaws (h : DiverterLaws s) : DiverterLaws (s.homeActive d) := by
  have moved := strokeView_setHome s d true
  have idle {x : DiverterState} (hs : s.diverters[d].state = x) (hx : x ≠ .undefined) :
      StrokeSound (⟨.idle, none, none, false⟩, true, s.activeLayout.diverters[d].isSome) :=
    strokeSound_idle (h.defined_at hs hx) rfl
  by_cases settling : s.diverters[d].state = .settling
  · obtain ⟨-, -, -, -, marked, -⟩ := h d
    have mark : s.diverters[d].testMark = false := Bool.eq_false_of_not_eq_true fun hm => by
      have states := marked hm
      rw [settling] at states
      simp at states
    rw [homeActive_settling settling]
    refine h.update (d := d) ?_ (idle settling nofun)
    rw [strokeView_post, strokeView_modifyDiverter, moved, Function.update_idem, Function.update_self]
    change Function.update s.strokeView d (⟨.idle, none, none, s.diverters[d].testMark⟩, _) = _
    rw [mark]
    rfl
  by_cases retracting : s.diverters[d].state = .retracting
  · unfold State.homeActive
    rw [retracting]
    refine h.update (d := d) ?_ (idle retracting nofun)
    rw [strokeView_retracted, moved, Function.update_idem, Function.update_self]
    rfl
  by_cases holding : s.diverters[d].state = .holding
  · rw [homeActive_holding holding]
    refine h.update (d := d) (v := (⟨.fault, none, none, false⟩, _)) ?_
      (strokeSound_fault (home := true) (h.defined_at holding nofun))
    rw [strokeView_enterFault, moved, Function.update_idem, Function.update_self]
    rfl
  · obtain ⟨undefined, -, -, runs, marked, elapsed⟩ := (diverterLaws_iff s).1 h d
    rw [homeActive_other settling retracting holding]
    refine h.update (d := d) moved ⟨undefined, fun _ => rfl, fun hs => ?_, runs, marked, elapsed⟩
    rcases hs with hs | hs | hs
    exacts [absurd hs settling, absurd hs holding, absurd hs retracting]

theorem homeInactive_diverterLaws (h : DiverterLaws s) : DiverterLaws (s.homeInactive d) := by
  have moved := strokeView_setHome s d false
  by_cases idle : s.diverters[d].state = .idle
  · rw [homeInactive_idle idle]
    refine h.update (d := d) (v := (⟨.fault, none, none, false⟩, _)) ?_
      (strokeSound_fault (home := false) (h.defined_at idle nofun))
    rw [strokeView_enterFault, moved, Function.update_idem, Function.update_self]
    rfl
  by_cases extending : s.diverters[d].state = .extending
  · rw [homeInactive_extending extending]
    refine h.update (d := d) ?_ (strokeSound_holding (home := false)
      (n := ((s.activeLayout.diverters[d].map DiverterDef.dwell).getD 0))
      (mark := s.diverters[d].testMark) (h.defined_at extending nofun) rfl)
    rw [strokeView_completeStroke, moved, Function.update_idem, Function.update_self]
    rfl
  · obtain ⟨undefined, -, -, runs, marked, elapsed⟩ := (diverterLaws_iff s).1 h d
    rw [homeInactive_other idle extending]
    refine h.update (d := d) moved ⟨undefined, fun hs => ?_, fun _ => rfl, runs, marked, elapsed⟩
    rcases hs with hs | hs
    exacts [absurd hs idle, absurd hs extending]

/-! ### Crossings -/

/-- R112: a diverter fires from IDLE. -/
theorem fire_diverterLaws (h : DiverterLaws s) (hd : s.diverters[d].state = .idle) (i : Item) :
    DiverterLaws (s.fire d i) := by
  obtain ⟨-, home, -⟩ := h d
  have fired : DiverterLaws (s.modifyDiverter d fun u => { u with
      state := .extending, timer := s.diverterTimer d DiverterDef.strokeTimeout, slot := some i.tag }) :=
    h.update (strokeView_modifyDiverter s d _)
      (strokeSound_extending (h.defined (hd ▸ nofun)) (home (.inl hd)))
  unfold State.fire
  dsimp only
  split <;> exact diverterLaws_of_view fired rfl

theorem reachTrigger_diverterLaws (h : DiverterLaws s) (tag : Nat) :
    DiverterLaws (s.reachTrigger tag d) := by
  unfold State.reachTrigger
  split
  · exact h
  · next i _ =>
    split_ifs
    · unfold State.decideFire
      split
      · refine diverterLaws_of_view h ?_
        unfold State.missDivert
        dsimp only
        rw [strokeView_post, strokeView_reassign]
        split <;> rfl
      · next hm => exact fire_diverterLaws h (idle_of_missCause hm) i
    · exact diverterLaws_of_view h rfl
    · exact h

end

theorem strokeView_lose (s : State) (tag : Nat) (z : ZoneId) (e : Option EyeId) (cause : LostCause) :
    (s.lose tag z e cause).strokeView = s.strokeView := strokeView_release _ tag

theorem strokeView_missEye (s : State) (tag : Nat) (e : EyeId) :
    (s.missEye tag e).strokeView = s.strokeView := by
  unfold State.missEye
  split
  · rfl
  · dsimp only
    split_ifs
    exacts [rfl, strokeView_lose _ _ _ _ _, strokeView_lose _ _ _ _ _, rfl]

theorem strokeView_takeWindowEnds (tag : Nat) (z : ZoneId) (n : Nat) (s : State) :
    (s.takeWindowEnds tag z n).strokeView = s.strokeView := by
  induction n generalizing s with
  | zero => rfl
  | succ n ih =>
    unfold State.takeWindowEnds
    split
    · rfl
    · split
      · exact (ih _).trans (strokeView_missEye s tag _)
      · rfl

theorem strokeView_leaveZone (s : State) (tag : Nat) (z : ZoneId) :
    (s.leaveZone tag z).1.strokeView = s.strokeView := by
  have ended : (if (s.findItem tag).any (s.transferMeetsReturn z) then s
      else s.takeWindowEnds tag z 12).strokeView = s.strokeView := by
    split
    exacts [rfl, strokeView_takeWindowEnds tag z 12 s]
  unfold State.leaveZone
  dsimp only
  generalize (if (s.findItem tag).any (s.transferMeetsReturn z) then s
    else s.takeWindowEnds tag z 12) = t at ended ⊢
  split
  · exact ended
  · split
    · refine .trans ?_ ended
      unfold State.transferItem
      split
      exacts [strokeView_lose _ _ _ _ _, rfl]
    · exact (strokeView_release _ _).trans ended

theorem strokeView_pair (s : State) (length : Nat) (overlength : Bool) (next : Option EyeId) :
    (s.pair length overlength next).1.strokeView = s.strokeView := by
  unfold State.pair
  split <;> rfl

theorem strokeView_closeInduction (s : State) (i : Item) :
    (s.closeInduction i).strokeView = s.strokeView := strokeView_reassign s i.tag none

theorem strokeView_induct (s : State) (length : Nat) (overlength : Bool) :
    (s.induct length overlength).strokeView = s.strokeView := by
  unfold State.induct
  split
  · rfl
  · split
    · rfl
    · next e _ _ =>
      have paired : (s.takeRecord.pair length overlength (s.activeLayout.eyeFollowing e)).1.strokeView =
          s.strokeView := strokeView_pair s.takeRecord length overlength _
      generalize s.takeRecord.pair length overlength (s.activeLayout.eyeFollowing e) = r at paired ⊢
      dsimp only
      split
      · exact (strokeView_lose _ _ _ _ _).trans paired
      · rw [strokeView_closeInduction]
        exact paired

theorem cross_diverterLaws {s : State} (h : DiverterLaws s) (c : Crossing) :
    DiverterLaws (s.cross c).1 := by
  unfold State.cross
  split
  · split
    · exact diverterLaws_of_view h (strokeView_leaveZone s _ _)
    · exact h
  · exact diverterLaws_of_view h (strokeView_missEye s _ _)
  · exact reachTrigger_diverterLaws h _
  · exact diverterLaws_of_view h (strokeView_induct _ _ _)

theorem takeAll_diverterLaws {s : State} (h : DiverterLaws s) (owed : List Crossing) :
    DiverterLaws (s.takeAll owed) :=
  takeAll_kept (P := DiverterLaws) (fun _ h => h) (fun b h => cross_diverterLaws h b) owed h

theorem pulse_diverterLaws {s : State} (h : DiverterLaws s) (z : ZoneId) :
    DiverterLaws (s.pulse z) := by
  have counted : DiverterLaws (if z = 0 then (s.raiseCount z).countSpan else s.raiseCount z) := by
    refine diverterLaws_of_view h ?_
    unfold State.countSpan
    split_ifs <;> rfl
  unfold State.pulse
  dsimp only
  split
  · exact takeAll_diverterLaws counted _
  · exact diverterLaws_of_view h rfl

theorem blockedAtItems_diverterLaws {s : State} (h : DiverterLaws s) (e : EyeId) (d : EyeDef) :
    DiverterLaws (s.blockedAtItems e d) := by
  unfold State.blockedAtItems
  split
  · refine diverterLaws_of_view h ?_
    unfold State.beginSpan
    split <;> rfl
  · unfold State.matchEdge
    split
    · exact diverterLaws_of_view h rfl
    · refine takeAll_diverterLaws (s := s.matchItem e _ _) ?_ _
      exact diverterLaws_of_view h rfl

theorem strokeView_unblockedAtItems (s : State) (d : EyeDef) :
    (s.unblockedAtItems d).strokeView = s.strokeView := by
  unfold State.unblockedAtItems
  split
  · unfold State.endSpan
    dsimp only
    split_ifs
    exacts [rfl, strokeView_induct _ _ _, rfl]
  · rfl

/-! ### Happenings, requests and steps -/

theorem fieldEffect_diverterLaws {s : State} (h : DiverterLaws s) {c : Instr} {effect : State → State}
    (hf : fieldEffect c = some effect) (ho : s.occurs c = true) : DiverterLaws (effect s) := by
  cases c with
  | encoderPulse z => cases hf; exact pulse_diverterLaws h z
  | estopChangeAtZones active => cases hf; exact diverterLaws_of_view h rfl
  | estopChangeAtDiverters active =>
    cases hf
    unfold State.estopAtDiverters
    dsimp only
    split
    · exact withdrawStrokes_diverterLaws (diverterLaws_of_view h rfl)
    · exact diverterLaws_of_view h rfl
  | blockedEdge e =>
    cases hf
    unfold State.blockedEdge
    dsimp only
    split
    · refine blockedAtItems_diverterLaws (s := (s.setEyeBlocked e true).setEye e .blocked) ?_ e _
      exact diverterLaws_of_view h rfl
    · refine blockedAtItems_diverterLaws (s := (s.setEyeBlocked e true).setEye e .jammed) ?_ e _
      exact diverterLaws_of_view h rfl
    · refine diverterLaws_of_view h ?_
      unfold State.beginSpan
      split_ifs <;> rfl
    · exact diverterLaws_of_view h rfl
  | unblockedEdge e =>
    cases hf
    refine diverterLaws_of_view h ?_
    unfold State.unblockedEdge
    dsimp only
    split
    · exact strokeView_unblockedAtItems _ _
    · exact strokeView_unblockedAtItems _ _
    · exact strokeView_unblockedAtItems _ _
    · rfl
  | homeActiveEdge d => cases hf; exact homeActive_diverterLaws h
  | homeInactiveEdge d => cases hf; exact homeInactive_diverterLaws h
  | jamTimerExpiry e =>
    cases hf
    refine diverterLaws_of_view h ?_
    unfold State.jamEye
    split <;> rfl
  | strokeTimerExpiry d =>
    cases hf
    refine enterFault_diverterLaws h (fun hu => ?_) _
    rw [State.occurs, State.strokeTimer, hu] at ho
    cases ho
  | dwellTimerExpiry d =>
    cases hf
    refine enterRetracting_diverterLaws h fun hu => ?_
    rw [State.occurs, State.dwellTimer, hu] at ho
    cases ho
  | returnTimerExpiry d =>
    cases hf
    refine enterFault_diverterLaws h (fun hu => ?_) _
    rw [State.occurs, State.returnTimer, hu] at ho
    cases ho
  | _ => cases hf

/-- R126: every diverter that a RESTART or a commit sets afresh has settled or waits for its home. -/
theorem settledUnit_sound {s : State} {d : DiverterId} {defined : Bool} (hd : defined = true) :
    StrokeSound ({ s.settledUnit d with slot := none }, s.homeRead d, defined) := by
  unfold State.settledUnit
  split
  · next hh => exact strokeSound_idle hd hh
  · next hh => exact strokeSound_settling hd (Bool.eq_false_of_not_eq_true hh)

theorem restarted_diverterLaws {s : State} (h : DiverterLaws s) : DiverterLaws s.restarted := by
  rw [diverterLaws_iff] at h ⊢
  intro d
  have view : s.restarted.strokeView d =
      if s.restartsDiverter d then
        ({ s.settledUnit d with slot := none }, s.homeRead d, s.activeLayout.diverters[d].isSome)
      else s.strokeView d := by
    unfold State.strokeView State.restarted State.homeRead
    simp only [Fin.getElem_fin, Vector.getElem_ofFn]
    cases s.restartsDiverter d <;> simp <;> rfl
  rw [view]
  split
  · next hr =>
    refine settledUnit_sound (Bool.eq_true_of_not_eq_false fun hn => ?_)
    have undefined := (h d).1.2 hn
    change s.diverters[d].state = .undefined at undefined
    rw [State.restartsDiverter, undefined] at hr
    cases hr
  · exact h d

theorem committed_diverterLaws (s : State) : DiverterLaws s.committed := by
  rw [diverterLaws_iff]
  intro d
  have view : s.committed.strokeView d = match s.pendingLayout.diverters[d] with
      | some v => (if s.homeRead d then ⟨.idle, none, none, false⟩
          else ⟨.settling, startTimer v.returnTimeout, none, false⟩, s.homeRead d, true)
      | none => (⟨.undefined, none, none, false⟩, s.inputs.homes[d], false) := by
    have layout : s.committed.activeLayout = s.pendingLayout := rfl
    unfold State.strokeView
    rw [layout]
    unfold State.committed State.homeRead
    simp only [Fin.getElem_fin, Vector.getElem_ofFn]
    cases s.pendingLayout.diverters[d.val] with
    | none => simp [Diverter.blank]
    | some v => cases s.inputs.homes[d.val] <;> cases s.leavingHome d <;> rfl
  rw [view]
  cases s.pendingLayout.diverters[d] with
  | none => exact strokeSound_undefined
  | some v =>
    dsimp only
    split
    · next hh => exact strokeSound_idle rfl hh
    · next hh => exact strokeSound_settling rfl (Bool.eq_false_of_not_eq_true hh)

theorem strokeView_postAll (s : State) (rs : List Report) : (s.postAll rs).strokeView = s.strokeView := by
  rw [postAll_frame]
  rfl

theorem Requested.diverterLaws {s t : State} {kind : Byte} (h : Requested s kind t)
    (hs : DiverterLaws s) : DiverterLaws t := by
  have same {t : State} (hv : t.strokeView = s.strokeView) : DiverterLaws t := diverterLaws_of_view hs hv
  cases h with
  | nothing => exact hs
  | announcements a => exact same rfl
  | edit l hl => exact same rfl
  | start hm => exact same rfl
  | stop hm => exact same rfl
  | restart =>
    rw [restart_eq]
    exact diverterLaws_of_view (restarted_diverterLaws hs) (strokeView_postAll _ _)
  | commit hm hi ha hv =>
    rw [commit_eq]
    exact diverterLaws_of_view (committed_diverterLaws s) (strokeView_postAll _ _)
  | purge i => exact same (strokeView_release s i.tag)
  | reroute i c => exact same (strokeView_reassign _ i.tag none)
  | resume z =>
    exact same (List.foldlRecOn (motive := fun t : State => t.strokeView = s.strokeView)
      (s.eyesIn z .jamHeld) _ rfl fun t ht e _ => ht)
  | disableEye e d =>
    refine same ?_
    unfold State.disableEye
    split_ifs <;> rfl
  | enableEye e =>
    refine same ?_
    unfold State.enableEye
    split <;> rfl
  | testDiverter d ht =>
    obtain ⟨-, hd, -⟩ := (mayTest_iff s d).1 ht
    obtain ⟨-, home, -⟩ := hs d
    exact hs.update (strokeView_modifyDiverter s d _)
      (strokeSound_extending (hs.defined_at hd nofun) (home (.inl hd)))
  | disableDiverter d hd =>
    rcases strokeView_disableDiverter s d with hv | hv
    · exact same hv
    · exact hs.update hv (strokeSound_disabled hd)
  | enableDiverter d hd =>
    exact enterSettling_diverterLaws hs fun hu => by rw [hu] at hd; cases hd
  | clearFault d hd =>
    unfold State.clearFault
    split
    · next hh =>
      obtain ⟨-, -, -, -, marked, -⟩ := hs d
      have mark : s.diverters[d].testMark = false := Bool.eq_false_of_not_eq_true fun hm => by
        have states := marked hm
        rw [hd] at states
        simp at states
      refine hs.update (d := d) ?_ (strokeSound_idle (hs.defined_at hd nofun) hh)
      rw [strokeView_post, strokeView_modifyDiverter, mark]
      rfl
    · exact enterSettling_diverterLaws hs fun hu => by rw [hu] at hd; cases hd

/-- The laws are read from blocks that frames leave as they are. -/
theorem strokeView_of_blocks {s t : State} (h : t.blocks = s.blocks) : t.strokeView = s.strokeView := by
  have diverters : t.diverters = s.diverters := (congrArg State.diverters h : t.blocks.diverters = s.blocks.diverters)
  have inputs : t.inputs = s.inputs := (congrArg State.inputs h : t.blocks.inputs = s.blocks.inputs)
  have layout : t.activeLayout = s.activeLayout := (congrArg State.activeLayout h : t.blocks.activeLayout = s.blocks.activeLayout)
  unfold State.strokeView
  rw [diverters, inputs, layout]

theorem begin_diverterLaws {s : State} (hd : s.diverters = Vector.replicate 16 Diverter.blank)
    (hl : s.activeLayout = .empty) : DiverterLaws s := by
  rw [diverterLaws_iff]
  intro d
  have undefined : s.strokeView d = (⟨.undefined, none, none, false⟩, s.inputs.homes[d], false) := by
    unfold State.strokeView
    rw [hd, hl]
    simp [Diverter.blank, Layout.empty]
  rw [undefined]
  exact strokeSound_undefined

theorem exec_diverterLaws {c : Instr} {s t : State} (hs : DiverterLaws s) (h : exec c s = .next t) :
    DiverterLaws t := by
  cases hc : IsReset c with
  | true =>
    cases c with
    | powerOn i => cases h; exact begin_diverterLaws rfl rfl
    | resetinActive => cases h; exact begin_diverterLaws rfl rfl
    | resetinInactive i =>
      rcases resetinInactive_cases h with ⟨-, rfl⟩ | ⟨-, rfl⟩
      exacts [begin_diverterLaws rfl rfl, hs]
    | _ => cases hc
  | false =>
    rcases exec_cases hc h with ht | ⟨effect, hf, -, ho, ht⟩ | ⟨kind, u, v, -, hu, hv, ht⟩
    · exact diverterLaws_of_view hs (strokeView_of_blocks ht)
    · exact diverterLaws_of_view (fieldEffect_diverterLaws hs hf ho) (strokeView_of_blocks ht)
    · exact diverterLaws_of_view
        (hv.diverterLaws (diverterLaws_of_view hs (strokeView_of_blocks hu))) (strokeView_of_blocks ht)

/-- R1: a diverter's timer has a millisecond left while none is overdue. -/
theorem tick_diverterLaws {s : State} (h : DiverterLaws s) (ho : s.overdue = []) :
    DiverterLaws s.tick := by
  by_cases hr : s.resetActive = true
  · unfold State.tick
    rw [if_pos hr]
    exact h
  · rw [diverterLaws_iff] at h ⊢
    intro d
    obtain ⟨undefined, home, away, runs, marked, elapsed⟩ := h d
    have view : s.tick.strokeView d =
        ({ (s.strokeView d).1 with timer := (s.strokeView d).1.timer.map Timer.advance },
          (s.strokeView d).2) := by
      unfold State.strokeView State.tick
      rw [if_neg hr]
      simp only [Fin.getElem_fin, Vector.getElem_ofFn]
    rw [view]
    refine ⟨undefined, home, away, by simpa using runs, marked, fun τ hτ => ?_⟩
    obtain ⟨σ, hσ, rfl⟩ := Option.map_eq_some_iff.1 hτ
    have timed : ∃ c, TimerRuns s c σ := by
      rcases runs.1 (by rw [hσ]; rfl) with hs | hs | hs | hs
      · exact ⟨.returnTimerExpiry d, .inr (.inl ⟨d, hσ, .inr (.inr ⟨rfl, .inl hs⟩)⟩)⟩
      · exact ⟨.strokeTimerExpiry d, .inr (.inl ⟨d, hσ, .inl ⟨rfl, hs⟩⟩)⟩
      · exact ⟨.dwellTimerExpiry d, .inr (.inl ⟨d, hσ, .inr (.inl ⟨rfl, hs⟩)⟩)⟩
      · exact ⟨.returnTimerExpiry d, .inr (.inl ⟨d, hσ, .inr (.inr ⟨rfl, .inr hs⟩)⟩)⟩
    obtain ⟨c, timed⟩ := timed
    exact Nat.succ_le_succ (elapsed_le_of_overdue (Bool.eq_false_of_not_eq_true hr) ho timed)

/-- Settles O11: whatever changes a diverter's state leaves it with the timer, the home level and the test
mark of that state, and a millisecond passes only while its timer has one left. -/
theorem stepKeepsDiverterLaws : Obligations.StepKeepsDiverterLaws := by
  intro s t hs h
  rcases step_cases h with ⟨-, ho, rfl⟩ | ⟨c, rest, n, he⟩
  · exact tick_diverterLaws hs ho
  · exact exec_diverterLaws (s := { s with pending := rest, freeIndex := n }) hs he

end Sys2Proof.Machine
end

section
/-! PROOFS. The eye laws over a step (R47, R60, R63, R64, R76, Table 4-2). -/

namespace Sys2Proof.Machine

set_option Elab.async false

/-! ### What keeps the span -/

/-- The span state and the span count (R47). -/
def State.spanned (s : State) : SpanState × Nat := (s.span, s.spanCount)

theorem span_of_spanned {s t : State} (h : t.spanned = s.spanned) : t.span = s.span :=
  congrArg Prod.fst h

theorem post_spanned (s : State) (r : Report) : (s.post r).spanned = s.spanned := rfl

theorem reassign_spanned (s : State) (tag : Nat) (excluded : Option DiverterId) :
    (s.reassign tag excluded).1.spanned = s.spanned := by
  unfold State.reassign
  split <;> rfl

theorem reevaluate_spanned (s : State) (d : DiverterId) : (s.reevaluate d).spanned = s.spanned :=
  List.foldlRecOn (motive := fun t : State => t.spanned = s.spanned) s.claims[d] _ rfl
    fun t ht tag _ => (reassign_spanned t tag (some d)).trans ht

theorem returnItem_spanned (s : State) (d : DiverterId) (cause : MissCause) :
    (s.returnItem d cause).spanned = s.spanned := by
  unfold State.returnItem
  split
  · rfl
  · dsimp only
    rw [post_spanned, reassign_spanned]
    rfl

theorem enterFault_spanned (s : State) (d : DiverterId) (cause : DiverterCause) :
    (s.enterFault d cause).spanned = s.spanned := by
  unfold State.enterFault
  dsimp only
  split
  · exact (reevaluate_spanned _ d).trans ((returnItem_spanned _ d _).trans rfl)
  · exact (returnItem_spanned _ d _).trans rfl

theorem disableDiverter_spanned (s : State) (d : DiverterId) : (s.disableDiverter d).spanned = s.spanned := by
  unfold State.disableDiverter
  dsimp only
  split_ifs
  · rfl
  · exact (reevaluate_spanned _ d).trans ((returnItem_spanned _ d _).trans rfl)
  · exact (returnItem_spanned _ d _).trans rfl

theorem retracted_spanned (s : State) (d : DiverterId) : (s.retracted d).spanned = s.spanned := by
  unfold State.retracted
  dsimp only
  split <;> rfl

theorem enterRetracting_spanned (s : State) (d : DiverterId) : (s.enterRetracting d).spanned = s.spanned := by
  unfold State.enterRetracting
  dsimp only
  split
  · exact retracted_spanned _ d
  · rfl

theorem enterSettling_spanned (s : State) (d : DiverterId) : (s.enterSettling d).spanned = s.spanned := by
  unfold State.enterSettling
  split <;> rfl

theorem clearFault_spanned (s : State) (d : DiverterId) : (s.clearFault d).spanned = s.spanned := by
  unfold State.clearFault
  split
  · rfl
  · exact enterSettling_spanned s d

theorem completeStroke_spanned (s : State) (d : DiverterId) : (s.completeStroke d).spanned = s.spanned := by
  unfold State.completeStroke
  dsimp only
  split <;> rfl

theorem homeActive_spanned (s : State) (d : DiverterId) : (s.homeActive d).spanned = s.spanned := by
  unfold State.homeActive
  dsimp only
  split
  exacts [rfl, retracted_spanned _ d, enterFault_spanned _ d _, rfl, rfl, rfl, rfl, rfl]

theorem homeInactive_spanned (s : State) (d : DiverterId) : (s.homeInactive d).spanned = s.spanned := by
  unfold State.homeInactive
  dsimp only
  split
  exacts [enterFault_spanned _ d _, completeStroke_spanned _ d, rfl, rfl, rfl, rfl, rfl, rfl]

theorem missEye_spanned (s : State) (tag : Nat) (e : EyeId) : (s.missEye tag e).spanned = s.spanned := by
  unfold State.missEye
  split
  · rfl
  · dsimp only
    split_ifs <;> rfl

theorem takeWindowEnds_spanned (tag : Nat) (z : ZoneId) (n : Nat) (s : State) :
    (s.takeWindowEnds tag z n).spanned = s.spanned := by
  induction n generalizing s with
  | zero => rfl
  | succ n ih =>
    unfold State.takeWindowEnds
    split
    · rfl
    · split
      · exact (ih _).trans (missEye_spanned s tag _)
      · rfl

theorem leaveZone_spanned (s : State) (tag : Nat) (z : ZoneId) : (s.leaveZone tag z).1.spanned = s.spanned := by
  have ended : (if (s.findItem tag).any (s.transferMeetsReturn z) then s
      else s.takeWindowEnds tag z 12).spanned = s.spanned := by
    split
    exacts [rfl, takeWindowEnds_spanned tag z 12 s]
  unfold State.leaveZone
  dsimp only
  generalize (if (s.findItem tag).any (s.transferMeetsReturn z) then s
    else s.takeWindowEnds tag z 12) = t at ended ⊢
  split
  · exact ended
  · split
    · refine .trans ?_ ended
      unfold State.transferItem
      split <;> rfl
    · exact ended

theorem reachTrigger_spanned (s : State) (tag : Nat) (d : DiverterId) :
    (s.reachTrigger tag d).spanned = s.spanned := by
  unfold State.reachTrigger
  split
  · rfl
  · split_ifs
    · unfold State.decideFire
      split
      · refine (reassign_spanned _ _ _).trans ?_
        split <;> rfl
      · unfold State.fire
        dsimp only
        split <;> rfl
    · rfl
    · rfl

theorem closeInduction_spanned (s : State) (i : Item) : (s.closeInduction i).spanned = s.spanned :=
  reassign_spanned s i.tag none

theorem induct_spanned (s : State) (length : Nat) (overlength : Bool) :
    (s.induct length overlength).spanned = s.spanned := by
  unfold State.induct
  split
  · rfl
  · split
    · rfl
    · next e _ _ =>
      have paired : (s.takeRecord.pair length overlength (s.activeLayout.eyeFollowing e)).1.spanned =
          s.spanned := by
        unfold State.pair
        split <;> rfl
      generalize s.takeRecord.pair length overlength (s.activeLayout.eyeFollowing e) = r at paired ⊢
      dsimp only
      split
      · exact paired
      · rw [closeInduction_spanned]
        exact paired

/-- R49: of the crossings only the overlength induction changes the span state, to PASSED. -/
theorem cross_spanned (s : State) (c : Crossing) :
    (s.cross c).1.spanned = if c.point = .overlength then (.passed, 0) else s.spanned := by
  unfold State.cross
  split
  · next h =>
    rw [if_neg (by rw [h]; nofun)]
    split
    exacts [leaveZone_spanned s _ _, rfl]
  · next h =>
    rw [if_neg (by rw [h]; nofun)]
    exact missEye_spanned s _ _
  · next h =>
    rw [if_neg (by rw [h]; nofun)]
    exact reachTrigger_spanned s _ _
  · next h =>
    rw [if_pos h]
    exact induct_spanned _ _ _

/-- R49: the crossings of a happening leave the span IDLE or not, as it is, where they hold the overlength
induction only while the span is not IDLE. -/
theorem takeAll_idle {s : State} {owed : List Crossing}
    (h : ∀ c ∈ owed, c.point = .overlength → s.span ≠ .idle) :
    (s.takeAll owed).span = .idle ↔ s.span = .idle := by
  have take {t : State} {owed : List Crossing} {b : Crossing}
      (h : (t.span = .idle ↔ s.span = .idle) ∧ ∀ c ∈ owed, c.point = .overlength → t.span ≠ .idle)
      (hb : b ∈ owed) : ((t.cross b).1.span = .idle ↔ s.span = .idle) ∧
        ∀ c ∈ owedAfter owed b (t.cross b), c.point = .overlength → (t.cross b).1.span ≠ .idle := by
    obtain ⟨hs, ho⟩ := h
    have span := congrArg Prod.fst (cross_spanned t b)
    rw [apply_ite Prod.fst] at span
    change (t.cross b).1.span = if _ then .passed else t.span at span
    have more : ∀ c ∈ (t.cross b).2, c.point ≠ .overlength := by
      intro c hc
      rcases cross_more t b with hm | ⟨-, y, p, hm⟩ <;> rw [hm] at hc
      · cases hc
      · exact (pointsIn_tag hc).2.2
    by_cases bound : b.point = .overlength
    · rw [if_pos bound] at span
      have idle := ho b hb bound
      rw [span]
      exact ⟨iff_of_false nofun (mt hs.2 idle), fun c _ _ => nofun⟩
    · rw [if_neg bound] at span
      rw [span]
      refine ⟨hs, fun c hc hp => ?_⟩
      rcases mem_owedAfter.1 hc with ⟨hm, -⟩ | ⟨hm, -⟩
      exacts [ho c hm hp, absurd hp (more c hm)]
  obtain ⟨-, ⟨kept, -⟩, -⟩ := takeCrossings_induction
    (P := fun t owed => (t.span = .idle ↔ s.span = .idle) ∧
      ∀ c ∈ owed, c.point = .overlength → t.span ≠ .idle)
    (fun _ h => h) (fun ⟨hs, ho⟩ _ => ⟨hs, fun c hc => ho c (List.mem_filter.1 hc).1⟩)
    (fun h hb _ _ => take h hb) (owed.length + 28) ⟨Iff.rfl, h⟩
  exact kept

/-! ### What the laws read -/

/-- What the eye laws read of one eye: its state and jam timer, its blocked condition and its definition. -/
def State.eyeView (s : State) (e : EyeId) : Eye × Bool × Option EyeDef :=
  (s.eyes[e], s.eyeBlocked e, s.activeLayout.eyes[e])

/-- The eye laws of one eye. -/
def EyeSound (v : Eye × Bool × Option EyeDef) : Prop :=
  (v.1.state = .undefined ↔ v.2.2 = none) ∧
  (v.1.state = .clear ∨ v.1.state = .jamHeld → v.2.1 = false) ∧
  (v.1.state = .blocked ∨ v.1.state = .jammed → v.2.1 = true) ∧
  (v.1.state ≠ .blocked → v.1.jamElapsed = 0) ∧
  (∀ d ∈ v.2.2, d.jamTime ≠ 0 → v.1.jamElapsed ≤ d.jamTime + 1) ∧
  (v.1.state = .disabled → ∀ d ∈ v.2.2, d.role = .confirm)

/-- The law that ties the span state to the induction eye. -/
def State.SpanSound (s : State) : Prop :=
  (∀ e ∈ s.activeLayout.inductionEye, s.eyeBlocked e = false) ↔ s.span = .idle

theorem eyeLaws_iff (s : State) : EyeLaws s ↔ (∀ e, EyeSound (s.eyeView e)) ∧ s.SpanSound := Iff.rfl

/-- What the laws read of the state but for the span. -/
def State.gaze (s : State) : Vector Eye 12 × Vector Bool 12 × Layout :=
  (s.eyes, s.inputs.eyes, s.activeLayout)

theorem eyeLaws_of_gaze {s t : State} (h : EyeLaws s) (hg : t.gaze = s.gaze)
    (hs : t.span = .idle ↔ s.span = .idle) : EyeLaws t := by
  simp only [State.gaze, Prod.mk.injEq] at hg
  obtain ⟨eyes, inputs, layout⟩ := hg
  have blocked (e : EyeId) : t.eyeBlocked e = s.eyeBlocked e := by
    unfold State.eyeBlocked
    rw [inputs, layout]
  unfold EyeLaws
  simp only [eyes, layout, blocked, hs]
  exact h

theorem gaze_of_still {s t : State} (h : t.still = s.still) : t.gaze = s.gaze := by
  unfold State.gaze
  rw [eyes_of_still h, inputs_of_still h, activeLayout_of_still h]

/-- Where the line's items and diverters move and the span state stays. -/
theorem eyeLaws_of_still {s t u : State} (h : EyeLaws s) (hu : u.gaze = s.gaze)
    (hs : u.spanned = s.spanned) (ht : t.still = u.still) (hp : t.spanned = u.spanned) : EyeLaws t :=
  eyeLaws_of_gaze h ((gaze_of_still ht).trans hu) (by rw [span_of_spanned (hp.trans hs)])

/-! ### Eyes set and edges -/

section
variable {blocked : Bool} {def_ : Option EyeDef}

theorem eyeSound_blocked (hb : blocked = true) (hd : def_ ≠ none) :
    EyeSound (⟨.blocked, 0⟩, blocked, def_) := by
  simp [EyeSound, hb, hd]

theorem eyeSound_jammed (hb : blocked = true) (hd : def_ ≠ none) :
    EyeSound (⟨.jammed, 0⟩, blocked, def_) := by
  simp [EyeSound, hb, hd]

theorem eyeSound_clear (hb : blocked = false) (hd : def_ ≠ none) :
    EyeSound (⟨.clear, 0⟩, blocked, def_) := by
  simp [EyeSound, hb, hd]

theorem eyeSound_jamHeld (hb : blocked = false) (hd : def_ ≠ none) :
    EyeSound (⟨.jamHeld, 0⟩, blocked, def_) := by
  simp [EyeSound, hb, hd]

theorem eyeSound_disabled {d : EyeDef} (hd : def_ = some d) (hr : d.role = .confirm) :
    EyeSound (⟨.disabled, 0⟩, blocked, def_) := by
  simp [EyeSound, hd, hr]

/-- R80: an eye set from its input. -/
theorem eyeSound_fromInput (hd : def_ ≠ none) :
    EyeSound (⟨if blocked then .blocked else .clear, 0⟩, blocked, def_) := by
  cases blocked
  exacts [eyeSound_clear rfl hd, eyeSound_blocked rfl hd]

end

section
variable {s : State} {e : EyeId}

theorem eyeView_setEye (s : State) (e : EyeId) (x : EyeState) : (s.setEye e x).eyeView =
    Function.update s.eyeView e (⟨x, 0⟩, (s.eyeView e).2) := by
  funext f
  rw [Function.update_apply]
  unfold State.eyeView
  rw [State.setEye_eyes, getElem_set_fin]
  split
  · next h => rw [if_pos h.symm]; subst h; rfl
  · next h => rw [if_neg (Ne.symm h)]; rfl

theorem eyeBlocked_setEyeBlocked (s : State) (e f : EyeId) (b : Bool) :
    (s.setEyeBlocked e b).eyeBlocked f = if e = f then b else s.eyeBlocked f := by
  unfold State.setEyeBlocked State.eyeBlocked
  dsimp only
  rw [getElem_set_fin]
  by_cases h : e = f
  · subst h
    rw [if_pos rfl, if_pos rfl]
    cases s.activeLayout.eyes[e] with
    | none => rfl
    | some d => cases hd : d.sense <;> cases b <;> simp [blockedThrough, hd]
  · rw [if_neg h, if_neg h]

theorem eyeView_setEyeBlocked (s : State) (e : EyeId) (b : Bool) : (s.setEyeBlocked e b).eyeView =
    Function.update s.eyeView e ((s.eyeView e).1, b, (s.eyeView e).2.2) := by
  funext f
  rw [Function.update_apply]
  unfold State.eyeView
  rw [eyeBlocked_setEyeBlocked]
  split
  · next h => rw [if_pos h.symm]; subst h; rfl
  · next h => rw [if_neg (Ne.symm h)]; rfl

/-- R142, check 3: an eye of role INDUCT is the induction eye of a layout in force. -/
theorem inductionEye_of_induct (hl : LayoutLaws s) {d : EyeDef} (hd : s.activeLayout.eyes[e] = some d)
    (hr : d.role = .induct) : s.activeLayout.inductionEye = some e := by
  obtain ⟨-, -, empty, valid⟩ := hl
  have configured : s.module ≠ .unconfigured := by
    intro hm
    rw [empty hm] at hd
    simp [Layout.empty] at hd
  obtain ⟨i, v, sole⟩ := exists_soleInduct
    ((validate_none_iff s.activeLayout).1 (valid configured) 3 (by decide) (by decide))
  obtain ⟨rfl, -⟩ := sole.sole e d hd hr
  exact sole.inductionEye

theorem not_inductionEye {d : EyeDef} (hd : s.activeLayout.eyes[e] = some d) (hr : d.role = .confirm) :
    s.activeLayout.inductionEye ≠ some e := by
  intro hi
  obtain ⟨v, hv, induct⟩ := inductionEye_defined hi
  rw [hd] at hv
  cases hv
  rw [hr] at induct
  cases induct

/-- The laws are kept where one eye is changed to a sound one, `w` to `t` by what keeps all the eyes, and
the span state with it if it is the induction eye. -/
theorem EyeLaws.update {w t : State} (h : EyeLaws s) {x : Eye} {b : Bool}
    (hl : w.activeLayout = s.activeLayout)
    (hw : w.eyeView = Function.update s.eyeView e (x, b, s.activeLayout.eyes[e]))
    (sound : EyeSound (x, b, s.activeLayout.eyes[e])) (hg : t.gaze = w.gaze)
    (hi : s.activeLayout.inductionEye = some e → (t.span = .idle ↔ b = false))
    (hc : s.activeLayout.inductionEye ≠ some e → (t.span = .idle ↔ s.span = .idle)) : EyeLaws t := by
  obtain ⟨eyes, span⟩ := (eyeLaws_iff s).1 h
  simp only [State.gaze, Prod.mk.injEq] at hg
  obtain ⟨same, inputs, layout⟩ := hg
  have view : t.eyeView = Function.update s.eyeView e (x, b, s.activeLayout.eyes[e]) := by
    rw [← hw]
    unfold State.eyeView State.eyeBlocked
    rw [same, inputs, layout]
  refine (eyeLaws_iff t).2 ⟨fun f => ?_, ?_⟩
  · rw [view]
    exact (Function.forall_update_iff s.eyeView fun _ v => EyeSound v).2 ⟨sound, fun f _ => eyes f⟩ f
  · have blocked (f : EyeId) : t.eyeBlocked f = if f = e then b else s.eyeBlocked f := by
      have := congrFun view f
      rw [Function.update_apply] at this
      have := congrArg (fun v => v.2.1) this
      split at this
      · next hf => rw [if_pos hf]; exact this
      · next hf => rw [if_neg hf]; exact this
    unfold State.SpanSound at span ⊢
    rw [layout, hl]
    by_cases own : s.activeLayout.inductionEye = some e
    · rw [hi own, own]
      simp [blocked]
    · rw [hc own, ← span]
      refine forall₂_congr fun f hf => ?_
      rw [blocked, if_neg fun he : f = e => own (he ▸ hf)]

end

/-! ### Edges -/

theorem matchEdge_idle (s : State) (e : EyeId) (d : EyeDef) :
    (s.matchEdge e d).span = .idle ↔ s.span = .idle := by
  unfold State.matchEdge
  split
  · exact Iff.rfl
  · next i _ =>
    exact takeAll_idle (s := s.matchItem e i _) fun c hc hp => absurd hp (pointsIn_tag hc).2.2

theorem beginSpan_busy (s : State) : s.beginSpan.span ≠ .idle := by
  unfold State.beginSpan
  split
  · nofun
  · next h => exact h

theorem endSpan_idle (s : State) : s.endSpan.span = .idle := by
  unfold State.endSpan
  dsimp only
  split_ifs
  exacts [rfl, span_of_spanned (induct_spanned _ _ _), rfl]

section
variable {s : State} {e : EyeId} {d : EyeDef}

/-- The span state at an edge of an eye: the induction eye's begins or ends the span. -/
theorem edge_eyeLaws {w t : State} (hl : LayoutLaws s) (h : EyeLaws s)
    (hd : s.activeLayout.eyes[e] = some d) {x : Eye} {b : Bool} (hw : w.activeLayout = s.activeLayout)
    (hv : w.eyeView = Function.update s.eyeView e (x, b, s.activeLayout.eyes[e]))
    (sound : EyeSound (x, b, s.activeLayout.eyes[e])) (ht : t.still = w.still)
    (hi : d.role = .induct → (t.span = .idle ↔ b = false))
    (hc : d.role = .confirm → (t.span = .idle ↔ s.span = .idle)) : EyeLaws t := by
  refine h.update hw hv sound (gaze_of_still ht) (fun own => hi ?_) fun other => hc ?_
  · obtain ⟨v, hv, induct⟩ := inductionEye_defined own
    rw [hd] at hv
    cases hv
    exact induct
  · cases hr : d.role with
    | induct => exact absurd (inductionEye_of_induct hl hd hr) other
    | confirm => rfl

theorem eyeView_became (s : State) (e : EyeId) (b : Bool) (x : EyeState) :
    ((s.setEyeBlocked e b).setEye e x).eyeView =
      Function.update s.eyeView e (⟨x, 0⟩, b, s.activeLayout.eyes[e]) := by
  rw [eyeView_setEye, eyeView_setEyeBlocked, Function.update_idem, Function.update_self]
  rfl

/-- A DISABLED eye, and one with no definition, only follow the input. -/
theorem EyeSound.follows {v : Eye × Bool × Option EyeDef} (h : EyeSound v)
    (hs : v.1.state = .disabled ∨ v.1.state = .undefined) (b : Bool) : EyeSound (v.1, b, v.2.2) := by
  obtain ⟨undefined, -, -, still, elapsed, disabled⟩ := h
  refine ⟨undefined, fun hc => ?_, fun hc => ?_, still, elapsed, disabled⟩ <;>
    rcases hs with hs | hs <;> rw [hs] at hc <;> simp at hc

theorem blockedAtItems_eyeLaws (hl : LayoutLaws s) (h : EyeLaws s)
    (hd : s.activeLayout.eyes[e] = some d) {x : EyeState}
    (sound : EyeSound (⟨x, 0⟩, true, s.activeLayout.eyes[e])) :
    EyeLaws (((s.setEyeBlocked e true).setEye e x).blockedAtItems e d) := by
  refine edge_eyeLaws (w := (s.setEyeBlocked e true).setEye e x) hl h hd rfl (eyeView_became s e true x)
    sound (blockedAtItems_still _ e d) (fun hr => ?_) fun hr => ?_
  · rw [State.blockedAtItems, hr]
    exact iff_of_false (beginSpan_busy _) nofun
  · rw [State.blockedAtItems, hr]
    exact matchEdge_idle _ e d

theorem unblockedAtItems_eyeLaws (hl : LayoutLaws s) (h : EyeLaws s)
    (hd : s.activeLayout.eyes[e] = some d) {x : EyeState}
    (sound : EyeSound (⟨x, 0⟩, false, s.activeLayout.eyes[e])) :
    EyeLaws (((s.setEyeBlocked e false).setEye e x).unblockedAtItems d) := by
  refine edge_eyeLaws (w := (s.setEyeBlocked e false).setEye e x) hl h hd rfl
    (eyeView_became s e false x) sound (unblockedAtItems_still _ d) (fun hr => ?_) fun hr => ?_
  · rw [State.unblockedAtItems, hr]
    exact iff_of_true (endSpan_idle _) rfl
  · rw [State.unblockedAtItems, hr]
    exact Iff.rfl

/-- An edge at an eye that only follows the input. -/
theorem followed_eyeLaws (h : EyeLaws s) (b : Bool)
    (hs : s.eyes[e].state = .disabled ∨ s.eyes[e].state = .undefined) :
    EyeLaws (s.setEyeBlocked e b) := by
  obtain ⟨undefined, -, -, -, -, confirm⟩ := ((eyeLaws_iff s).1 h).1 e
  refine h.update (w := s.setEyeBlocked e b) rfl (eyeView_setEyeBlocked s e b) ((((eyeLaws_iff s).1 h).1 e).follows hs b) rfl
    (fun own => ?_) fun _ => Iff.rfl
  obtain ⟨v, hv, induct⟩ := inductionEye_defined own
  rcases hs with hs | hs
  · have := confirm hs v hv
    rw [induct] at this
    cases this
  · have absent := undefined.1 hs
    change s.activeLayout.eyes[e] = none at absent
    rw [hv] at absent
    cases absent

theorem blockedEdge_eyeLaws (hl : LayoutLaws s) (h : EyeLaws s) (ho : s.eyeBlocked e = false) :
    EyeLaws (s.blockedEdge e) := by
  obtain ⟨undefined, -, shut, -, -, confirm⟩ := ((eyeLaws_iff s).1 h).1 e
  have open_ (hs : s.eyes[e].state = .blocked ∨ s.eyes[e].state = .jammed) : False := by
    have := shut hs
    change s.eyeBlocked e = true at this
    rw [ho] at this
    cases this
  unfold State.blockedEdge
  dsimp only
  cases hd : s.activeLayout.eyes[e] with
  | none => exact followed_eyeLaws h true (.inr (undefined.2 hd))
  | some d =>
    have present : s.activeLayout.eyes[e] ≠ none := by rw [hd]; nofun
    cases hs : s.eyes[e].state with
    | undefined => exact absurd (undefined.1 hs) present
    | clear => exact blockedAtItems_eyeLaws hl h hd (eyeSound_blocked rfl present)
    | blocked => exact (open_ (.inl hs)).elim
    | jammed => exact (open_ (.inr hs)).elim
    | jamHeld => exact blockedAtItems_eyeLaws hl h hd (eyeSound_jammed rfl present)
    | disabled =>
      have role : d.role = .confirm := confirm hs d hd
      dsimp only
      rw [if_neg (by rw [role]; nofun)]
      exact followed_eyeLaws h true (.inl hs)

theorem unblockedEdge_eyeLaws (hl : LayoutLaws s) (h : EyeLaws s) (ho : s.eyeBlocked e = true) :
    EyeLaws (s.unblockedEdge e) := by
  obtain ⟨undefined, unshut, -, -, -, confirm⟩ := ((eyeLaws_iff s).1 h).1 e
  have shut (hs : s.eyes[e].state = .clear ∨ s.eyes[e].state = .jamHeld) : False := by
    have := unshut hs
    change s.eyeBlocked e = false at this
    rw [ho] at this
    cases this
  unfold State.unblockedEdge
  dsimp only
  cases hd : s.activeLayout.eyes[e] with
  | none => exact followed_eyeLaws h false (.inr (undefined.2 hd))
  | some d =>
    have present : s.activeLayout.eyes[e] ≠ none := by rw [hd]; nofun
    cases hs : s.eyes[e].state with
    | undefined => exact absurd (undefined.1 hs) present
    | clear => exact (shut (.inl hs)).elim
    | blocked => exact unblockedAtItems_eyeLaws hl h hd (eyeSound_clear rfl present)
    | jammed => exact unblockedAtItems_eyeLaws hl h hd (eyeSound_jamHeld rfl present)
    | jamHeld => exact (shut (.inr hs)).elim
    | disabled =>
      have role : d.role = .confirm := confirm hs d hd
      dsimp only
      unfold State.unblockedAtItems
      rw [role]
      exact followed_eyeLaws h false (.inl hs)

/-- Where an eye goes to another state and its input stays. -/
theorem setEye_eyeLaws (h : EyeLaws s) {x : EyeState}
    (sound : EyeSound (⟨x, 0⟩, s.eyeBlocked e, s.activeLayout.eyes[e])) : EyeLaws (s.setEye e x) := by
  refine h.update (w := s.setEye e x) rfl (eyeView_setEye s e x) sound rfl (fun own => ?_) fun _ => Iff.rfl
  obtain ⟨-, span⟩ := (eyeLaws_iff s).1 h
  unfold State.SpanSound at span
  rw [own] at span
  change s.span = .idle ↔ _
  rw [← span]
  simp

end

/-! ### Happenings -/

theorem pulse_idle (s : State) (z : ZoneId) : (s.pulse z).span = .idle ↔ s.span = .idle := by
  have counted : (if z = 0 then (s.raiseCount z).countSpan else s.raiseCount z).span = s.span := by
    unfold State.countSpan
    split_ifs <;> rfl
  unfold State.pulse
  dsimp only
  split
  · refine (takeAll_idle fun c hc hp => ?_).trans (by rw [counted])
    generalize (if z = 0 then (s.raiseCount z).countSpan else s.raiseCount z) = u at hc counted ⊢
    unfold State.pulseOwed at hc
    rcases List.mem_append.1 hc with hc | hc
    · rcases List.mem_append.1 hc with hc | hc
      · unfold State.zoneEndOwed at hc
        split at hc
        · split at hc
          · simp only [List.mem_singleton] at hc
            rw [hc] at hp
            cases hp
          · cases hc
        · cases hc
      · obtain ⟨i, -, hi⟩ := List.mem_flatMap.1 hc
        exact absurd hp (pointsIn_tag hi).2.2
    · unfold State.overlengthOwed State.spanOverlength at hc
      split at hc
      · next ho =>
        obtain ⟨-, ho⟩ := ho
        rw [Bool.and_eq_true, decide_eq_true_eq] at ho
        rw [ho.1]
        nofun
      · cases hc
  · exact Iff.rfl

/-- An emergency stop moves diverters and items. -/
theorem withdrawStrokes_gaze (s : State) :
    s.withdrawStrokes.gaze = s.gaze ∧ s.withdrawStrokes.spanned = s.spanned := by
  unfold State.withdrawStrokes
  refine List.foldlRecOn (motive := fun t : State => t.gaze = s.gaze ∧ t.spanned = s.spanned) _ _
    (List.foldlRecOn (motive := fun t : State => t.gaze = s.gaze ∧ t.spanned = s.spanned) _ _ ⟨rfl, rfl⟩
      fun t ht d _ => ?_) fun t ht d _ => ?_
  · unfold State.withdrawStroke
    split
    · have read : (t.readHome d).gaze = t.gaze ∧ (t.readHome d).spanned = t.spanned := by
        unfold State.readHome
        split <;> exact ⟨rfl, rfl⟩
      exact ⟨(gaze_of_still (enterRetracting_still _ d)).trans (read.1.trans ht.1),
        (enterRetracting_spanned _ d).trans (read.2.trans ht.2)⟩
    · exact ht
  · exact ⟨(gaze_of_still (returnItem_still t d _)).trans ht.1, (returnItem_spanned t d _).trans ht.2⟩

theorem fieldEffect_eyeLaws {s : State} (hl : LayoutLaws s) (h : EyeLaws s) {c : Instr}
    {effect : State → State} (hf : fieldEffect c = some effect) (ho : s.occurs c = true) :
    EyeLaws (effect s) := by
  have kept {u t : State} (hu : u.gaze = s.gaze) (hs : u.spanned = s.spanned) (ht : t.still = u.still)
      (hp : t.spanned = u.spanned) : EyeLaws t := eyeLaws_of_still h hu hs ht hp
  cases c with
  | encoderPulse z => cases hf; exact eyeLaws_of_gaze h (gaze_of_still (pulse_still s z)) (pulse_idle s z)
  | estopChangeAtZones active => cases hf; exact eyeLaws_of_gaze h rfl Iff.rfl
  | estopChangeAtDiverters active =>
    cases hf
    unfold State.estopAtDiverters
    dsimp only
    split
    · obtain ⟨gaze, span⟩ := withdrawStrokes_gaze { s with inputs := { s.inputs with estop := active } }
      exact eyeLaws_of_gaze h gaze (by rw [span_of_spanned span])
    · exact eyeLaws_of_gaze h rfl Iff.rfl
  | blockedEdge e =>
    cases hf
    refine blockedEdge_eyeLaws hl h ?_
    simpa [State.occurs] using ho
  | unblockedEdge e => cases hf; exact unblockedEdge_eyeLaws hl h ho
  | homeActiveEdge d =>
    cases hf
    refine eyeLaws_of_gaze h ?_ (by rw [span_of_spanned (homeActive_spanned s d)])
    unfold State.homeActive
    dsimp only
    split
    exacts [rfl, (gaze_of_still (retracted_still _ d)).trans rfl,
      (gaze_of_still (enterFault_still _ d _)).trans rfl, rfl, rfl, rfl, rfl, rfl]
  | homeInactiveEdge d =>
    cases hf
    refine eyeLaws_of_gaze h ?_ (by rw [span_of_spanned (homeInactive_spanned s d)])
    unfold State.homeInactive
    dsimp only
    split
    exacts [(gaze_of_still (enterFault_still _ d _)).trans rfl,
      (gaze_of_still (completeStroke_still _ d)).trans rfl, rfl, rfl, rfl, rfl, rfl, rfl]
  | jamTimerExpiry e =>
    cases hf
    have running : s.jamTimerRuns e = true := by
      have due : (s.jamTimer e).any Timer.due = true := ho
      by_contra hn
      rw [State.jamTimer, if_neg hn] at due
      cases due
    obtain ⟨blocked, d, hd, -⟩ := (jamTimerRuns_iff s e).1 running
    obtain ⟨-, -, shut, -⟩ := ((eyeLaws_iff s).1 h).1 e
    have jammed : EyeLaws (s.setEye e .jammed) :=
      setEye_eyeLaws h (eyeSound_jammed (shut (.inl blocked)) (by rw [hd]; nofun))
    unfold State.jamEye
    rw [hd]
    exact eyeLaws_of_gaze jammed rfl Iff.rfl
  | strokeTimerExpiry d =>
    cases hf
    exact kept rfl rfl (enterFault_still s d _) (enterFault_spanned s d _)
  | dwellTimerExpiry d =>
    cases hf
    exact kept rfl rfl (enterRetracting_still s d) (enterRetracting_spanned s d)
  | returnTimerExpiry d =>
    cases hf
    exact kept rfl rfl (enterFault_still s d _) (enterFault_spanned s d _)
  | _ => cases hf

/-! ### Requests -/

/-- R20: the JAM_HELD eyes of a zone become CLEAR. -/
theorem resume_eyeLaws {s : State} (h : EyeLaws s) (z : ZoneId) : EyeLaws (s.resume z) := by
  have start : EyeLaws (s.setHost z false) := eyeLaws_of_gaze h rfl Iff.rfl
  have held : ∀ e ∈ s.eyesIn z .jamHeld,
      s.eyeBlocked e = false ∧ s.activeLayout.eyes[e] ≠ none := by
    intro e he
    have both := (List.mem_filter.1 he).2
    rw [Bool.and_eq_true, decide_eq_true_eq] at both
    obtain ⟨-, unshut, -⟩ := ((eyeLaws_iff s).1 h).1 e
    refine ⟨unshut (.inr both.1), fun hn => ?_⟩
    rw [hn] at both
    cases both.2
  obtain ⟨cleared, -⟩ := List.foldlRecOn
    (motive := fun t : State => EyeLaws t ∧ t.inputs = s.inputs ∧ t.activeLayout = s.activeLayout)
    (s.eyesIn z .jamHeld) (State.clearHeld z) (b := s.setHost z false) ⟨start, rfl, rfl⟩
    fun t ⟨laws, inputs, layout⟩ e he => by
      obtain ⟨open_, defined⟩ := held e he
      have blocked : t.eyeBlocked e = false := by
        rw [← open_]
        unfold State.eyeBlocked
        rw [inputs, layout]
      exact ⟨eyeLaws_of_gaze (setEye_eyeLaws laws (eyeSound_clear blocked (by rw [layout]; exact defined)))
        rfl Iff.rfl, inputs, layout⟩
  exact eyeLaws_of_gaze cleared rfl Iff.rfl

/-- R59, R80: every eye and the span set from the inputs as they stand. -/
theorem eyeLaws_fromInputs {s t : State} (hl : t.activeLayout = s.activeLayout)
    (hi : t.inputs.eyes = s.inputs.eyes) (hs : t.span = s.spanFromInput)
    (he : ∀ e, EyeSound (t.eyes[e], s.eyeBlocked e, s.activeLayout.eyes[e])) : EyeLaws t := by
  have blocked (e : EyeId) : t.eyeBlocked e = s.eyeBlocked e := by
    unfold State.eyeBlocked
    rw [hi, hl]
  refine (eyeLaws_iff t).2 ⟨fun e => ?_, ?_⟩
  · unfold State.eyeView
    rw [blocked, hl]
    exact he e
  · unfold State.SpanSound State.spanFromInput at *
    rw [hl, hs]
    cases s.activeLayout.inductionEye with
    | none => simp
    | some e => cases hb : s.eyeBlocked e <;> simp [blocked, hb]

theorem restarted_eyeLaws {s : State} (h : EyeLaws s) : EyeLaws s.restarted := by
  refine eyeLaws_fromInputs (s := s) rfl rfl rfl fun e => ?_
  have sound := ((eyeLaws_iff s).1 h).1 e
  have eye : s.restarted.eyes[e] = s.restartEye e := by
    simp [State.restarted, State.cleared, State.giveUp]
  rw [eye]
  have fresh (hs : s.eyes[e].state ≠ .undefined) :
      EyeSound (s.eyeFromInput e, s.eyeBlocked e, s.activeLayout.eyes[e]) :=
    eyeSound_fromInput fun hn => hs (sound.1.2 hn)
  unfold State.restartEye
  split
  · exact sound
  · exact sound
  all_goals next hs => exact fresh (by rw [hs]; nofun)

theorem committed_eyeLaws (s : State) : EyeLaws s.committed := by
  refine eyeLaws_fromInputs (s := { s with activeLayout := s.pendingLayout }) rfl rfl rfl fun e => ?_
  have eye : s.committed.eyes[e] = if s.pendingLayout.eyes[e].isSome
      then State.eyeFromInput { s with activeLayout := s.pendingLayout } e else Eye.blank := by
    simp [State.committed, State.takeLayout, State.evaluatePoolLow, State.modifyReasons,
      State.modifyZone]
  rw [eye]
  cases hd : s.pendingLayout.eyes[e] with
  | none => simp [EyeSound, Eye.blank, hd]
  | some d => exact eyeSound_fromInput (Option.some_ne_none d)

theorem gaze_postAll (s : State) (rs : List Report) :
    (s.postAll rs).gaze = s.gaze ∧ (s.postAll rs).span = s.span := by
  rw [postAll_frame]
  exact ⟨rfl, rfl⟩

theorem Requested.eyeLaws {s t : State} {kind : Byte} (h : Requested s kind t) (hs : EyeLaws s) :
    EyeLaws t := by
  have posted {u : State} (hu : EyeLaws u) (rs : List Report) : EyeLaws (u.postAll rs) := by
    obtain ⟨gaze, span⟩ := gaze_postAll u rs
    exact eyeLaws_of_gaze hu gaze (by rw [span])
  have kept {t : State} (ht : t.still = s.still) (hp : t.spanned = s.spanned) : EyeLaws t :=
    eyeLaws_of_still hs rfl rfl ht hp
  cases h with
  | nothing => exact hs
  | announcements a => exact eyeLaws_of_gaze hs rfl Iff.rfl
  | edit l hl => exact eyeLaws_of_gaze hs rfl Iff.rfl
  | start hm => exact eyeLaws_of_gaze hs rfl Iff.rfl
  | stop hm => exact eyeLaws_of_gaze hs rfl Iff.rfl
  | restart => rw [restart_eq]; exact posted (restarted_eyeLaws hs) _
  | commit hm hi ha hv => rw [commit_eq]; exact posted (committed_eyeLaws s) _
  | purge i => exact eyeLaws_of_gaze hs rfl Iff.rfl
  | reroute i c => exact kept (reassign_still _ i.tag none) (reassign_spanned _ i.tag none)
  | resume z => exact resume_eyeLaws hs z
  | disableEye e d hd hr =>
    have disabled : EyeLaws (s.setEye e .disabled) := setEye_eyeLaws hs (eyeSound_disabled hd hr)
    unfold State.disableEye
    split_ifs
    exacts [hs, eyeLaws_of_gaze disabled rfl Iff.rfl, disabled]
  | enableEye e =>
    unfold State.enableEye
    split
    · next hd =>
      obtain ⟨undefined, -⟩ := ((eyeLaws_iff s).1 hs).1 e
      refine setEye_eyeLaws hs (eyeSound_fromInput fun hn => ?_)
      have := undefined.2 hn
      change s.eyes[e].state = .undefined at this
      rw [hd] at this
      cases this
    · exact hs
  | testDiverter d => exact eyeLaws_of_gaze hs rfl Iff.rfl
  | disableDiverter d => exact kept (disableDiverter_still s d) (disableDiverter_spanned s d)
  | enableDiverter d => exact kept (enterSettling_still s d) (enterSettling_spanned s d)
  | clearFault d => exact kept (clearFault_still s d) (clearFault_spanned s d)

/-! ### Steps -/

theorem gaze_of_blocks {s t : State} (h : t.blocks = s.blocks) :
    t.gaze = s.gaze ∧ t.span = s.span := by
  have eyes : t.eyes = s.eyes := (congrArg State.eyes h : t.blocks.eyes = s.blocks.eyes)
  have inputs : t.inputs = s.inputs := (congrArg State.inputs h : t.blocks.inputs = s.blocks.inputs)
  have layout : t.activeLayout = s.activeLayout :=
    (congrArg State.activeLayout h : t.blocks.activeLayout = s.blocks.activeLayout)
  unfold State.gaze
  rw [eyes, inputs, layout]
  exact ⟨rfl, (congrArg State.span h : t.blocks.span = s.blocks.span)⟩

theorem eyeLaws_of_blocks {s t : State} (hs : EyeLaws s) (h : t.blocks = s.blocks) : EyeLaws t := by
  obtain ⟨gaze, span⟩ := gaze_of_blocks h
  exact eyeLaws_of_gaze hs gaze (by rw [span])

theorem begin_eyeLaws {s : State} (he : s.eyes = Vector.replicate 12 Eye.blank)
    (hl : s.activeLayout = .empty) (hs : s.span = .idle) : EyeLaws s := by
  refine (eyeLaws_iff s).2 ⟨fun e => ?_, ?_⟩
  · unfold State.eyeView
    rw [he, hl]
    simp [EyeSound, Eye.blank, Layout.empty]
  · unfold State.SpanSound
    rw [hl, hs]
    have none : Layout.empty.inductionEye = none := by decide
    rw [none]
    exact iff_of_true nofun rfl

theorem exec_eyeLaws {c : Instr} {s t : State} (hl : LayoutLaws s) (hs : EyeLaws s)
    (h : exec c s = .next t) : EyeLaws t := by
  cases hc : IsReset c with
  | true =>
    cases c with
    | powerOn i => cases h; exact begin_eyeLaws rfl rfl rfl
    | resetinActive => cases h; exact begin_eyeLaws rfl rfl rfl
    | resetinInactive i =>
      rcases resetinInactive_cases h with ⟨-, rfl⟩ | ⟨-, rfl⟩
      exacts [begin_eyeLaws rfl rfl rfl, hs]
    | _ => cases hc
  | false =>
    rcases exec_cases hc h with ht | ⟨effect, hf, -, ho, ht⟩ | ⟨kind, u, v, -, hu, hv, ht⟩
    · exact eyeLaws_of_blocks hs ht
    · exact eyeLaws_of_blocks (fieldEffect_eyeLaws hl hs hf ho) ht
    · exact eyeLaws_of_blocks (hv.eyeLaws (eyeLaws_of_blocks hs hu)) ht

/-- R1, R64: an eye's jam timer has a millisecond left while none is overdue. -/
theorem tick_eyeLaws {s : State} (h : EyeLaws s) (ho : s.overdue = []) : EyeLaws s.tick := by
  by_cases hr : s.resetActive = true
  · unfold State.tick
    rw [if_pos hr]
    exact h
  · obtain ⟨eyes, span⟩ := (eyeLaws_iff s).1 h
    have view (e : EyeId) : s.tick.eyeView e = (s.advanceEye e, (s.eyeView e).2) := by
      unfold State.eyeView State.tick
      rw [if_neg hr]
      simp only [Fin.getElem_fin, Vector.getElem_ofFn]
      rfl
    refine (eyeLaws_iff _).2 ⟨fun e => ?_, ?_⟩
    · obtain ⟨undefined, open_, shut, still, elapsed, confirm⟩ := eyes e
      rw [view, advanceEye_eq]
      split
      · next hj =>
        obtain ⟨blocked, d, hd, jam, permit⟩ := hj
        refine ⟨undefined, open_, shut, fun hn => absurd blocked hn, fun v hv _ => ?_, confirm⟩
        have same : s.activeLayout.eyes[e] = some v := hv
        rw [Option.mem_def.1 hd] at same
        cases same
        have left := elapsed_le_of_overdue (c := .jamTimerExpiry e)
          (τ := ⟨d.jamTime, s.eyes[e].jamElapsed⟩) (Bool.eq_false_of_not_eq_true hr) ho
          (.inl ⟨e, rfl, blocked, d, hd, jam, permit, rfl⟩)
        exact Nat.succ_le_succ left
      · exact ⟨undefined, open_, shut, still, elapsed, confirm⟩
    · unfold State.tick
      rw [if_neg hr]
      exact span

/-- Settles O12: every edge, timer and request that sets an eye's state sets one that its input allows, the
span begins and ends with the edges of the induction eye, and a millisecond passes only while a jam timer
that runs has one left. -/
theorem stepKeepsEyeLaws : Obligations.StepKeepsEyeLaws := by
  intro s t hl hs h
  rcases step_cases h with ⟨-, ho, rfl⟩ | ⟨c, rest, n, he⟩
  · exact tick_eyeLaws hs ho
  · exact exec_eyeLaws (s := { s with pending := rest, freeIndex := n }) hl hs he

end Sys2Proof.Machine
end

section
/-! PROOFS. Where the items of each zone stand, in the order of the zone's track list, and what each
operation on items does to that and to the claim lists (R29, R31, R34, R86). -/

namespace Sys2Proof.Machine

set_option Elab.async false

/-- The items of a zone as the track order sees them: each one's tag and where it stands. -/
def State.spots (s : State) (z : ZoneId) : List (Nat × Nat) :=
  s.zones[z].track.map fun i => (i.tag, s.place z i)

/-- The same with the item of one tag taken out. -/
def spotsWithout (spots : ZoneId → List (Nat × Nat)) (tag : Nat) (z : ZoneId) : List (Nat × Nat) :=
  (spots z).filter fun x => x.1 != tag

theorem mem_spots {s : State} {z : ZoneId} {x : Nat × Nat} :
    x ∈ s.spots z ↔ ∃ i ∈ s.zones[z].track, i.tag = x.1 ∧ s.place z i = x.2 := by
  simp [State.spots, Prod.ext_iff]

theorem mem_lineTags_iff {s : State} {tag : Nat} :
    tag ∈ s.lineTags ↔ ∃ (z : ZoneId) (p : Nat), (tag, p) ∈ s.spots z := by
  simp only [State.lineTags, List.mem_map, mem_lineItems, mem_spots]
  constructor
  · rintro ⟨i, ⟨z, hi⟩, rfl⟩
    exact ⟨z, _, i, hi, rfl, rfl⟩
  · rintro ⟨z, p, i, hi, ht, -⟩
    exact ⟨i, ⟨z, hi⟩, ht⟩

theorem findItem_isSome {s : State} {tag : Nat} :
    (s.findItem tag).isSome = true ↔ tag ∈ s.lineTags := by
  rw [Option.isSome_iff_ne_none, Ne, findItem_eq_none, not_not]

/-- Section 0.6: the tags in line order are those of the zones' lists, the most downstream zone's first. -/
theorem lineTags_eq (s : State) : s.lineTags =
    (s.spots 3 ++ s.spots 2 ++ s.spots 1 ++ s.spots 0).map Prod.fst := by
  have tags (z : ZoneId) : (s.spots z).map Prod.fst = s.zones[z].track.map Item.tag := by
    simp [State.spots, Function.comp_def]
  simp only [List.map_append, tags]
  simp [State.lineTags, State.lineItems]

theorem lineTags_of_spots {s t : State} (h : t.spots = s.spots) : t.lineTags = s.lineTags := by
  rw [lineTags_eq, lineTags_eq, h]

theorem lineTags_without {s t : State} {tag : Nat} (h : t.spots = spotsWithout s.spots tag) :
    t.lineTags = s.lineTags.filter fun x => x != tag := by
  rw [lineTags_eq, lineTags_eq, h]
  simp [spotsWithout, List.filter_map, Function.comp_def]

/-- R28: an item stands at one place. -/
theorem PoolLaws.spot_unique {s : State} (h : PoolLaws s) {y z : ZoneId} {tag p q : Nat}
    (hp : (tag, p) ∈ s.spots y) (hq : (tag, q) ∈ s.spots z) : y = z ∧ p = q := by
  obtain ⟨i, hi, ht, hp⟩ := mem_spots.1 hp
  obtain ⟨j, hj, hu, hq⟩ := mem_spots.1 hq
  obtain rfl := h.eq_of_tag (mem_lineItems.2 ⟨y, hi⟩) (mem_lineItems.2 ⟨z, hj⟩) (ht.trans hu.symm)
  obtain rfl : y = z := (h.zone y i hi).symm.trans (h.zone z i hj)
  exact ⟨rfl, hp.symm.trans hq⟩

/-- R5: the place of an item of a zone is its position. -/
theorem PoolLaws.place_eq {s : State} (h : PoolLaws s) {z : ZoneId} {i : Item}
    (hi : i ∈ s.zones[z].track) : s.place z i = s.position i := by
  obtain rfl := h.zone z i hi
  rfl

/-! ### What operations leave of the places -/

theorem spots_of_zones {s t : State} (hc : ∀ z : ZoneId, t.zones[z].count = s.zones[z].count)
    (ht : ∀ z : ZoneId, t.zones[z].track = s.zones[z].track) : t.spots = s.spots := by
  funext z
  unfold State.spots State.place
  rw [hc, ht]

theorem spots_of_zones_eq {s t : State} (h : t.zones = s.zones) : t.spots = s.spots := by
  unfold State.spots State.place
  rw [h]

theorem spots_updateItem (s : State) (tag : Nat) {f : Item → Item}
    (hf : ∀ j, (f j).tag = j.tag ∧ (f j).base = j.base) : (s.updateItem tag f).spots = s.spots := by
  funext z
  unfold State.spots State.place
  rw [updateItem_zone, List.map_map]
  refine List.map_congr_left fun j _ => ?_
  dsimp only [Function.comp_apply]
  split
  · rw [(hf j).1, (hf j).2]
  · rfl

theorem spots_removeItem (s : State) (tag : Nat) :
    (s.removeItem tag).spots = spotsWithout s.spots tag := by
  funext z
  have zone : (s.removeItem tag).zones[z] = { s.zones[z] with
      track := s.zones[z].track.filter fun i => i.tag != tag } := by simp [State.removeItem]
  unfold spotsWithout State.spots State.place
  rw [zone, List.filter_map]
  rfl

theorem spots_release (s : State) (tag : Nat) : (s.release tag).spots = spotsWithout s.spots tag := by
  rw [← spots_removeItem]
  refine spots_of_zones (fun z => ?_) (release_track s tag)
  exact ((release_keeps s tag).count z).trans ((removeItem_keeps s tag).count z).symm

theorem spots_appendItem (s : State) (z : ZoneId) {p : Nat} (hp : p < 2 ^ 24) (i : Item) :
    (s.appendItem z p i).spots = fun y => s.spots y ++ if y = z then [(i.tag, p)] else [] := by
  have placed : (s.zones[z].count - s.baseFor z p).toNat = p := by
    have back (a b : Count) : a - (a - b) = b := by bv_omega
    unfold State.baseFor
    rw [back, BitVec.toNat_ofNat, Nat.mod_eq_of_lt hp]
  funext y
  unfold State.spots State.place State.appendItem State.modifyZone
  dsimp only
  rw [getElem_set_fin]
  by_cases h : z = y
  · subst h
    simp only [↓reduceIte, List.map_append, List.map_cons, List.map_nil, placed]
  · simp [h, Ne.symm h]

theorem spots_raiseCount (s : State) (z : ZoneId) (hz : ∀ x ∈ s.spots z, x.2 + 1 < 2 ^ 24) :
    (s.raiseCount z).spots = fun y => if y = z then (s.spots y).map fun x => (x.1, x.2 + 1)
      else s.spots y := by
  funext y
  unfold State.spots State.place State.raiseCount State.modifyZone
  dsimp only
  rw [getElem_set_fin]
  by_cases h : z = y
  · subst h
    simp only [↓reduceIte, List.map_map, Function.comp_def]
    refine List.map_congr_left fun i hi => ?_
    have room := hz (i.tag, s.place z i) (mem_spots.2 ⟨i, hi, rfl, rfl⟩)
    unfold State.place at room
    have moved : s.zones[z].count + 1 - i.base = s.zones[z].count - i.base + 1 := by
      rw [BitVec.sub_eq_add_neg, BitVec.sub_eq_add_neg, BitVec.add_assoc, BitVec.add_comm 1,
        ← BitVec.add_assoc]
    have one : (1 : Count).toNat = 1 := rfl
    rw [moved, BitVec.toNat_add, one, Nat.mod_eq_of_lt room]
  · simp [h, Ne.symm h]

theorem spots_post (s : State) (r : Report) : (s.post r).spots = s.spots := rfl

theorem spots_reassign (s : State) (tag : Nat) (excluded : Option DiverterId) :
    (s.reassign tag excluded).1.spots = s.spots := by
  rcases reassign_cases s tag excluded with ⟨-, h⟩ | ⟨i, -, h⟩ <;> rw [h]
  have zones : (s.writeClaim i (s.assignment i excluded)).zones =
      (s.updateItem i.tag fun j => { j with assigned := s.assignment i excluded }).zones := rfl
  dsimp only
  rw [spots_of_zones_eq zones]
  exact spots_updateItem s i.tag fun _ => ⟨rfl, rfl⟩

theorem spots_count (s : State) (f : Counters → Counters) : (s.count f).spots = s.spots := rfl

theorem spots_closeInduction (s : State) (i : Item) : (s.closeInduction i).spots = s.spots := by
  unfold State.closeInduction
  dsimp only
  rw [spots_count, spots_post, spots_reassign]

/-! ### Items that stay or go -/

/-- No item moves, and no claim. -/
structure StaysPut (s t : State) : Prop where
  spots : t.spots = s.spots
  claims : t.claims = s.claims

/-- The item of a tag is gone, with its claim, and no other item moves. -/
structure Gone (s t : State) (tag : Nat) : Prop where
  spots : t.spots = spotsWithout s.spots tag
  claims : ∀ d : DiverterId, t.claims[d] = s.claims[d].filter fun x => x != tag

theorem StaysPut.refl (s : State) : StaysPut s s := ⟨rfl, rfl⟩

theorem StaysPut.trans {s t u : State} (h : StaysPut s t) (k : StaysPut t u) : StaysPut s u :=
  ⟨k.spots.trans h.spots, k.claims.trans h.claims⟩

theorem StaysPut.gone {s t u : State} {tag : Nat} (h : StaysPut s t) (k : Gone t u tag) : Gone s u tag :=
  ⟨by rw [k.spots, h.spots], fun d => by rw [k.claims, h.claims]⟩

theorem Gone.not_mem {s t : State} {tag : Nat} (h : Gone s t tag) : tag ∉ t.lineTags := by
  rw [lineTags_without h.spots]
  simp

theorem updateItem_staysPut (s : State) (tag : Nat) {f : Item → Item}
    (hf : ∀ j, (f j).tag = j.tag ∧ (f j).base = j.base) : StaysPut s (s.updateItem tag f) :=
  ⟨spots_updateItem s tag hf, rfl⟩

theorem release_gone (s : State) (tag : Nat) : Gone s (s.release tag) tag :=
  ⟨spots_release s tag, release_claim s tag⟩

theorem lose_gone (s : State) (tag : Nat) (z : ZoneId) (e : Option EyeId) (cause : LostCause) :
    Gone s (s.lose tag z e cause) tag := by
  unfold State.lose
  refine ⟨?_, release_claim _ tag⟩
  rw [spots_release, spots_count, spots_post]

theorem exitItem_gone (s : State) (i : Item) : Gone s (s.exitItem i) i.tag := by
  unfold State.exitItem
  refine ⟨?_, release_claim _ i.tag⟩
  rw [spots_release, spots_count, spots_post]

theorem missEye_line (s : State) (tag : Nat) (e : EyeId) :
    StaysPut s (s.missEye tag e) ∨ Gone s (s.missEye tag e) tag := by
  unfold State.missEye
  split
  · exact .inl (.refl s)
  · have passed : StaysPut s (s.updateItem tag (s.advancePast e)) :=
      updateItem_staysPut s tag fun _ => ⟨rfl, rfl⟩
    have missed : StaysPut s (s.updateItem tag fun j =>
        { s.advancePast e j with missRun := j.missRun + 1 }) :=
      updateItem_staysPut s tag fun _ => ⟨rfl, rfl⟩
    dsimp only
    split_ifs
    exacts [.inl passed, .inr (missed.gone (lose_gone _ _ _ _ _)),
      .inr (missed.gone (lose_gone _ _ _ _ _)), .inl missed]

theorem takeWindowEnds_line (tag : Nat) (z : ZoneId) (n : Nat) (s : State) :
    StaysPut s (s.takeWindowEnds tag z n) ∨ Gone s (s.takeWindowEnds tag z n) tag := by
  induction n generalizing s with
  | zero => exact .inl (.refl s)
  | succ n ih =>
    unfold State.takeWindowEnds
    split
    · exact .inl (.refl s)
    · next e _ =>
      split
      · rcases missEye_line s tag e with h | h
        · exact (ih (s.missEye tag e)).imp h.trans h.gone
        · have ended : (s.missEye tag e).takeWindowEnds tag z n = s.missEye tag e := by
            cases n with
            | zero => rfl
            | succ n =>
              unfold State.takeWindowEnds
              rw [findItem_eq_none.2 h.not_mem]
              rfl
          rw [ended]
          exact .inr h
      · exact .inl (.refl s)

/-- R12, R112: the state after the trigger-point decision has the items where they stood. -/
theorem reachTrigger_spots (s : State) (tag : Nat) (d : DiverterId) :
    (s.reachTrigger tag d).spots = s.spots := by
  have marked (t : State) (x : Nat) : (t.updateItem x Item.markAtRisk).spots = t.spots :=
    spots_updateItem t x fun _ => ⟨rfl, rfl⟩
  unfold State.reachTrigger
  split
  · rfl
  · next i _ =>
    split_ifs
    · unfold State.decideFire
      split
      · unfold State.missDivert
        dsimp only
        rw [spots_post, spots_reassign]
        split
        exacts [marked s i.tag, rfl]
      · have fired : (s.fired d i).spots = s.spots :=
          (spots_of_zones_eq (t := s.fired d i) rfl).trans
            (spots_updateItem s i.tag (f := fun j => { j with state := .diverting })
              fun _ => ⟨rfl, rfl⟩)
        rcases fire_cases s d i with h | ⟨p, h⟩ <;> rw [h]
        exacts [fired, (marked _ p.tag).trans fired]
    · exact marked s tag
    · rfl

/-! ### One item of a zone -/

theorem zone_withTrack (s : State) (z y : ZoneId) (track : List Item) :
    (s.withTrack z track).zones[y] =
      { s.zones[y] with track := if z = y then track else s.zones[y].track } := by
  unfold State.withTrack
  rw [getElem_set_fin]
  by_cases h : z = y
  · subst h
    rw [if_pos rfl, if_pos rfl]
  · rw [if_neg h, if_neg h]

theorem spots_withTrack (s : State) (z : ZoneId) (track : List Item) :
    (s.withTrack z track).spots =
      fun y => if z = y then track.map fun i => (i.tag, s.place z i) else s.spots y := by
  funext y
  unfold State.spots State.place
  rw [zone_withTrack]
  by_cases h : z = y
  · subst h
    simp only [↓reduceIte]
  · simp only [if_neg h]

section
variable {s : State} {z : ZoneId} {front back : List Item} {i : Item}

/-- R28: no other item carries the tag of an item of a zone. -/
theorem PoolLaws.apart (h : PoolLaws s) (ht : s.zones[z].track = front ++ i :: back) :
    (∀ j ∈ front, j.tag ≠ i.tag) ∧ (∀ j ∈ back, j.tag ≠ i.tag) ∧
      ∀ y : ZoneId, y ≠ z → ∀ j ∈ s.zones[y].track, j.tag ≠ i.tag := by
  have mem : i ∈ s.zones[z].track := by rw [ht]; simp
  have nodup : (s.zones[z].track.map Item.tag).Nodup := by
    have all : (s.lineItems.map Item.tag).Nodup := (List.nodup_append.1 h.nodup).2.1
    refine List.Nodup.map_on (fun a ha b hb hab => ?_) ?_
    · exact h.eq_of_tag (mem_lineItems.2 ⟨z, ha⟩) (mem_lineItems.2 ⟨z, hb⟩) hab
    · have line := List.Nodup.of_map _ all
      unfold State.lineItems at line
      simp only [List.nodup_append] at line
      match z with
      | 0 => exact line.2.1
      | 1 => exact line.1.2.1
      | 2 => exact line.1.1.2.1
      | 3 => exact line.1.1.1
  rw [ht] at nodup
  simp only [List.map_append, List.map_cons, List.nodup_append, List.nodup_cons, List.mem_cons,
    List.mem_map] at nodup
  obtain ⟨-, ⟨behind, -⟩, apart⟩ := nodup
  refine ⟨fun j hj => apart j.tag ⟨j, hj, rfl⟩ i.tag (.inl rfl), fun j hj he => behind ⟨j, hj, he⟩,
    fun y hy j hj he => hy ?_⟩
  obtain rfl := h.eq_of_tag (mem_lineItems.2 ⟨y, hj⟩) (mem_lineItems.2 ⟨z, mem⟩) he
  exact (h.zone y j hj).symm.trans (h.zone z j mem)

theorem PoolLaws.findItem_at (h : PoolLaws s) (ht : s.zones[z].track = front ++ i :: back) :
    s.findItem i.tag = some i :=
  h.findItem_of_mem (mem_lineItems.2 ⟨z, by rw [ht]; simp⟩)

/-- One record changed where it stands, as a track list written. -/
theorem PoolLaws.updateItem_at (h : PoolLaws s) (ht : s.zones[z].track = front ++ i :: back)
    (f : Item → Item) : s.updateItem i.tag f = s.withTrack z (front ++ f i :: back) := by
  obtain ⟨ahead, behind, elsewhere⟩ := h.apart ht
  have same {l : List Item} (hl : ∀ j ∈ l, j.tag ≠ i.tag) :
      l.map (fun j => if j.tag = i.tag then f j else j) = l :=
    (List.map_congr_left fun j hj => if_neg (hl j hj)).trans (List.map_id l)
  have zones : (s.updateItem i.tag f).zones = (s.withTrack z (front ++ f i :: back)).zones := by
    refine Vector.ext fun k hk => ?_
    have written := updateItem_zone s i.tag f ⟨k, hk⟩
    have track := zone_withTrack s z ⟨k, hk⟩ (front ++ f i :: back)
    simp only [Fin.getElem_fin] at written track
    rw [written, track]
    by_cases hz : z = ⟨k, hk⟩
    · subst hz
      simp only [Fin.getElem_fin] at ht
      rw [ht, List.map_append, List.map_cons, same ahead, same behind, if_pos rfl, if_pos rfl]
    · have others := same (elsewhere ⟨k, hk⟩ (Ne.symm hz))
      simp only [Fin.getElem_fin] at others
      rw [others, if_neg hz]
  unfold State.updateItem State.mapZones State.withTrack at zones ⊢
  dsimp only at zones ⊢
  rw [zones]

theorem behind_at (h : ∀ j ∈ front, j.tag ≠ i.tag) :
    behind i.tag (front ++ i :: back) = back.head? := by
  induction front with
  | nil => simp [behind]
  | cons j front ih =>
    obtain ⟨hj, hf⟩ := List.forall_mem_cons.1 h
    rw [List.cons_append, behind, if_neg hj]
    exact ih hf

theorem ahead_at (h : ∀ j ∈ front, j.tag ≠ i.tag) (hb : ∀ j ∈ back, j.tag ≠ i.tag) :
    ahead i.tag (front ++ i :: back) = front.getLast? := by
  induction front with
  | nil =>
    have none (l : List Item) (x : Item) (hl : ∀ j ∈ l, j.tag ≠ i.tag) : ahead i.tag (x :: l) = none := by
      induction l generalizing x with
      | nil => rfl
      | cons y l ih =>
        obtain ⟨hy, hl⟩ := List.forall_mem_cons.1 hl
        rw [ahead, if_neg hy]
        exact ih y hl
    exact none back i hb
  | cons x front ih =>
    obtain ⟨hx, hf⟩ := List.forall_mem_cons.1 h
    cases front with
    | nil => simp [ahead]
    | cons y front =>
      rw [List.cons_append, List.cons_append, ahead, if_neg (hf y (by simp)), List.getLast?_cons_cons]
      exact ih hf

end

end Sys2Proof.Machine
end

section
/-! PROOFS. The order of the track lists over a step (R29, R30, R49). -/

namespace Sys2Proof.Machine

set_option Elab.async false

/-! ### What the layout in force gives -/

section
variable {l : Layout} {z : ZoneId}

theorem zoneLength_le (h : LayoutInRange l) (z : ZoneId) : l.zoneLength z ≤ 65535 := by
  unfold Layout.zoneLength
  cases hd : l.zones[z] with
  | none => exact Nat.zero_le _
  | some d => exact (h.1 z d hd).2.1

theorem entryOffset_lt (h : LayoutInRange l) (hz : l.zones[z].isSome = true) :
    l.entryOffset z < l.zoneLength z ∧ l.entryOffset z ≤ 255 := by
  obtain ⟨d, hd⟩ := Option.isSome_iff_exists.1 hz
  obtain ⟨-, -, offset, byte⟩ := h.1 z d hd
  unfold Layout.entryOffset Layout.zoneLength
  rw [hd]
  exact ⟨offset, byte⟩

theorem zoneAfter_eq_some {y : ZoneId} :
    l.zoneAfter z = some y ↔ y.val = z.val + 1 ∧ l.zones[y].isSome = true := by
  unfold Layout.zoneAfter numberBelow
  by_cases hz : z.val + 1 < 4
  · rw [dif_pos hz]
    dsimp only
    split
    · next hs =>
      rw [Option.some.injEq, Fin.ext_iff]
      constructor
      · intro hy
        obtain rfl : (⟨z.val + 1, hz⟩ : ZoneId) = y := Fin.ext hy
        exact ⟨rfl, hs⟩
      · exact fun hy => hy.1.symm
    · next hs =>
      refine iff_of_false nofun fun hy => hs ?_
      obtain rfl : (⟨z.val + 1, hz⟩ : ZoneId) = y := Fin.ext hy.1.symm
      exact hy.2
  · rw [dif_neg hz]
    exact iff_of_false nofun fun hy => hz (hy.1 ▸ y.isLt)

end

/-- R142, checks 3 and 5: the longest item of the induction eye ends short of zone 0's end. -/
theorem induction_room {s : State} (hl : LayoutLaws s) {e : EyeId} {d : EyeDef}
    (hd : s.activeLayout.eyes[e] = some d) (hr : d.role = .induct) :
    d.position + s.activeLayout.line.maxLength + 1 < s.activeLayout.zoneLength 0 := by
  obtain ⟨-, -, empty, valid⟩ := hl
  have configured : s.module ≠ .unconfigured := by
    intro hm
    rw [empty hm] at hd
    simp [Layout.empty] at hd
  obtain ⟨zone, hz, room⟩ := (validate_none_iff s.activeLayout).1 (valid configured) 5 (by decide)
    (by decide) e d hd hr
  unfold Layout.zoneLength
  rw [Option.mem_def.1 hz]
  exact room

/-! ### The tail of a list -/

/-- R31: what is placed at a tail lies below it, and no further than asked. -/
theorem clampAtTail_below {tail : Option Nat} {q p : Nat} {clamped : Bool}
    (h : clampAtTail tail q = some (p, clamped)) : p ≤ q ∧ ∀ t ∈ tail, p < t := by
  unfold clampAtTail at h
  split at h
  · cases h
    exact ⟨le_refl _, nofun⟩
  · next t =>
    split_ifs at h with hq ht <;> cases h
    · exact ⟨le_refl _, fun t ht => Option.some.inj ht ▸ hq⟩
    · refine ⟨by omega, fun t ht => ?_⟩
      cases ht
      omega

/-- A list whose places fall goes on falling with a place below its last. -/
theorem falls_concat {spots : List (Nat × Nat)} {x : Nat × Nat}
    (h : spots.Pairwise fun a b => b.2 < a.2) (hx : ∀ p ∈ spots.getLast?.map Prod.snd, x.2 < p) :
    (spots ++ [x]).Pairwise fun a b => b.2 < a.2 := by
  refine List.pairwise_append.2 ⟨h, List.pairwise_singleton _ _, fun a ha b hb => ?_⟩
  obtain rfl := List.mem_singleton.1 hb
  obtain ⟨init, last, rfl⟩ := List.eq_nil_or_concat' spots |>.resolve_left (List.ne_nil_of_mem ha)
  have below : b.2 < last.2 := hx _ (by simp)
  rcases List.mem_append.1 ha with ha | ha
  · exact below.trans ((List.pairwise_append.1 h).2.2 a ha last (List.mem_singleton_self _))
  · exact List.mem_singleton.1 ha ▸ below

theorem tailPosition_eq {s : State} (h : PoolLaws s) (z : ZoneId) :
    s.tailPosition z = (s.spots z).getLast?.map Prod.snd := by
  unfold State.tailPosition State.spots
  rw [List.getLast?_map, Option.map_map]
  cases hl : s.zones[z].track.getLast? with
  | none => rfl
  | some i => exact congrArg some (h.place_eq (List.mem_of_getLast? hl)).symm

/-! ### Leaving a zone, and inductions -/

/-- R8 to R10: the item at a zone's end is gone, or it has joined the tail of the next zone. -/
theorem leaveZone_line {s : State} (h : Lawful s) {tag : Nat} {z : ZoneId} {i : Item}
    (hi : s.findItem tag = some i) (hr : LayoutInRange s.activeLayout) :
    (Gone s (s.leaveZone tag z).1 tag ∧ (s.leaveZone tag z).2 = []) ∨
    ∃ (y : ZoneId) (p : Nat) (clamped : Bool), s.activeLayout.zoneAfter z = some y ∧
      clampAtTail (s.tailPosition y) (s.activeLayout.entryOffset y) = some (p, clamped) ∧
      (s.leaveZone tag z).1.spots =
        (fun x => spotsWithout s.spots tag x ++ if x = y then [(tag, p)] else []) ∧
      (s.leaveZone tag z).1.claims = s.claims ∧
      (s.leaveZone tag z).2 = s.activeLayout.pointsIn tag y (-1) p := by
  have lawful : Lawful (if (s.findItem tag).any (s.transferMeetsReturn z) then s
      else s.takeWindowEnds tag z 12) := by
    split
    exacts [h, takeWindowEnds_lawful tag z 12 h]
  have still : (if (s.findItem tag).any (s.transferMeetsReturn z) then s
      else s.takeWindowEnds tag z 12).still = s.still := by
    split
    exacts [rfl, takeWindowEnds_still tag z 12 s]
  have line : StaysPut s (if (s.findItem tag).any (s.transferMeetsReturn z) then s
      else s.takeWindowEnds tag z 12) ∨ Gone s (if (s.findItem tag).any (s.transferMeetsReturn z) then s
      else s.takeWindowEnds tag z 12) tag := by
    split
    exacts [.inl (.refl s), takeWindowEnds_line tag z 12 s]
  unfold State.leaveZone
  dsimp only
  generalize (if (s.findItem tag).any (s.transferMeetsReturn z) then s
    else s.takeWindowEnds tag z 12) = t at lawful still line ⊢
  rcases line with put | gone
  · have present : tag ∈ t.lineTags := by
      rw [lineTags_of_spots put.spots]
      exact mem_lineTags_of_findItem hi
    obtain ⟨j, hj⟩ := Option.isSome_iff_exists.1 (findItem_isSome.2 present)
    obtain ⟨-, ht⟩ := findItem_eq_some hj
    rw [hj, activeLayout_of_still still]
    subst ht
    dsimp only
    cases hy : s.activeLayout.zoneAfter z with
    | none => exact .inl ⟨put.gone (exitItem_gone t j), rfl⟩
    | some y =>
      dsimp only
      unfold State.transferItem
      have tail : t.tailPosition y = s.tailPosition y := by
        rw [tailPosition_eq lawful.booked.pool, tailPosition_eq h.booked.pool, put.spots]
      rw [activeLayout_of_still still, tail]
      cases hc : clampAtTail (s.tailPosition y) (s.activeLayout.entryOffset y) with
      | none => exact .inl ⟨put.gone (lose_gone t j.tag y none .transfer), rfl⟩
      | some place =>
        obtain ⟨p, clamped⟩ := place
        have small : p < 2 ^ 24 := by
          have := (clampAtTail_below hc).1
          have := (entryOffset_lt hr (zoneAfter_eq_some.1 hy).2).2
          omega
        have tagged : (if clamped then (t.carriedOn j y p).markAtRisk else t.carriedOn j y p).tag =
            j.tag := by
          rcases carriedOn_cases t j y p with ⟨-, hc⟩ | ⟨-, hc⟩ <;> rw [hc] <;> cases clamped <;> rfl
        refine .inr ⟨y, p, clamped, rfl, hc, ?_, put.claims, rfl⟩
        dsimp only
        rw [spots_appendItem _ y small, tagged, spots_removeItem, put.spots]
  · rw [findItem_eq_none.2 gone.not_mem]
    exact .inl ⟨gone, rfl⟩

/-- R52 to R56: an induction leaves the items where they are, and puts one more at most at the tail of
zone 0. -/
theorem induct_cases {s : State} (h : Lawful s) (length : Nat) (overlength : Bool) :
    StaysPut s (s.induct length overlength) ∨
    ∃ (e : EyeId) (t : State) (i : Item), s.activeLayout.inductionEye = some e ∧ StaysPut s t ∧
      t.still = s.still ∧ t.diverters = s.diverters ∧ Taken t i.tag ∧ i.state = .tracked ∧
      i.assigned = none ∧
      (s.induct length overlength = t.losePlacement i.tag 0 ∨
      ∃ (p : Nat) (clamped : Bool),
        clampAtTail (s.tailPosition 0)
          (((s.activeLayout.eyes[e].map EyeDef.position).getD 0) + length) = some (p, clamped) ∧
        s.induct length overlength = (t.appendItem 0 p i).closeInduction i) := by
  unfold State.induct
  cases he : s.activeLayout.inductionEye with
  | none => exact .inl (.refl s)
  | some e =>
    dsimp only
    split
    · exact .inl ⟨rfl, rfl⟩
    · next hf =>
      obtain ⟨taken, hs, ha⟩ := pair_taken h hf length overlength (s.activeLayout.eyeFollowing e)
      have put : StaysPut s (s.takeRecord.pair length overlength (s.activeLayout.eyeFollowing e)).1 := by
        refine StaysPut.trans (t := s.takeRecord) ⟨spots_of_zones (fun z => (takeRecord_keeps s).count z)
          (takeRecord_track s), rfl⟩ ?_
        unfold State.pair
        split <;> exact ⟨rfl, rfl⟩
      have still : (s.takeRecord.pair length overlength (s.activeLayout.eyeFollowing e)).1.still =
          s.still := pair_still s.takeRecord length overlength _
      have units : (s.takeRecord.pair length overlength (s.activeLayout.eyeFollowing e)).1.diverters =
          s.diverters := by
        unfold State.pair
        split <;> rfl
      have tail : (s.takeRecord.pair length overlength
          (s.activeLayout.eyeFollowing e)).1.tailPosition 0 = s.tailPosition 0 := by
        have same (t : State) (hz : t.zones = s.takeRecord.zones) :
            t.tailPosition 0 = s.tailPosition 0 := by
          have track := takeRecord_track s
          have count := (takeRecord_keeps s).count
          have position : t.position = s.position := by
            funext i
            unfold State.position
            rw [hz, count]
          unfold State.tailPosition
          rw [hz, track, position]
        unfold State.pair
        split <;> exact same _ rfl
      generalize s.takeRecord.pair length overlength (s.activeLayout.eyeFollowing e) = r
        at taken hs ha put still units tail ⊢
      right
      cases hc : clampAtTail (s.tailPosition 0)
          (((s.activeLayout.eyes[e].map EyeDef.position).getD 0) + length) with
      | none =>
        refine ⟨e, r.1, r.2, rfl, put, still, units, taken, hs, ha, .inl ?_⟩
        rw [tail, hc]
      | some place =>
        obtain ⟨p, clamped⟩ := place
        refine ⟨e, r.1, if clamped then r.2.markAtRisk else r.2, rfl, put, still, units, ?_, ?_, ?_,
          .inr ⟨p, clamped, hc, ?_⟩⟩
        · cases clamped <;> exact taken
        · cases clamped <;> exact hs
        · cases clamped <;> exact ha
        · rw [tail, hc]

/-! ### The order while crossings are owed -/

/-- The crossing of the overlength induction. -/
def overlengthCrossing : Crossing := ⟨0, 0, .overlength⟩

/-- The order of the track lists while crossings are owed: an item at its zone's end owes its leaving, and a
span at its bound owes the induction. -/
structure Tracked (s : State) (owed : List Crossing) : Prop where
  falls (z : ZoneId) : (s.spots z).Pairwise fun a b => b.2 < a.2
  below (z : ZoneId) : ∀ x ∈ s.spots z, x.2 < s.activeLayout.zoneLength z ∨
    x.2 = s.activeLayout.zoneLength z ∧ ∃ c ∈ owed, c.tag = x.1 ∧ c.point = .zoneEnd
  span : s.span = .measuring → s.spanCount ≤ s.activeLayout.line.maxLength ∨ overlengthCrossing ∈ owed
  ends : ∀ c ∈ owed, c.point = .zoneEnd → 1 ≤ c.tag
  long : ∀ c ∈ owed, c.point = .overlength → c = overlengthCrossing

theorem trackLaws_iff {s : State} (h : PoolLaws s) : TrackLaws s ↔ Tracked s [] := by
  have falls (z : ZoneId) : (s.zones[z].track.map s.position).Pairwise (fun p q => q < p) ↔
      (s.spots z).Pairwise fun a b => b.2 < a.2 := by
    have same : s.zones[z].track.map s.position = s.zones[z].track.map (s.place z) :=
      List.map_congr_left fun i hi => (h.place_eq hi).symm
    rw [same, State.spots, List.pairwise_map, List.pairwise_map]
  have below (z : ZoneId) : (∀ i ∈ s.zones[z].track, s.position i < s.activeLayout.zoneLength z) ↔
      ∀ x ∈ s.spots z, x.2 < s.activeLayout.zoneLength z := by
    unfold State.spots
    rw [List.forall_mem_map]
    exact forall₂_congr fun i hi => by rw [h.place_eq hi]
  constructor
  · rintro ⟨zones, span⟩
    exact ⟨fun z => (falls z).1 (zones z).1, fun z x hx => .inl ((below z).1 (zones z).2 x hx),
      fun hs => .inl (span hs), nofun, nofun⟩
  · rintro ⟨fall, under, span, -, -⟩
    refine ⟨fun z => ⟨(falls z).2 (fall z), (below z).2 fun x hx => ?_⟩, fun hs => ?_⟩
    · rcases under z x hx with hb | ⟨-, c, hc, -⟩
      exacts [hb, nomatch hc]
    · exact (span hs).resolve_right nofun

/-- Items that go, or stay where they are, leave the order; what the others owe is still owed. -/
theorem Tracked.thin {s t : State} {owed left : List Crossing} (h : Tracked s owed)
    (hs : ∀ z, (t.spots z).Sublist (s.spots z)) (hl : t.activeLayout = s.activeLayout)
    (hp : t.spanned = s.spanned)
    (ends : ∀ c ∈ owed, c.point = .zoneEnd → c.tag ∈ t.lineTags → c ∈ left)
    (long : overlengthCrossing ∈ owed → overlengthCrossing ∈ left)
    (sub : ∀ c ∈ left, c.point = .zoneEnd ∨ c.point = .overlength → c ∈ owed) : Tracked t left := by
  have span : t.span = s.span := span_of_spanned hp
  have count : t.spanCount = s.spanCount := congrArg Prod.snd hp
  refine ⟨fun z => (h.falls z).sublist (hs z), fun z x hx => ?_, fun hm => ?_,
    fun c hc hz => h.ends c (sub c hc (.inl hz)) hz, fun c hc hv => h.long c (sub c hc (.inr hv)) hv⟩
  · rw [hl]
    refine (h.below z x ((hs z).subset hx)).imp_right ?_
    rintro ⟨end_, c, hc, tag, hz⟩
    exact ⟨end_, c, ends c hc hz (tag ▸ mem_lineTags_iff.2 ⟨z, x.2, hx⟩), tag, hz⟩
  · rw [hl, count]
    exact (h.span (span ▸ hm)).imp_right long

theorem Gone.sublist {s t : State} {tag : Nat} (h : Gone s t tag) (z : ZoneId) :
    (t.spots z).Sublist (s.spots z) := by
  rw [h.spots]
  exact List.filter_sublist

/-- A crossing of a window's end or of a trigger point takes no item to another place. -/
theorem cross_sublist (s : State) (b : Crossing) (hz : b.point ≠ .zoneEnd) (hv : b.point ≠ .overlength)
    (z : ZoneId) : ((s.cross b).1.spots z).Sublist (s.spots z) := by
  unfold State.cross
  split
  · next h => exact absurd h hz
  · next e _ =>
    rcases missEye_line s b.tag e with h | h
    · rw [h.spots]
    · exact h.sublist z
  · next d _ => rw [reachTrigger_spots]
  · next h => exact absurd h hv

/-- A crossing that acts at a point of an item finds the item in line. -/
theorem acts_present {s : State} {b : Crossing} (h : s.actsAt b = true) (hz : b.point ≠ .zoneEnd)
    (hv : b.point ≠ .overlength) : b.tag ∈ s.lineTags := by
  have found {p : Item → Bool} (h : (s.findItem b.tag).any p = true) : b.tag ∈ s.lineTags := by
    rw [← findItem_isSome]
    cases hf : s.findItem b.tag with
    | none => rw [hf] at h; cases h
    | some i => rfl
  unfold State.actsAt at h
  split at h
  · next hp => exact absurd hp hz
  · next hp => exact absurd hp hv
  · exact found h
  · exact found h

section
variable {s : State} {owed : List Crossing} {b : Crossing}

/-- What another item owes is owed still when a crossing has been taken. -/
theorem mem_owedAfter_of {c : Crossing} {u : State × List Crossing} (hc : c ∈ owed) (hne : c ≠ b)
    (ht : c.tag ∈ u.1.lineTags ∨ c.tag ≠ b.tag) : c ∈ owedAfter owed b u := by
  refine mem_owedAfter.2 (.inl ⟨hc, hne, ?_⟩)
  by_cases he : c.tag = b.tag
  · rw [findItem_isSome, ← he]
    exact .inl (ht.resolve_right fun hn => hn he)
  · exact .inr he

theorem mem_of_owedAfter {c : Crossing} (hc : c ∈ owedAfter owed b (s.cross b))
    (hz : c.point = .zoneEnd ∨ c.point = .overlength) : c ∈ owed := by
  rcases mem_owedAfter.1 hc with ⟨hm, hne, -⟩ | ⟨hm, -⟩
  · exact hm
  · rcases cross_more s b with he | ⟨-, y, p, he⟩ <;> rw [he] at hm
    · cases hm
    · obtain ⟨-, notEnd, notLong⟩ := pointsIn_tag hm
      exact (hz.elim notEnd notLong).elim

theorem cross_tracked_point (hw : Lawful s) (h : Tracked s owed) (ha : s.actsAt b = true)
    (hz : b.point ≠ .zoneEnd) (hv : b.point ≠ .overlength) :
    Tracked (s.cross b).1 (owedAfter owed b (s.cross b)) := by
  refine h.thin (cross_sublist s b hz hv) (activeLayout_of_still (cross_still s b))
    ((cross_spanned s b).trans (if_neg hv)) (fun c hc hp ht => ?_) (fun hc => ?_)
    fun c hc hp => mem_of_owedAfter hc hp
  · exact mem_owedAfter_of hc (fun he => hz (he ▸ hp)) (.inl ht)
  · have positive := hw.booked.pool.positive _ (acts_present ha hz hv)
    refine mem_owedAfter_of hc (fun he => hv (he ▸ rfl)) (.inr fun he => ?_)
    rw [← he] at positive
    exact Nat.not_succ_le_zero 0 positive

/-- The item at its zone's end has gone from it. -/
theorem cross_tracked_end (hl : LayoutLaws s) (hw : Lawful s) (h : Tracked s owed) (hb : b ∈ owed)
    (hz : b.point = .zoneEnd) : Tracked (s.cross b).1 (owedAfter owed b (s.cross b)) := by
  obtain ⟨-, range, -, -⟩ := hl
  have hv : b.point ≠ .overlength := by rw [hz]; nofun
  have positive := h.ends b hb hz
  have layout := activeLayout_of_still (cross_still s b)
  have spanned := (cross_spanned s b).trans (if_neg hv)
  have long (hc : overlengthCrossing ∈ owed) :
      overlengthCrossing ∈ owedAfter owed b (s.cross b) := by
    refine mem_owedAfter_of hc (fun he => hv (he ▸ rfl)) (.inr fun he => ?_)
    rw [← he] at positive
    exact Nat.not_succ_le_zero 0 positive
  have sub (c : Crossing) (hc : c ∈ owedAfter owed b (s.cross b))
      (hp : c.point = .zoneEnd ∨ c.point = .overlength) : c ∈ owed := mem_of_owedAfter hc hp
  cases hi : s.findItem b.tag with
  | none =>
    have crossed : s.cross b = (s, []) := by simp only [State.cross, hz, hi]
    have absent := findItem_eq_none.1 hi
    refine h.thin (fun z => by rw [crossed]) layout spanned (fun c hc hp ht => ?_) long sub
    rw [crossed] at ht
    exact mem_owedAfter_of hc (fun he => absent (he ▸ ht)) (.inr fun he => absent (he ▸ ht))
  | some i =>
    have crossed : s.cross b = s.leaveZone b.tag i.zone := by simp only [State.cross, hz, hi]
    rcases leaveZone_line hw (z := i.zone) hi range with ⟨gone, -⟩ | ⟨y, p, clamped, hy, hc, spots, -, -⟩
    · rw [← crossed] at gone
      refine h.thin gone.sublist layout spanned (fun c hc hp ht => ?_) long sub
      have other : c.tag ≠ b.tag := fun he => gone.not_mem (he ▸ ht)
      exact mem_owedAfter_of hc (fun he => other (he ▸ rfl)) (.inr other)
    · rw [← crossed] at spots
      obtain ⟨lower, under⟩ := clampAtTail_below hc
      have room := (entryOffset_lt range (zoneAfter_eq_some.1 hy).2).1
      have apart : y ≠ i.zone := fun he => by
        have := (zoneAfter_eq_some.1 hy).1
        rw [he] at this
        omega
      have kept (z : ZoneId) : (spotsWithout s.spots b.tag z).Pairwise fun a b => b.2 < a.2 :=
        (h.falls z).filter _
      have tail : spotsWithout s.spots b.tag y = s.spots y := by
        refine List.filter_eq_self.2 fun x hx => bne_iff_ne.2 fun he => apart ?_
        obtain ⟨hm, ht⟩ := findItem_eq_some hi
        obtain ⟨v, hv⟩ := mem_lineItems.1 hm
        have zone := hw.booked.pool.zone v i hv
        refine (hw.booked.pool.spot_unique (tag := b.tag) (p := x.2) (q := s.place v i) ?_ ?_).1.trans
          zone.symm
        · rw [← he]; exact hx
        · exact mem_spots.2 ⟨i, hv, ht, rfl⟩
      refine ⟨fun z => ?_, fun z x hx => ?_, fun hm => ?_, fun c hc hp => h.ends c (sub c hc (.inl hp)) hp,
        fun c hc hv => h.long c (sub c hc (.inr hv)) hv⟩
      · rw [spots]
        dsimp only
        split
        · next hzy =>
          subst hzy
          refine falls_concat (kept z) ?_
          rw [tail, ← tailPosition_eq hw.booked.pool]
          exact under
        · rw [List.append_nil]
          exact kept z
      · rw [layout]
        rw [spots] at hx
        rcases List.mem_append.1 hx with hx | hx
        · obtain ⟨hx, ne⟩ := List.mem_filter.1 hx
          have ne : x.1 ≠ b.tag := bne_iff_ne.1 ne
          refine (h.below z x hx).imp_right ?_
          rintro ⟨end_, c, hc, tag, hp⟩
          have other : c.tag ≠ b.tag := tag ▸ ne
          exact ⟨end_, c, mem_owedAfter_of hc (fun he => other (he ▸ rfl)) (.inr other), tag, hp⟩
        · split at hx
          · next hzy =>
            obtain rfl := List.mem_singleton.1 hx
            subst hzy
            exact .inl (Nat.lt_of_le_of_lt lower room)
          · cases hx
      · have count : (s.cross b).1.spanCount = s.spanCount := congrArg Prod.snd spanned
        rw [layout, count]
        exact (h.span ((span_of_spanned spanned).symm.trans hm)).imp_right long

/-- R49, R54: an item of a span ends short of zone 0's end. -/
theorem induct_room (hl : LayoutLaws s) {e : EyeId} (he : s.activeLayout.inductionEye = some e)
    {length p : Nat} {clamped : Bool} {tail : Option Nat}
    (hm : length ≤ s.activeLayout.line.maxLength + 1)
    (hc : clampAtTail tail (((s.activeLayout.eyes[e].map EyeDef.position).getD 0) + length) =
      some (p, clamped)) : p < s.activeLayout.zoneLength 0 := by
  obtain ⟨lower, -⟩ := clampAtTail_below hc
  obtain ⟨d, hd, role⟩ := inductionEye_defined he
  have room := induction_room hl hd role
  rw [hd] at lower
  simp only [Option.map_some, Option.getD_some] at lower
  omega

/-- R49: the overlength induction puts its item at the tail of zone 0, short of its end. -/
theorem induct_tracked {left : List Crossing} (hl : LayoutLaws s) (hw : Lawful s) (h : Tracked s owed)
    {length : Nat} {overlength : Bool} (hm : length ≤ s.activeLayout.line.maxLength + 1)
    (hp : s.span ≠ .measuring)
    (ends : ∀ c ∈ owed, c.point = .zoneEnd → c ∈ left)
    (sub : ∀ c ∈ left, c.point = .zoneEnd ∨ c.point = .overlength → c ∈ owed) :
    Tracked (s.induct length overlength) left := by
  have spanned := induct_spanned s length overlength
  have layout := activeLayout_of_still (induct_still s length overlength)
  have idle : (s.induct length overlength).span ≠ .measuring := span_of_spanned spanned ▸ hp
  have put (hs : (s.induct length overlength).spots = s.spots) :
      Tracked (s.induct length overlength) left := by
    refine ⟨fun z => hs ▸ h.falls z, fun z x hx => ?_, fun hm => absurd hm idle,
      fun c hc hz => h.ends c (sub c hc (.inl hz)) hz, fun c hc hv => h.long c (sub c hc (.inr hv)) hv⟩
    rw [layout]
    rw [hs] at hx
    refine (h.below z x hx).imp_right ?_
    rintro ⟨end_, c, hc, tag, hz⟩
    exact ⟨end_, c, ends c hc hz, tag, hz⟩
  rcases induct_cases hw length overlength with same | ⟨e, t, i, he, same, -, -, taken, -, -, outcome⟩
  · exact put same.spots
  · have absent : i.tag ∉ t.lineTags := fun hx => taken.fresh (List.mem_append_right _ hx)
    rcases outcome with lost | ⟨p, clamped, hc, placed⟩
    · refine put ?_
      rw [lost, State.losePlacement, (lose_gone t i.tag 0 none .transfer).spots, ← same.spots]
      funext z
      refine List.filter_eq_self.2 fun x hx => bne_iff_ne.2 fun he => absent ?_
      exact mem_lineTags_iff.2 ⟨z, x.2, he ▸ hx⟩
    · obtain ⟨-, under⟩ := clampAtTail_below hc
      have small := induct_room hl he hm hc
      have narrow := zoneLength_le hl.2.1 0
      have spots : (s.induct length overlength).spots =
          fun y => s.spots y ++ if y = 0 then [(i.tag, p)] else [] := by
        rw [placed, spots_closeInduction, spots_appendItem t 0 (by omega) i, same.spots]
      refine ⟨fun z => ?_, fun z x hx => ?_, fun hm => absurd hm idle,
        fun c hc hz => h.ends c (sub c hc (.inl hz)) hz, fun c hc hv => h.long c (sub c hc (.inr hv)) hv⟩
      · rw [spots]
        dsimp only
        split
        · next hz =>
          subst hz
          refine falls_concat (h.falls 0) ?_
          rw [← tailPosition_eq hw.booked.pool]
          exact under
        · rw [List.append_nil]
          exact h.falls z
      · rw [layout]
        rw [spots] at hx
        rcases List.mem_append.1 hx with hx | hx
        · refine (h.below z x hx).imp_right ?_
          rintro ⟨end_, c, hc, tag, hz⟩
          exact ⟨end_, c, ends c hc hz, tag, hz⟩
        · split at hx
          · next hz =>
            obtain rfl := List.mem_singleton.1 hx
            subst hz
            exact .inl small
          · cases hx

theorem cross_tracked (hl : LayoutLaws s) (hw : Lawful s) (h : Tracked s owed) (hb : b ∈ owed)
    (ha : s.actsAt b = true) : Tracked (s.cross b).1 (owedAfter owed b (s.cross b)) := by
  by_cases hz : b.point = .zoneEnd
  · exact cross_tracked_end hl hw h hb hz
  by_cases hv : b.point = .overlength
  · have crossed : s.cross b = (s.inductOverlength, []) := by
      unfold State.cross
      rw [hv]
    have passed : Tracked { s with span := .passed, spanCount := 0 } owed :=
      ⟨h.falls, h.below, nofun, h.ends, h.long⟩
    have lawful : Lawful { s with span := .passed, spanCount := 0 } := hw.same (.of_zones rfl rfl)
    have sub (c : Crossing) (hc : c ∈ owedAfter owed b (s.cross b))
        (hp : c.point = .zoneEnd ∨ c.point = .overlength) : c ∈ owed := mem_of_owedAfter hc hp
    rw [crossed] at sub ⊢
    refine induct_tracked (s := { s with span := .passed, spanCount := 0 }) hl lawful passed (le_refl _)
      nofun (fun c hc hp => mem_owedAfter_of hc (fun he => hz (he ▸ hp)) (.inr fun he => ?_)) sub
    have positive := h.ends c hc hp
    rw [he, h.long b hb hv] at positive
    exact Nat.not_succ_le_zero 0 positive
  · exact cross_tracked_point hw h ha hz hv

end

/-! ### Pulses and resynchronisations -/

/-- What a happening keeps throughout of the layout, the records and the order of the lists. -/
structure OnTrack (s : State) (owed : List Crossing) : Prop where
  layout : LayoutLaws s
  lawful : Lawful s
  tracked : Tracked s owed

section
variable {s : State} {owed : List Crossing}

theorem OnTrack.free (k : Nat) (h : OnTrack s owed) : OnTrack { s with freeIndex := k } owed :=
  ⟨h.layout, h.lawful.same (.of_zones rfl rfl), h.tracked.falls, h.tracked.below, h.tracked.span,
    h.tracked.ends, h.tracked.long⟩

/-- An item at its zone's end leaves it, and the overlength induction takes place, whatever else may be. -/
theorem actsAt_of_end {c : Crossing} (h : c.point = .zoneEnd ∨ c.point = .overlength) :
    s.actsAt c = true := by
  unfold State.actsAt
  rcases h with h | h <;> rw [h]

theorem OnTrack.skip {ready : List Crossing} (h : OnTrack s owed)
    (idle : ∀ c ∈ ready, c ∈ owed ∧ isLowest owed c = true ∧ s.actsAt c = false) :
    OnTrack s (owed.filter fun b => !ready.contains b) := by
  have keep {c : Crossing} (hc : c ∈ owed) (hp : c.point = .zoneEnd ∨ c.point = .overlength) :
      c ∈ owed.filter fun b => !ready.contains b := by
    refine List.mem_filter.2 ⟨hc, ?_⟩
    simp only [Bool.not_eq_true', List.contains_eq_mem, decide_eq_false_iff_not]
    intro hr
    have := (idle c hr).2.2
    rw [actsAt_of_end hp] at this
    cases this
  exact ⟨h.layout, h.lawful, h.tracked.thin (fun _ => .refl _) rfl rfl
    (fun c hc hp _ => keep hc (.inl hp)) (fun hc => keep hc (.inr rfl))
    fun c hc _ => (List.mem_filter.1 hc).1⟩

theorem OnTrack.take {b : Crossing} (h : OnTrack s owed) (hb : b ∈ owed) (ha : s.actsAt b = true) :
    OnTrack (s.cross b).1 (owedAfter owed b (s.cross b)) :=
  ⟨layoutLaws_of_governed h.layout (governed_of_still (cross_still _ _)), cross_lawful h.lawful _,
    cross_tracked h.layout h.lawful h.tracked hb ha⟩

theorem OnTrack.takeAll (h : OnTrack s owed)
    (one : owed.countP (fun c => c.point = .zoneEnd) ≤ 1) : OnTrack (s.takeAll owed) [] :=
  takeAll_induction (P := OnTrack) (fun k h => h.free k) (fun h idle => h.skip idle)
    (fun h hb _ ha => h.take hb ha) h one

end

section
variable {s : State}

theorem raiseCount_eq (s : State) (z : ZoneId) : s.raiseCount z =
    { s with zones := s.zones.set z { s.zones[z] with count := s.zones[z].count + 1 } } := rfl

/-- R4, R6, R49: a pulse is counted, and what it brings about is taken. -/
theorem pulse_eq (s : State) (z : ZoneId) : s.pulse z =
    if s.configured && s.zoneDefined z then (s.pulsed z).takeAll ((s.pulsed z).pulseOwed z)
    else s.raiseCount z := by
  have counted : (if z = 0 then (s.raiseCount z).countSpan else s.raiseCount z) = s.pulsed z := by
    unfold State.pulsed
    by_cases hz : z = 0
    · by_cases hm : s.span = .measuring
      · rw [if_pos hz, if_pos ⟨hz, hm⟩]
        exact if_pos hm
      · rw [if_pos hz, if_neg fun h => hm h.2]
        exact if_neg hm
    · rw [if_neg hz, if_neg fun h => hz h.1]
      rfl
  unfold State.pulse
  dsimp only
  rw [counted]

theorem pulsed_spots (h : Tracked s []) (hr : LayoutInRange s.activeLayout) (z : ZoneId) :
    (s.pulsed z).spots = fun y => if y = z then (s.spots y).map fun x => (x.1, x.2 + 1)
      else s.spots y := by
  have raised : (s.pulsed z).spots = (s.raiseCount z).spots := rfl
  rw [raised]
  refine spots_raiseCount s z fun x hx => ?_
  have room := zoneLength_le hr z
  rcases h.below z x hx with below | ⟨-, c, hc, -⟩
  · omega
  · cases hc

/-- R6: what a pulse of zone `z` can owe. -/
theorem mem_pulseOwed {u : State} {z : ZoneId} {c : Crossing} (h : c ∈ u.pulseOwed z) :
    (∃ i, u.zones[z].track.head? = some i ∧ u.position i = u.activeLayout.zoneLength z ∧
      c = ⟨i.tag, u.position i, .zoneEnd⟩) ∨
    (∃ i ∈ u.zones[z].track, c ∈ u.activeLayout.pointsIn i.tag z ((u.position i : Int) - 1) (u.position i)) ∨
    c = overlengthCrossing := by
  unfold State.pulseOwed at h
  rcases List.mem_append.1 h with h | h
  · rcases List.mem_append.1 h with h | h
    · unfold State.zoneEndOwed at h
      split at h
      · next i hi =>
        split at h
        · next hp => exact .inl ⟨i, hi, hp, List.mem_singleton.1 h⟩
        · cases h
      · cases h
    · exact .inr (.inl (List.mem_flatMap.1 h))
  · unfold State.overlengthOwed at h
    split at h
    · exact .inr (.inr (List.mem_singleton.1 h))
    · cases h

theorem zoneEndOwed_count (u : State) (z : ZoneId) :
    (u.pulseOwed z).countP (fun c => c.point = .zoneEnd) ≤ 1 := by
  have points : (u.pointsOwed z).countP (fun c => c.point = .zoneEnd) = 0 := by
    rw [List.countP_eq_zero]
    intro c hc
    obtain ⟨i, -, hi⟩ := List.mem_flatMap.1 hc
    simpa using (pointsIn_tag hi).2.1
  have long : (u.overlengthOwed z).countP (fun c => c.point = .zoneEnd) = 0 := by
    unfold State.overlengthOwed
    split <;> rfl
  have ends : (u.zoneEndOwed z).countP (fun c => c.point = .zoneEnd) ≤ 1 := by
    unfold State.zoneEndOwed
    split
    · split
      exacts [List.countP_le_length, Nat.zero_le 1]
    · exact Nat.zero_le 1
  unfold State.pulseOwed
  rw [List.countP_append, List.countP_append, points, long]
  exact ends

theorem resyncPoints_count (s : State) (i : Item) (p : Nat) :
    (s.resyncPoints i p).countP (fun c => c.point = .zoneEnd) ≤ 1 := by
  refine le_of_eq_of_le (List.countP_eq_zero.2 fun c hc => ?_) (Nat.zero_le 1)
  simpa using (pointsIn_tag hc).2.1

/-- R6: as a pulse is counted, only the head of the zone can come to the zone's end, and it owes its
leaving. -/
theorem pulsed_tracked (hw : Lawful s) (hr : LayoutInRange s.activeLayout) (h : Tracked s []) (z : ZoneId) :
    Tracked (s.pulsed z) ((s.pulsed z).pulseOwed z) := by
  have lawful : Lawful (s.pulsed z) := by
    have raised : Lawful (s.raiseCount z) := hw.same (raiseCount_same s z)
    exact raised.same (.of_zones rfl rfl)
  have spots := pulsed_spots h hr z
  have layout : (s.pulsed z).activeLayout = s.activeLayout := rfl
  have under (y : ZoneId) (x : Nat × Nat) (hx : x ∈ s.spots y) : x.2 < s.activeLayout.zoneLength y :=
    (h.below y x hx).resolve_right fun ⟨_, _, hc, _⟩ => nomatch hc
  refine ⟨fun y => ?_, fun y x hx => ?_, fun hm => ?_, fun c hc hp => ?_, fun c hc hp => ?_⟩
  · rw [spots]
    dsimp only
    split
    · exact List.pairwise_map.2 ((h.falls y).imp fun hab => Nat.succ_lt_succ hab)
    · exact h.falls y
  · have raised := hx
    rw [spots] at raised
    dsimp only at raised
    rw [layout]
    split at raised
    · next hy =>
      subst hy
      obtain ⟨w, hw', rfl⟩ := List.mem_map.1 raised
      rcases Nat.lt_or_eq_of_le (Nat.succ_le_of_lt (under y w hw')) with lt | eq
      · exact .inl lt
      · refine .inr ⟨eq, ?_⟩
        obtain ⟨i, hi, tag, place⟩ := mem_spots.1 hx
        have falls : ((s.pulsed y).spots y).Pairwise fun a b => b.2 < a.2 := by
          rw [spots]
          simp only [↓reduceIte]
          exact List.pairwise_map.2 ((h.falls y).imp fun hab => Nat.succ_lt_succ hab)
        have head : (s.pulsed y).zones[y].track.head? = some i := by
          obtain ⟨ahead, behind, split⟩ := List.append_of_mem hi
          cases ahead with
          | nil => rw [split]; rfl
          | cons j ahead =>
            unfold State.spots at falls
            rw [split, List.cons_append, List.map_cons, List.pairwise_cons] at falls
            have above := falls.1 (i.tag, (s.pulsed y).place y i) (by simp)
            rw [place] at above
            have inside : (j.tag, (s.pulsed y).place y j) ∈ (s.pulsed y).spots y :=
              mem_spots.2 ⟨j, by rw [split]; exact List.mem_cons_self, rfl, rfl⟩
            rw [spots] at inside
            simp only [↓reduceIte] at inside
            obtain ⟨v, hv, same⟩ := List.mem_map.1 inside
            have least := under y v hv
            have reach : v.2 + 1 = (s.pulsed y).place y j := congrArg Prod.snd same
            dsimp only at eq above
            omega
        refine ⟨⟨i.tag, (s.pulsed y).position i, .zoneEnd⟩, ?_, tag, rfl⟩
        unfold State.pulseOwed State.zoneEndOwed
        rw [head]
        dsimp only
        rw [if_pos]
        · simp
        · rw [layout, ← lawful.booked.pool.place_eq hi, place]
          exact eq
    · exact .inl (under y x raised)
  · have fits := (h.span hm).resolve_right nofun
    by_cases hz : z = 0
    · have bound : (s.pulsed z).spanCount = s.spanCount + 1 := by
        exact if_pos ⟨hz, hm⟩
      rw [layout, bound]
      rcases Nat.lt_or_eq_of_le fits with lt | eq
      · exact .inl lt
      · right
        have long : (s.pulsed z).spanOverlength = true := by
          unfold State.spanOverlength
          rw [layout, bound, eq]
          have : (s.pulsed z).span = .measuring := hm
          simp [this]
        unfold State.pulseOwed State.overlengthOwed
        rw [if_pos ⟨hz, long⟩]
        simp [overlengthCrossing]
    · have bound : (s.pulsed z).spanCount = s.spanCount := by
        exact if_neg fun h => hz h.1
      rw [layout, bound]
      exact .inl fits
  · rcases mem_pulseOwed hc with ⟨i, hi, -, rfl⟩ | ⟨i, -, hi⟩ | rfl
    · exact lawful.booked.pool.positive _ (List.mem_map_of_mem
        (mem_lineItems.2 ⟨z, List.mem_of_head? hi⟩))
    · exact absurd hp (pointsIn_tag hi).2.1
    · cases hp
  · rcases mem_pulseOwed hc with ⟨i, -, -, rfl⟩ | ⟨i, -, hi⟩ | rfl
    · cases hp
    · exact absurd hp (pointsIn_tag hi).2.2
    · rfl

/-- R142, check 2: an eye of the layout in force lies below its zone's length. -/
theorem eye_inside (hl : LayoutLaws s) {e : EyeId} {d : EyeDef} (hd : s.activeLayout.eyes[e] = some d) :
    d.position < s.activeLayout.zoneLength d.zone := by
  obtain ⟨-, -, empty, valid⟩ := hl
  have configured : s.module ≠ .unconfigured := by
    intro hm
    rw [empty hm] at hd
    simp [Layout.empty] at hd
  obtain ⟨inside, -⟩ := (validate_none_iff s.activeLayout).1 (valid configured) 2 (by decide) (by decide)
  unfold Layout.zoneLength
  by_contra hn
  refine inside e ⟨d, hd, fun zone hz => ?_⟩
  rw [Option.mem_def.1 hz] at hn
  exact Nat.le_of_not_lt hn

/-- R33: a resynchronisation keeps between the neighbours, and goes no further than the eye. -/
theorem boundBetween_between {above below : Option Nat} {p : Nat} (ha : ∀ q ∈ above, p < q)
    (hb : ∀ q ∈ below, q < p) (e : Nat) : (∀ q ∈ above, boundBetween above below e < q) ∧
      (∀ q ∈ below, q < boundBetween above below e) ∧ boundBetween above below e ≤ max e p := by
  unfold boundBetween
  cases above with
  | none =>
    cases below with
    | none => exact ⟨nofun, nofun, le_max_left e p⟩
    | some b =>
      have := hb b rfl
      refine ⟨nofun, fun q hq => ?_, ?_⟩
      · cases hq
        dsimp only
        split_ifs <;> omega
      · dsimp only
        split_ifs <;> omega
  | some a =>
    have above := ha a rfl
    cases below with
    | none =>
      refine ⟨fun q hq => ?_, nofun, ?_⟩
      · cases hq
        dsimp only
        split_ifs <;> omega
      · dsimp only
        split_ifs <;> omega
    | some b =>
      have := hb b rfl
      refine ⟨fun q hq => ?_, fun q hq => ?_, ?_⟩
      · cases hq
        dsimp only
        split_ifs <;> omega
      · cases hq
        dsimp only
        split_ifs <;> omega
      · dsimp only
        split_ifs <;> omega

/-- A list whose places fall goes on falling as one moves between its neighbours. -/
theorem falls_between {front back : List (Nat × Nat)} {x y : Nat × Nat}
    (h : (front ++ x :: back).Pairwise fun a b => b.2 < a.2)
    (ha : ∀ q ∈ front.getLast?.map Prod.snd, y.2 < q) (hb : ∀ q ∈ back.head?.map Prod.snd, q < y.2) :
    (front ++ y :: back).Pairwise fun a b => b.2 < a.2 := by
  obtain ⟨falls, rest, apart⟩ := List.pairwise_append.1 h
  obtain ⟨behind, fallsBehind⟩ := List.pairwise_cons.1 rest
  have joined : (front ++ [y]).Pairwise fun a b => b.2 < a.2 := falls_concat falls ha
  refine List.pairwise_append.2 ⟨falls, List.pairwise_cons.2 ⟨fun b hm => ?_, fallsBehind⟩,
    fun a hm b hb' => ?_⟩
  · cases back with
    | nil => cases hm
    | cons c back =>
      have first : c.2 < y.2 := hb c.2 rfl
      rcases List.mem_cons.1 hm with rfl | hm
      · exact first
      · exact ((List.pairwise_cons.1 fallsBehind).1 b hm).trans first
  · rcases List.mem_cons.1 hb' with rfl | hb'
    · exact (List.pairwise_append.1 joined).2.2 a hm b (List.mem_singleton_self b)
    · exact apart a hm b (List.mem_cons_of_mem x hb')

/-- R69: what a match does to the places of its item's zone. -/
theorem matchItem_spots (h : PoolLaws s) {z : ZoneId} {front back : List Item} {i : Item}
    (ht : s.zones[z].track = front ++ i :: back) (e : EyeId) {p : Nat} (hp : p < 2 ^ 24) :
    (s.matchItem e i p).spots = fun y => if z = y then
        front.map (fun j => (j.tag, s.place z j)) ++ (i.tag, p) ::
          back.map fun j => (j.tag, s.place z j)
      else s.spots y := by
  have zone : i.zone = z := h.zone z i (by rw [ht]; simp)
  have placed : (s.zones[z].count - s.baseFor z p).toNat = p := by
    have back (a b : Count) : a - (a - b) = b := by bv_omega
    unfold State.baseFor
    rw [back, BitVec.toNat_ofNat, Nat.mod_eq_of_lt hp]
  unfold State.matchItem
  rw [h.updateItem_at ht, spots_withTrack, zone]
  funext y
  split
  · simp only [List.map_append, List.map_cons]
    refine congrArg₂ _ rfl (congrArg₂ _ ?_ rfl)
    exact Prod.ext rfl placed
  · rfl

/-- R33, R69: a matched item is placed between its neighbours, short of the zone's end. -/
theorem resync_place (hl : LayoutLaws s) (hw : Lawful s) (h : Tracked s []) {e : EyeId} {d : EyeDef}
    (hd : s.activeLayout.eyes[e] = some d) {i : Item} (hi : s.candidate e d = some i) :
    ∃ front back, s.zones[d.zone].track = front ++ i :: back ∧
      (∀ q ∈ front.getLast?.map (s.place d.zone), s.resyncPosition i d.position < q) ∧
      (∀ q ∈ back.head?.map (s.place d.zone), q < s.resyncPosition i d.position) ∧
      s.resyncPosition i d.position < s.activeLayout.zoneLength d.zone := by
  obtain ⟨front, back, ht⟩ := List.append_of_mem (List.mem_of_find?_eq_some hi)
  have pool := hw.booked.pool
  obtain ⟨ahead_, behind_, -⟩ := pool.apart ht
  have mem : i ∈ s.zones[d.zone].track := by rw [ht]; simp
  have zone : i.zone = d.zone := pool.zone d.zone i mem
  have falls := h.falls d.zone
  unfold State.spots at falls
  rw [ht, List.map_append, List.map_cons] at falls
  obtain ⟨-, rest, apart⟩ := List.pairwise_append.1 falls
  have above : ∀ q ∈ front.getLast?.map (s.place d.zone), s.place d.zone i < q := by
    intro q hq
    obtain ⟨j, hj, rfl⟩ := Option.map_eq_some_iff.1 hq
    exact apart (j.tag, s.place d.zone j) (List.mem_map_of_mem (List.mem_of_getLast? hj)) _
      List.mem_cons_self
  have below : ∀ q ∈ back.head?.map (s.place d.zone), q < s.place d.zone i := by
    intro q hq
    obtain ⟨j, hj, rfl⟩ := Option.map_eq_some_iff.1 hq
    exact (List.pairwise_cons.1 rest).1 (j.tag, s.place d.zone j)
      (List.mem_map_of_mem (List.mem_of_head? hj))
  have position : s.resyncPosition i d.position = boundBetween (front.getLast?.map (s.place d.zone))
      (back.head?.map (s.place d.zone)) d.position := by
    have here : s.zones[i.zone] = s.zones[d.zone] := congrArg (fun z : ZoneId => s.zones[z]) zone
    unfold State.resyncPosition
    rw [here, ht, ahead_at ahead_ behind_, behind_at ahead_]
    have same {l : Option Item} (hl : ∀ j ∈ l, j ∈ s.zones[d.zone].track) :
        l.map s.position = l.map (s.place d.zone) :=
      Option.map_congr fun j hj => (pool.place_eq (hl j hj)).symm
    rw [same, same]
    · exact fun j hj => by rw [ht]; simp [List.mem_of_head? hj]
    · exact fun j hj => by rw [ht]; simp [List.mem_of_getLast? hj]
  obtain ⟨lower, higher, reach⟩ := boundBetween_between above below d.position
  rw [← position] at lower higher reach
  have stood : s.place d.zone i < s.activeLayout.zoneLength d.zone :=
    (h.below d.zone (i.tag, s.place d.zone i) (mem_spots.2 ⟨i, mem, rfl, rfl⟩)).resolve_right
      fun ⟨_, _, hc, _⟩ => nomatch hc
  exact ⟨front, back, ht, lower, higher, Nat.lt_of_le_of_lt reach (max_lt (eye_inside hl hd) stood)⟩

theorem matchItem_onTrack (hl : LayoutLaws s) (hw : Lawful s) (h : Tracked s []) {e : EyeId} {d : EyeDef}
    (hd : s.activeLayout.eyes[e] = some d) {i : Item} (hi : s.candidate e d = some i) :
    OnTrack (s.matchItem e i (s.resyncPosition i d.position))
      (s.resyncPoints i (s.resyncPosition i d.position)) := by
  obtain ⟨front, back, ht, lower, higher, short⟩ := resync_place hl hw h hd hi
  have under (y : ZoneId) (x : Nat × Nat) (hx : x ∈ s.spots y) : x.2 < s.activeLayout.zoneLength y :=
    (h.below y x hx).resolve_right fun ⟨_, _, hc, _⟩ => nomatch hc
  have falls := h.falls d.zone
  unfold State.spots at falls
  rw [ht, List.map_append, List.map_cons] at falls
  have narrow := zoneLength_le hl.2.1 d.zone
  have spots := matchItem_spots hw.booked.pool ht e (p := s.resyncPosition i d.position) (by omega)
  refine ⟨layoutLaws_of_governed hl rfl, matchItem_lawful hw e i _, fun y => ?_, fun y x hx => .inl ?_,
    fun hs => .inl ((h.span hs).resolve_right nofun), fun c hc hp => absurd hp (pointsIn_tag hc).2.1,
    fun c hc hp => absurd hp (pointsIn_tag hc).2.2⟩
  · rw [spots]
    dsimp only
    split
    · next hy =>
      refine falls_between falls (fun q hq => lower q ?_) (fun q hq => higher q ?_)
      · rw [List.getLast?_map, Option.map_map] at hq
        exact hq
      · rw [List.head?_map, Option.map_map] at hq
        exact hq
    · exact h.falls y
  · have all := under y x
    rw [spots] at hx
    dsimp only at hx
    split at hx
    · next hy =>
      subst hy
      unfold State.spots at all
      rw [ht, List.map_append, List.map_cons] at all
      rcases List.mem_append.1 hx with hx | hx
      · exact all (List.mem_append_left _ hx)
      · rcases List.mem_cons.1 hx with rfl | hx
        · exact short
        · exact all (List.mem_append_right _ (List.mem_cons_of_mem _ hx))
    · exact all hx

theorem matchEdge_onTrack (hl : LayoutLaws s) (hw : Lawful s) (h : Tracked s []) {e : EyeId} {d : EyeDef}
    (hd : s.activeLayout.eyes[e] = some d) : OnTrack (s.matchEdge e d) [] := by
  unfold State.matchEdge
  split
  · exact ⟨hl, (hw.same (post_same s _)).same (count_same _ _), h.falls, h.below, h.span, h.ends, h.long⟩
  · next i hi => exact (matchItem_onTrack hl hw h hd hi).takeAll (resyncPoints_count s i _)

/-! ### Happenings -/

/-- The order of the track lists with nothing owed is read from the places, the span and the layout. -/
theorem Tracked.of_eq {s t : State} (h : Tracked s []) (hs : t.spots = s.spots)
    (hp : t.spanned = s.spanned) (hl : t.activeLayout = s.activeLayout) : Tracked t [] :=
  h.thin (fun z => by rw [hs]) hl hp nofun nofun nofun

theorem pulsed_onTrack (hl : LayoutLaws s) (hw : Lawful s) (h : Tracked s []) (z : ZoneId) :
    OnTrack (s.pulsed z) ((s.pulsed z).pulseOwed z) := by
  have raised : Lawful (s.raiseCount z) := hw.same (raiseCount_same s z)
  exact ⟨layoutLaws_of_governed hl rfl, raised.same (.of_zones rfl rfl), pulsed_tracked hw hl.2.1 h z⟩

/-- A pulse of an undefined zone, or with no layout in force, moves no item: none is there. -/
theorem raiseCount_staysPut (hl : LayoutLaws s) (h : Tracked s []) {z : ZoneId}
    (hz : ¬ (s.configured && s.zoneDefined z) = true) : StaysPut s (s.raiseCount z) := by
  have undefined : s.activeLayout.zones[z] = none := by
    cases hd : s.activeLayout.zones[z] with
    | none => rfl
    | some v =>
      have unconfigured : s.module = .unconfigured := by
        by_contra hm
        refine hz ?_
        simp [State.configured, State.zoneDefined, hm, hd]
      rw [hl.2.2.1 unconfigured] at hd
      simp [Layout.empty] at hd
  have empty : s.spots z = [] := by
    refine List.eq_nil_iff_forall_not_mem.2 fun x hx => ?_
    rcases h.below z x hx with below | ⟨-, c, hc, -⟩
    · unfold Layout.zoneLength at below
      rw [undefined] at below
      exact Nat.not_lt_zero _ below
    · cases hc
  refine ⟨?_, rfl⟩
  rw [spots_raiseCount s z (by rw [empty]; nofun)]
  funext y
  split
  · next hy => rw [hy, empty]; rfl
  · rfl

theorem pulse_tracked (hl : LayoutLaws s) (hw : Lawful s) (h : Tracked s []) (z : ZoneId) :
    Tracked (s.pulse z) [] := by
  rw [pulse_eq]
  split
  · have lawful : Lawful (s.pulsed z) := by
      have raised : Lawful (s.raiseCount z) := hw.same (raiseCount_same s z)
      exact raised.same (.of_zones rfl rfl)
    exact (OnTrack.takeAll (s := s.pulsed z) ⟨layoutLaws_of_governed hl rfl, lawful, pulsed_tracked hw hl.2.1 h z⟩
      (zoneEndOwed_count _ z)).tracked
  · next hc => exact h.of_eq (raiseCount_staysPut hl h hc).spots rfl rfl

theorem beginSpan_tracked (h : Tracked s []) : Tracked s.beginSpan [] := by
  unfold State.beginSpan
  split
  · exact ⟨h.falls, h.below, fun _ => .inl (Nat.zero_le _), nofun, nofun⟩
  · exact h

/-- R50: the item of a span joins the tail of zone 0, short of its end. -/
theorem endSpan_tracked (hl : LayoutLaws s) (hw : Lawful s) (h : Tracked s []) : Tracked s.endSpan [] := by
  have idle : Tracked { s with span := .idle, spanCount := 0 } [] :=
    ⟨h.falls, h.below, nofun, nofun, nofun⟩
  have lawful : Lawful { s with span := .idle, spanCount := 0 } := hw.same (.of_zones rfl rfl)
  unfold State.endSpan
  dsimp only
  split
  · next hm =>
    split
    · exact idle.of_eq (spots_of_zones_eq rfl) rfl rfl
    · have long : s.spanCount ≤ s.activeLayout.line.maxLength := (h.span hm).resolve_right nofun
      exact induct_tracked (s := { s with span := .idle, spanCount := 0 }) hl lawful idle
        (Nat.le_succ_of_le long) nofun nofun nofun
  · exact idle

theorem blockedEdge_tracked (hl : LayoutLaws s) (hw : Lawful s) (h : Tracked s []) (e : EyeId) :
    Tracked (s.blockedEdge e) [] := by
  have read : Tracked (s.setEyeBlocked e true) [] := h.of_eq rfl rfl rfl
  have items (x : EyeState) {d : EyeDef} (hd : s.activeLayout.eyes[e] = some d) :
      Tracked (((s.setEyeBlocked e true).setEye e x).blockedAtItems e d) [] := by
    have set : Tracked ((s.setEyeBlocked e true).setEye e x) [] := h.of_eq rfl rfl rfl
    unfold State.blockedAtItems
    split
    · exact beginSpan_tracked set
    · exact (matchEdge_onTrack (s := (s.setEyeBlocked e true).setEye e x) (layoutLaws_of_governed hl rfl)
        (hw.same (edge_same s e true x)) set hd).tracked
  unfold State.blockedEdge
  dsimp only
  split
  · next hd _ => exact items _ hd
  · next hd _ => exact items _ hd
  · split
    exacts [beginSpan_tracked read, read]
  · exact read

theorem unblockedEdge_tracked (hl : LayoutLaws s) (hw : Lawful s) (h : Tracked s []) (e : EyeId) :
    Tracked (s.unblockedEdge e) [] := by
  have items {t : State} (ht : Tracked t []) (hl : LayoutLaws t) (hw : Lawful t) (d : EyeDef) :
      Tracked (t.unblockedAtItems d) [] := by
    unfold State.unblockedAtItems
    split
    exacts [endSpan_tracked hl hw ht, ht]
  have read : Tracked (s.setEyeBlocked e false) [] := h.of_eq rfl rfl rfl
  have set (x : EyeState) (d : EyeDef) :
      Tracked (((s.setEyeBlocked e false).setEye e x).unblockedAtItems d) [] :=
    items (t := (s.setEyeBlocked e false).setEye e x) (h.of_eq rfl rfl rfl) (layoutLaws_of_governed hl rfl)
      (hw.same (edge_same s e false x)) d
  unfold State.unblockedEdge
  dsimp only
  split
  · exact set _ _
  · exact set _ _
  · exact items read (layoutLaws_of_governed hl rfl) (hw.same (.of_zones rfl rfl)) _
  · exact read

end

/-! ### Diverters and items -/

section
variable (s : State) (d : DiverterId)

theorem modifyReasons_staysPut (z : ZoneId) (f : Reasons → Reasons) : StaysPut s (s.modifyReasons z f) :=
  ⟨spots_of_zones (fun y => by rw [modifyReasons_zone]) fun y => by rw [modifyReasons_zone], rfl⟩

theorem retracted_staysPut : StaysPut s (s.retracted d) := by
  unfold State.retracted
  dsimp only
  split <;> exact ⟨spots_of_zones_eq rfl, rfl⟩

theorem enterRetracting_staysPut : StaysPut s (s.enterRetracting d) := by
  have entered : StaysPut s (s.modifyDiverter d fun u =>
      { u with state := .retracting, timer := s.diverterTimer d DiverterDef.returnTimeout }) :=
    ⟨spots_of_zones_eq rfl, rfl⟩
  unfold State.enterRetracting
  dsimp only
  split
  · exact entered.trans (retracted_staysPut _ d)
  · exact entered

theorem enterSettling_staysPut : StaysPut s (s.enterSettling d) := by
  unfold State.enterSettling
  split <;> exact ⟨spots_of_zones_eq rfl, rfl⟩

theorem clearFault_staysPut : StaysPut s (s.clearFault d) := by
  unfold State.clearFault
  split
  · exact ⟨spots_of_zones_eq rfl, rfl⟩
  · exact enterSettling_staysPut s d

theorem completeStroke_line : StaysPut s (s.completeStroke d) ∨
    ∃ tag, Gone s (s.completeStroke d) tag := by
  have held : StaysPut s (s.modifyDiverter d fun u =>
      { u with state := .holding, timer := s.diverterTimer d DiverterDef.dwell }) :=
    ⟨spots_of_zones_eq rfl, rfl⟩
  unfold State.completeStroke
  dsimp only
  split
  · exact .inl held
  · next tag _ =>
    have posted (t : State) (r : Report) (f : Counters → Counters) : StaysPut t ((t.post r).count f) :=
      ⟨spots_of_zones_eq rfl, rfl⟩
    exact .inr ⟨tag, (held.trans (posted _ _ _)).gone (release_gone _ tag)⟩

theorem spots_slotEmptied (tag : Nat) : (s.slotEmptied d tag).spots = s.spots := by
  have zones : (s.slotEmptied d tag).zones = (s.updateItem tag s.backOnLine).zones := rfl
  rw [spots_of_zones_eq zones]
  exact spots_updateItem s tag fun _ => ⟨rfl, rfl⟩

theorem spots_returnItem (cause : MissCause) : (s.returnItem d cause).spots = s.spots := by
  rcases returnItem_cases d cause s with ⟨-, h⟩ | ⟨tag, -, h⟩ <;> rw [h]
  rw [spots_post, spots_reassign]
  exact spots_slotEmptied s d tag

theorem spots_reevaluate : (s.reevaluate d).spots = s.spots :=
  List.foldlRecOn (motive := fun t : State => t.spots = s.spots) s.claims[d] _ rfl
    fun t ht tag _ => (spots_reassign t tag (some d)).trans ht

theorem spots_enterFault (cause : DiverterCause) : (s.enterFault d cause).spots = s.spots := by
  unfold State.enterFault
  dsimp only
  split
  · rw [spots_reevaluate, spots_returnItem]
    exact spots_of_zones_eq rfl
  · rw [spots_returnItem]
    exact spots_of_zones_eq rfl

theorem spots_disableDiverter : (s.disableDiverter d).spots = s.spots := by
  unfold State.disableDiverter
  dsimp only
  split_ifs
  · rfl
  · rw [spots_reevaluate, spots_returnItem]
    exact spots_of_zones_eq rfl
  · rw [spots_returnItem]
    exact spots_of_zones_eq rfl

theorem readHome_staysPut : StaysPut s (s.readHome d) := by
  unfold State.readHome
  split <;> exact ⟨spots_of_zones_eq rfl, rfl⟩

theorem spots_withdrawStrokes : s.withdrawStrokes.spots = s.spots := by
  unfold State.withdrawStrokes
  refine List.foldlRecOn (motive := fun t : State => t.spots = s.spots) _ _
    (List.foldlRecOn (motive := fun t : State => t.spots = s.spots) _ _ rfl fun t ht d _ => ?_)
    fun t ht d _ => (spots_returnItem t d .estop).trans ht
  unfold State.withdrawStroke
  split
  · exact ((readHome_staysPut t d).trans (enterRetracting_staysPut _ d)).spots.trans ht
  · exact ht

end

/-! ### Happenings -/

theorem fieldEffect_tracked {s : State} (hl : LayoutLaws s) (hw : Lawful s) (h : Tracked s []) {c : Instr}
    {effect : State → State} (hf : fieldEffect c = some effect) : Tracked (effect s) [] := by
  have thin {t : State} (hs : ∀ z, (t.spots z).Sublist (s.spots z)) (hp : t.spanned = s.spanned) :
      t.activeLayout = s.activeLayout → Tracked t [] := fun hl => h.thin hs hl hp nofun nofun nofun
  have kept {t u : State} (hu : u.spots = s.spots) (hs : t.spots = u.spots) (hp : t.spanned = s.spanned)
      (hg : t.governed = s.governed) : Tracked t [] := by
    simp only [State.governed, Prod.mk.injEq] at hg
    exact h.of_eq (hs.trans hu) hp hg.2.2.1
  have governed := fieldEffect_governed hf s
  cases c with
  | encoderPulse z => cases hf; exact pulse_tracked hl hw h z
  | estopChangeAtZones active =>
    cases hf
    refine h.of_eq (spots_of_zones (fun z => ?_) fun z => ?_) rfl rfl <;> simp [State.estopAtZones]
  | estopChangeAtDiverters active =>
    cases hf
    obtain ⟨-, span⟩ := withdrawStrokes_gaze { s with inputs := { s.inputs with estop := active } }
    unfold State.estopAtDiverters at governed ⊢
    dsimp only at governed ⊢
    split
    · next ha =>
      rw [if_pos ha] at governed
      exact kept (spots_of_zones_eq rfl) (spots_withdrawStrokes _) span governed
    · exact h.of_eq (spots_of_zones_eq rfl) rfl rfl
  | blockedEdge e => cases hf; exact blockedEdge_tracked hl hw h e
  | unblockedEdge e => cases hf; exact unblockedEdge_tracked hl hw h e
  | homeActiveEdge d =>
    cases hf
    refine kept (u := s) rfl ?_ (homeActive_spanned s d) governed
    have moved : (s.setHome d true).spots = s.spots := spots_of_zones_eq rfl
    unfold State.homeActive
    dsimp only
    split
    · exact spots_of_zones_eq rfl
    · exact (retracted_staysPut _ d).spots.trans moved
    · exact (spots_enterFault _ d _).trans moved
    all_goals exact moved
  | homeInactiveEdge d =>
    cases hf
    refine thin (fun z => ?_) (homeInactive_spanned s d) ?_
    · have moved : (s.setHome d false).spots = s.spots := spots_of_zones_eq rfl
      unfold State.homeInactive
      dsimp only
      split
      · rw [spots_enterFault, moved]
      · rcases completeStroke_line (s.setHome d false) d with put | ⟨tag, gone⟩
        · rw [put.spots, moved]
        · rw [← moved]
          exact gone.sublist z
      all_goals rw [moved]
    · simp only [State.governed, Prod.mk.injEq] at governed
      exact governed.2.2.1
  | jamTimerExpiry e =>
    cases hf
    refine kept (u := s) rfl ?_ ?_ governed
    · unfold State.jamEye
      split
      · rfl
      · exact (modifyReasons_staysPut _ _ _).spots.trans (spots_of_zones_eq rfl)
    · unfold State.jamEye
      split <;> rfl
  | strokeTimerExpiry d =>
    cases hf
    exact kept rfl (spots_enterFault s d _) (enterFault_spanned s d _) governed
  | dwellTimerExpiry d =>
    cases hf
    exact kept rfl (enterRetracting_staysPut s d).spots (enterRetracting_spanned s d) governed
  | returnTimerExpiry d =>
    cases hf
    exact kept rfl (spots_enterFault s d _) (enterFault_spanned s d _) governed
  | _ => cases hf

/-! ### Requests -/

/-- With no item on the line and no span measured there is nothing that the order could bind. -/
theorem tracked_of_empty {s : State} (h : ∀ z, s.spots z = []) (hs : s.span ≠ .measuring) :
    Tracked s [] := by
  refine ⟨fun z => ?_, fun z => ?_, fun hm => absurd hm hs, nofun, nofun⟩ <;> rw [h z]
  exacts [.nil, nofun]

theorem spots_postAll (s : State) (rs : List Report) : (s.postAll rs).spots = s.spots := by
  rw [postAll_frame]
  exact spots_of_zones_eq rfl

theorem spanFromInput_ne_measuring (s : State) : s.spanFromInput ≠ .measuring := by
  unfold State.spanFromInput
  split <;> nofun

/-- What a request does to the places and claims: nothing; the line is empty after it; or it is one of the
three that speak of an item or of a diverter's claims. -/
theorem Requested.line {s t : State} {kind : Byte} (h : Requested s kind t) :
    (StaysPut s t ∧ t.activeLayout = s.activeLayout ∧ t.spanned = s.spanned) ∨
    ((∀ z, t.spots z = []) ∧ t.span ≠ .measuring) ∨
    (∃ i, s.findItem i.tag = some i ∧ t = s.release i.tag) ∨
    (∃ i c, s.findItem i.tag = some i ∧ i.state = .tracked ∧ t = (s.reroute i c).1) ∨
    ∃ d, t = s.disableDiverter d := by
  have put {t : State} (ht : StaysPut s t) (hs : t.still = s.still) (hp : t.spanned = s.spanned) :
      StaysPut s t ∧ t.activeLayout = s.activeLayout ∧ t.spanned = s.spanned :=
    ⟨ht, activeLayout_of_still hs, hp⟩
  cases h with
  | nothing => exact .inl ⟨.refl s, rfl, rfl⟩
  | announcements a => exact .inl ⟨⟨rfl, rfl⟩, rfl, rfl⟩
  | edit l hl => exact .inl ⟨⟨rfl, rfl⟩, rfl, rfl⟩
  | start hm => exact .inl ⟨⟨rfl, rfl⟩, rfl, rfl⟩
  | stop hm => exact .inl ⟨⟨rfl, rfl⟩, rfl, rfl⟩
  | restart =>
    refine .inr (.inl ⟨fun z => ?_, ?_⟩) <;> rw [restart_eq]
    · rw [spots_postAll]
      unfold State.spots
      have empty : s.restarted.zones[z].track = [] := by
        simp [State.restarted, State.cleared, State.giveUp, ZoneUnit.restart]
      rw [empty]
      rfl
    · rw [(gaze_postAll _ _).2]
      exact spanFromInput_ne_measuring s
  | commit hm hi ha hv =>
    refine .inr (.inl ⟨fun z => ?_, ?_⟩) <;> rw [commit_eq]
    · rw [spots_postAll]
      have empty : s.committed.zones[z].track = [] := by
        have track : s.committed.zones[z].track = s.zones[z].track := by
          unfold State.committed State.takeLayout State.evaluatePoolLow
          dsimp only
          rw [modifyReasons_zone]
          simp only [Fin.getElem_fin, Vector.getElem_ofFn]
          rfl
        rw [track]
        refine List.eq_nil_iff_forall_not_mem.2 fun i hm => ?_
        have := mem_lineItems.2 ⟨z, hm⟩
        rw [hi] at this
        cases this
      unfold State.spots
      rw [empty]
      rfl
    · rw [(gaze_postAll _ _).2]
      exact spanFromInput_ne_measuring { s with activeLayout := s.pendingLayout }
  | purge i hf _ => exact .inr (.inr (.inl ⟨i, hf, rfl⟩))
  | reroute i c hf ht => exact .inr (.inr (.inr (.inl ⟨i, c, hf, ht, rfl⟩)))
  | resume z =>
    refine .inl ?_
    have cleared := List.foldlRecOn (motive := fun t : State => StaysPut s t ∧
        t.activeLayout = s.activeLayout ∧ t.spanned = s.spanned) (s.eyesIn z .jamHeld) (State.clearHeld z)
      (b := s.setHost z false) ⟨modifyReasons_staysPut s z _, rfl, rfl⟩
      fun t ⟨put, layout, spanned⟩ e _ => ⟨put.trans ⟨rfl, rfl⟩, layout, spanned⟩
    unfold State.resume State.withdrawJam
    obtain ⟨put, layout, spanned⟩ := cleared
    exact ⟨put.trans (modifyReasons_staysPut _ z _), layout, spanned⟩
  | disableEye e d hd hr =>
    unfold State.disableEye
    refine .inl ?_
    split_ifs
    · exact ⟨.refl s, rfl, rfl⟩
    · exact ⟨(⟨rfl, rfl⟩ : StaysPut s ((s.setEye e .disabled).post (.jam e d.zone false))).trans
        (modifyReasons_staysPut _ d.zone _), rfl, rfl⟩
    · exact ⟨⟨rfl, rfl⟩, rfl, rfl⟩
  | enableEye e =>
    unfold State.enableEye
    split <;> exact .inl ⟨⟨rfl, rfl⟩, rfl, rfl⟩
  | testDiverter d ht => exact .inl ⟨⟨spots_of_zones_eq rfl, rfl⟩, rfl, rfl⟩
  | disableDiverter d hd => exact .inr (.inr (.inr (.inr ⟨d, rfl⟩)))
  | enableDiverter d hs =>
    exact .inl (put (enterSettling_staysPut s d) (enterSettling_still s d) (enterSettling_spanned s d))
  | clearFault d hs =>
    exact .inl (put (clearFault_staysPut s d) (clearFault_still s d) (clearFault_spanned s d))

theorem Requested.tracked {s t : State} {kind : Byte} (h : Requested s kind t) (hs : Tracked s []) :
    Tracked t [] := by
  rcases h.line with ⟨put, layout, spanned⟩ | ⟨empty, span⟩ | ⟨i, hf, rfl⟩ | ⟨i, c, -, -, rfl⟩ | ⟨d, rfl⟩
  · exact hs.of_eq put.spots spanned layout
  · exact tracked_of_empty empty span
  · exact hs.thin (release_gone s i.tag).sublist rfl rfl nofun nofun nofun
  · refine hs.of_eq ?_ (reassign_spanned _ i.tag none) (activeLayout_of_still (reassign_still _ i.tag none))
    unfold State.reroute
    rw [spots_reassign]
    exact spots_updateItem s i.tag fun _ => ⟨rfl, rfl⟩
  · exact hs.of_eq (spots_disableDiverter s d) (disableDiverter_spanned s d)
      (activeLayout_of_still (disableDiverter_still s d))

/-! ### Steps -/

theorem tracked_of_blocks {s t : State} (hs : Tracked s []) (h : t.blocks = s.blocks) : Tracked t [] := by
  refine hs.of_eq (spots_of_zones (fun z => (blocks_zone h z).1) fun z => (blocks_zone h z).2) ?_ ?_
  · exact (congrArg State.spanned h : t.blocks.spanned = s.blocks.spanned)
  · exact (congrArg State.activeLayout h : t.blocks.activeLayout = s.blocks.activeLayout)

theorem exec_tracked {c : Instr} {s t : State} (hl : LayoutLaws s) (hw : Lawful s) (hs : Tracked s [])
    (h : exec c s = .next t) : Tracked t [] := by
  have fresh {t : State} (hz : ∀ z : ZoneId, t.zones[z].track = []) (ht : t.span = .idle) :
      Tracked t [] := by
    refine tracked_of_empty (fun z => ?_) (by rw [ht]; nofun)
    unfold State.spots
    rw [hz z]
    rfl
  cases hc : IsReset c with
  | true =>
    cases c with
    | powerOn i =>
      cases h
      exact fresh (fun z => by simp [State.begin, ZoneUnit.blank]) rfl
    | resetinActive =>
      cases h
      exact fresh (fun z => by simp [State.void, State.reset, ZoneUnit.blank]) rfl
    | resetinInactive i =>
      rcases resetinInactive_cases h with ⟨-, rfl⟩ | ⟨-, rfl⟩
      exacts [fresh (fun z => by simp [State.begin, ZoneUnit.blank]) rfl, hs]
    | _ => cases hc
  | false =>
    rcases exec_cases hc h with ht | ⟨effect, hf, -, -, ht⟩ | ⟨kind, u, v, -, hu, hv, ht⟩
    · exact tracked_of_blocks hs ht
    · exact tracked_of_blocks (fieldEffect_tracked hl hw hs hf) ht
    · exact tracked_of_blocks (hv.tracked (tracked_of_blocks hs hu)) ht

theorem tick_tracked {s : State} (h : Tracked s []) : Tracked s.tick [] := by
  unfold State.tick
  split
  · exact h
  · exact h.of_eq (spots_of_zones_eq rfl) rfl rfl

/-- Settles O10: within a pulse an item may stand at its zone's end and a span at its bound only as long as
the pulse owes the leaving and the induction, and the pulse takes all that it owes. -/
theorem stepKeepsTrackOrder : Obligations.StepKeepsTrackOrder := by
  intro s t hl hr hs h
  have lawful := (recordLaws_iff s).1 hr
  have kept : RecordLaws t := stepKeepsRecordLaws s t hr h
  rw [trackLaws_iff ((recordLaws_iff t).1 kept).booked.pool]
  rw [trackLaws_iff lawful.booked.pool] at hs
  rcases step_cases h with ⟨-, -, rfl⟩ | ⟨c, rest, n, he⟩
  · exact tick_tracked hs
  · exact exec_tracked (s := { s with pending := rest, freeIndex := n }) hl
      (lawful.same (.of_zones rfl rfl)) (hs.of_eq rfl rfl rfl) he

end Sys2Proof.Machine
end


section
/-! PROOFS. The claim lists over a step: their line order, and their items' places upstream of the trigger
points (R84 to R87, R91, R112, R113, R115). -/

namespace Sys2Proof.Machine

set_option Elab.async false

/-- R84: position `p` of zone `z` lies upstream of the trigger point of diverter `d`. -/
def Upstream (l : Layout) (d : DiverterId) (z : ZoneId) (p : Nat) : Prop :=
  ∃ v ∈ l.diverters[d], z < v.zone ∨ z = v.zone ∧ p + v.lead < v.firePosition

/-- R87: the item of tag `t` stands ahead of that of tag `u` in line. -/
def State.leads (s : State) (t u : Nat) : Prop :=
  ∀ (z : ZoneId) (p : Nat) (y : ZoneId) (q : Nat), (t, p) ∈ s.spots z → (u, q) ∈ s.spots y →
    y < z ∨ z = y ∧ q < p

/-- The order of the claim lists while crossings are owed: an item that a claim has brought to the trigger
point of its diverter, or past it, owes that crossing. -/
structure Claimed (s : State) (owed : List Crossing) : Prop where
  pool : PoolLaws s
  falls (z : ZoneId) : (s.spots z).Pairwise fun a b => b.2 < a.2
  order (d : DiverterId) : s.claims[d].Pairwise s.leads
  inLine (d : DiverterId) : ∀ x ∈ s.claims[d], x ∈ s.lineTags
  upstream (d : DiverterId) (z : ZoneId) : ∀ x ∈ s.spots z, x.1 ∈ s.claims[d] →
    Upstream s.activeLayout d z x.2 ∨ ∃ c ∈ owed, c.tag = x.1 ∧ c.point = .trigger d

section
variable {s t : State} {owed left : List Crossing}

/-! ### The line -/

theorem leads_iff (h : PoolLaws s) {i j : Item} (hi : i ∈ s.lineItems) (hj : j ∈ s.lineItems) :
    s.leads i.tag j.tag ↔ s.before i j := by
  have spot {k : Item} (hk : k ∈ s.lineItems) : (k.tag, s.place k.zone k) ∈ s.spots k.zone := by
    obtain ⟨z, hz⟩ := mem_lineItems.1 hk
    obtain rfl := h.zone z k hz
    exact mem_spots.2 ⟨k, hz, rfl, rfl⟩
  constructor
  · exact fun hl => hl _ _ _ _ (spot hi) (spot hj)
  · intro hb z p y q hp hq
    obtain ⟨rfl, rfl⟩ := h.spot_unique hp (spot hi)
    obtain ⟨rfl, rfl⟩ := h.spot_unique hq (spot hj)
    exact hb

theorem leads_mono (hs : ∀ z, ∀ x ∈ t.spots z, x ∈ s.spots z) {a b : Nat} (h : s.leads a b) :
    t.leads a b :=
  fun z p y q hp hq => h z p y q (hs z _ hp) (hs y _ hq)

theorem leads_irrefl {a : Nat} (ha : a ∈ s.lineTags) : ¬ s.leads a a := by
  obtain ⟨z, p, hp⟩ := mem_lineTags_iff.1 ha
  intro h
  rcases h z p z p hp hp with h | ⟨-, h⟩
  exacts [lt_irrefl z h, lt_irrefl p h]

theorem leads_trans {a b c : Nat} (hb : b ∈ s.lineTags) (h : s.leads a b) (k : s.leads b c) :
    s.leads a c := by
  intro z p y q hp hq
  obtain ⟨x, r, hr⟩ := mem_lineTags_iff.1 hb
  have above := k x r y q hr hq
  rcases h z p x r hp hr with h | ⟨rfl, h⟩ <;> rcases above with k | ⟨rfl, k⟩
  · exact .inl (k.trans h)
  · exact .inl h
  · exact .inl k
  · exact .inr ⟨rfl, k.trans h⟩

/-- Two places of one falling list are the same, or one of the two is the lower. -/
theorem falls_apart {spots : List (Nat × Nat)} (h : spots.Pairwise fun a b => b.2 < a.2) {x y : Nat × Nat}
    (hx : x ∈ spots) (hy : y ∈ spots) (he : x.2 = y.2) : x = y := by
  by_contra hn
  have different := h.imp (fun {a b} hab => (Nat.ne_of_lt hab : b.2 ≠ a.2))
  rcases List.Pairwise.forall_of_forall_of_flip (R := fun a b : Nat × Nat => a = b ∨ b.2 ≠ a.2)
    (fun _ _ => .inl rfl) (different.imp .inr) (different.imp fun hab => .inr hab.symm) hx hy with h | h
  exacts [hn h, h he.symm]

/-- R28, R29: of two items in line one stands ahead of the other. -/
theorem leads_total (h : PoolLaws s) (hf : ∀ z, (s.spots z).Pairwise fun a b => b.2 < a.2) {a b : Nat}
    (ha : a ∈ s.lineTags) (hb : b ∈ s.lineTags) (hn : a ≠ b) : s.leads a b ∨ s.leads b a := by
  obtain ⟨z, p, hp⟩ := mem_lineTags_iff.1 ha
  obtain ⟨y, q, hq⟩ := mem_lineTags_iff.1 hb
  have read {x w : Nat} {u v : ZoneId} {r o : Nat} (hr : (x, r) ∈ s.spots u) (ho : (w, o) ∈ s.spots v)
      (hlt : v < u ∨ u = v ∧ o < r) : s.leads x w := by
    intro u' r' v' o' hr' ho'
    obtain ⟨rfl, rfl⟩ := h.spot_unique hr' hr
    obtain ⟨rfl, rfl⟩ := h.spot_unique ho' ho
    exact hlt
  rcases lt_trichotomy z y with lt | rfl | lt
  · exact .inr (read hq hp (.inl lt))
  · rcases Nat.lt_trichotomy p q with lt | rfl | lt
    · exact .inr (read hq hp (.inr ⟨rfl, lt⟩))
    · exact absurd (congrArg Prod.fst (falls_apart (hf z) hp hq rfl)) hn
    · exact .inl (read hp hq (.inr ⟨rfl, lt⟩))
  · exact .inl (read hp hq (.inl lt))

/-- An item that stands ahead of one that has reached a trigger point has reached it too. -/
theorem upstream_of_leads {l : Layout} {d : DiverterId} {z y : ZoneId} {p q : Nat}
    (h : Upstream l d z p) (hb : y < z ∨ z = y ∧ q < p) : Upstream l d y q := by
  obtain ⟨v, hv, h⟩ := h
  refine ⟨v, hv, ?_⟩
  rcases h with h | ⟨rfl, h⟩ <;> rcases hb with hb | ⟨rfl, hb⟩
  · exact .inl (hb.trans h)
  · exact .inl h
  · exact .inl hb
  · exact .inr ⟨rfl, by omega⟩

/-! ### The law, and the order with nothing owed -/

theorem claimOrder_iff (hw : Lawful s) (hf : ∀ z, (s.spots z).Pairwise fun a b => b.2 < a.2) :
    ClaimOrder s ↔ Claimed s [] := by
  have pool := hw.booked.pool
  have inLine (d : DiverterId) (x : Nat) (hx : x ∈ s.claims[d]) : x ∈ s.lineTags :=
    ((hw.booked.claims.claimed d x nofun).1 hx).mem_lineTags
  have order (d : DiverterId) : (s.claims[d].Pairwise fun t u =>
      ∀ i ∈ s.lineItems, ∀ j ∈ s.lineItems, i.tag = t → j.tag = u → s.before i j) ↔
      s.claims[d].Pairwise s.leads := by
    refine List.Pairwise.iff_of_mem fun {a b} ha hb => ⟨fun h => ?_, fun h i hi j hj hit hjt => ?_⟩
    · obtain ⟨i, hi, rfl⟩ := List.mem_map.1 (inLine d a ha)
      obtain ⟨j, hj, rfl⟩ := List.mem_map.1 (inLine d b hb)
      exact (leads_iff pool hi hj).2 (h i hi j hj rfl rfl)
    · subst hit hjt
      exact (leads_iff pool hi hj).1 h
  constructor
  · intro h
    refine ⟨pool, hf, fun d => (order d).1 (h d).1, inLine, fun d z x hx hc => .inl ?_⟩
    obtain ⟨i, hi, tag, place⟩ := mem_spots.1 hx
    obtain rfl := pool.zone z i hi
    rw [← place]
    exact (h d).2 i (mem_lineItems.2 ⟨_, hi⟩) (tag ▸ hc)
  · intro h
    refine fun d => ⟨(order d).2 (h.order d), fun i hi hc => ?_⟩
    obtain ⟨z, hz⟩ := mem_lineItems.1 hi
    obtain rfl := pool.zone z i hz
    exact (h.upstream d i.zone (i.tag, s.place i.zone i) (mem_spots.2 ⟨i, hz, rfl, rfl⟩) hc).resolve_right
      fun ⟨_, hc, _⟩ => nomatch hc

/-! ### Claims that stay or go -/

/-- Items and claims that go leave the order; what the claims that stay owe is still owed. -/
theorem Claimed.thin (h : Claimed s owed) (pool : PoolLaws t)
    (hs : ∀ z, (t.spots z).Sublist (s.spots z)) (hc : ∀ d : DiverterId, t.claims[d].Sublist s.claims[d])
    (inLine : ∀ d : DiverterId, ∀ x ∈ t.claims[d], x ∈ t.lineTags) (hl : t.activeLayout = s.activeLayout)
    (keep : ∀ c ∈ owed, ∀ d : DiverterId, c.point = .trigger d → c.tag ∈ t.claims[d] → c ∈ left) :
    Claimed t left := by
  refine ⟨pool, fun z => (h.falls z).sublist (hs z), fun d => ?_, inLine, fun d z x hx hm => ?_⟩
  · exact ((h.order d).sublist (hc d)).imp fun hab => leads_mono (fun z x hx => (hs z).subset hx) hab
  · rw [hl]
    refine (h.upstream d z x ((hs z).subset hx) ((hc d).subset hm)).imp_right ?_
    rintro ⟨c, hc, tag, hp⟩
    exact ⟨c, keep c hc d hp (tag ▸ hm), tag, hp⟩

theorem Claimed.staysPut (h : Claimed s owed) (pool : PoolLaws t) (put : StaysPut s t)
    (hl : t.activeLayout = s.activeLayout)
    (keep : ∀ c ∈ owed, ∀ d : DiverterId, c.point = .trigger d → c.tag ∈ t.claims[d] → c ∈ left) :
    Claimed t left :=
  h.thin pool (fun z => by rw [put.spots]) (fun d => by rw [put.claims])
    (fun d x hx => by
      rw [lineTags_of_spots put.spots]
      rw [put.claims] at hx
      exact h.inLine d x hx) hl keep

theorem Claimed.gone {tag : Nat} (h : Claimed s owed) (pool : PoolLaws t) (gone : Gone s t tag)
    (hl : t.activeLayout = s.activeLayout)
    (keep : ∀ c ∈ owed, c.tag ≠ tag → c ∈ left) : Claimed t left := by
  refine h.thin pool gone.sublist (fun d => ?_) (fun d x hx => ?_) hl fun c hc d _ hm => keep c hc ?_
  · rw [gone.claims]
    exact List.filter_sublist
  · rw [gone.claims] at hx
    obtain ⟨hx, ne⟩ := List.mem_filter.1 hx
    rw [lineTags_without gone.spots]
    exact List.mem_filter.2 ⟨h.inLine d x hx, ne⟩
  · rw [gone.claims] at hm
    exact bne_iff_ne.1 (List.mem_filter.1 hm).2

/-- R89, R112: an item leaves a claim list. -/
theorem Claimed.leaveClaim (h : Claimed s owed) (tag : Nat) (d : DiverterId)
    (keep : ∀ c ∈ owed, ¬ (c.tag = tag ∧ c.point = .trigger d) → c ∈ left) :
    Claimed (s.leaveClaim tag d) left := by
  have claims (e : DiverterId) : (s.leaveClaim tag d).claims[e] =
      if d = e then s.claims[d].filter fun x => x != tag else s.claims[e] := by
    rw [State.leaveClaim_claims, getElem_set_fin]
  have sub (e : DiverterId) : (s.leaveClaim tag d).claims[e].Sublist s.claims[e] := by
    rw [claims]
    split
    · next he => exact he ▸ List.filter_sublist
    · exact .refl _
  refine h.thin (h.pool.of_track rfl rfl rfl fun _ => rfl) (fun _ => .refl _) sub
    (fun e x hx => h.inLine e x ((sub e).subset hx)) rfl fun c hc e hp hm => keep c hc ?_
  rintro ⟨ht, hd⟩
  obtain rfl : e = d := by rw [hp] at hd; exact Point.trigger.inj hd
  rw [claims, if_pos rfl] at hm
  exact bne_iff_ne.1 (List.mem_filter.1 hm).2 ht

/-! ### Assignments -/

theorem upstream_of_claimable {i : Item} {d : DiverterId} (h : s.claimable i d = true) :
    Upstream s.activeLayout d i.zone (s.place i.zone i) := by
  rw [claimable_eq, Bool.and_eq_true] at h
  obtain ⟨v, hv, hp⟩ := (Option.any_eq_true _ _).1 h.2
  exact ⟨v, hv, of_decide_eq_true hp⟩

/-- R87: a claim put in at its line-order place. -/
theorem insert_order (h : Claimed s owed) {i : Item} (hi : i ∈ s.lineItems) {d : DiverterId} {k : Nat}
    (absent : i.tag ∉ s.claims[d])
    (past : ∀ j ∈ s.lineItems, j.tag ∈ s.claims[d].take k → ¬ s.before i j)
    (next : ∀ j ∈ s.lineItems, (s.claims[d].drop k).head? = some j.tag → s.before i j) :
    (s.claims[d].take k ++ i.tag :: s.claims[d].drop k).Pairwise s.leads := by
  have order := h.order d
  rw [← List.take_append_drop k s.claims[d]] at order
  obtain ⟨front, back, apart⟩ := List.pairwise_append.1 order
  have line := List.mem_map_of_mem (f := Item.tag) hi
  refine List.pairwise_append.2 ⟨front, List.pairwise_cons.2 ⟨fun b hb => ?_, back⟩, fun a ha b hb => ?_⟩
  · cases hd : s.claims[d].drop k with
    | nil => rw [hd] at hb; cases hb
    | cons x rest =>
      have inside : x ∈ s.claims[d] := List.mem_of_mem_drop (i := k) (by rw [hd]; exact List.mem_cons_self)
      obtain ⟨j, hj, rfl⟩ := List.mem_map.1 (h.inLine d x inside)
      have first : s.leads i.tag j.tag := (leads_iff h.pool hi hj).2 (next j hj (by rw [hd]; rfl))
      rw [hd] at hb back
      rcases List.mem_cons.1 hb with rfl | hb
      · exact first
      · exact leads_trans (List.mem_map_of_mem hj) first ((List.pairwise_cons.1 back).1 b hb)
  · rcases List.mem_cons.1 hb with rfl | hb
    · have inside : a ∈ s.claims[d] := List.mem_of_mem_take ha
      obtain ⟨j, hj, rfl⟩ := List.mem_map.1 (h.inLine d a inside)
      refine (leads_total h.pool h.falls (List.mem_map_of_mem hj) line fun he => absent ?_).resolve_right
        fun hl => past j hj ha ((leads_iff h.pool hi hj).1 hl)
      exact he ▸ inside
    · exact apart a ha b hb

theorem Claimed.reassign (h : Claimed s owed) (tag : Nat) (excluded : Option DiverterId) :
    Claimed (s.reassign tag excluded).1 owed := by
  rcases reassign_cases s tag excluded with ⟨-, he⟩ | ⟨i, hf, he⟩
  · rw [he]
    exact h
  obtain ⟨hi, rfl⟩ := findItem_eq_some hf
  have spots := spots_reassign s i.tag excluded
  have tags := lineTags_of_spots spots
  have pool : PoolLaws (s.reassign i.tag excluded).1 := by
    rw [he]
    exact (h.pool.updateItem i.tag (fun j => { j with assigned := s.assignment i excluded })
      (fun _ => rfl) fun _ => rfl).of_track rfl rfl rfl fun _ => rfl
  have lists : ClaimsWith s i (s.assignment i excluded) (s.reassign i.tag excluded).1.claims := by
    rw [he]
    exact h.pool.claimsWith i _
  have same (a b : Nat) : (s.reassign i.tag excluded).1.leads a b ↔ s.leads a b := by
    unfold State.leads
    rw [spots]
  have layout : (s.reassign i.tag excluded).1.activeLayout = s.activeLayout :=
    activeLayout_of_still (reassign_still s i.tag excluded)
  generalize (s.reassign i.tag excluded).1 = t at spots tags pool lists same layout ⊢
  have line := List.mem_map_of_mem (f := Item.tag) hi
  have members (d : DiverterId) (x : Nat) (hx : x ∈ t.claims[d]) :
      x ∈ s.claims[d] ∨ x = i.tag ∧ s.assignment i excluded = some d := by
    obtain ⟨other, held, put⟩ := lists d
    by_cases hn : s.assignment i excluded = some d
    · by_cases ht : i.tag ∈ s.claims[d]
      · exact .inl (held hn ht ▸ hx)
      · obtain ⟨k, list, -, -⟩ := put hn ht
        rw [list] at hx
        rcases List.mem_append.1 hx with hx | hx
        · exact .inl (List.mem_of_mem_take hx)
        · rcases List.mem_cons.1 hx with rfl | hx
          exacts [.inr ⟨rfl, hn⟩, .inl (List.mem_of_mem_drop hx)]
    · rw [other hn] at hx
      exact .inl (List.mem_of_mem_filter hx)
  refine ⟨pool, fun z => spots ▸ h.falls z, fun d => ?_, fun d x hx => ?_, fun d z x hx hm => ?_⟩
  · refine List.Pairwise.imp (fun {a b} => (same a b).2) ?_
    obtain ⟨other, held, put⟩ := lists d
    by_cases hn : s.assignment i excluded = some d
    · by_cases ht : i.tag ∈ s.claims[d]
      · rw [held hn ht]
        exact h.order d
      · obtain ⟨k, list, past, next⟩ := put hn ht
        rw [list]
        exact insert_order h hi ht past next
    · rw [other hn]
      exact (h.order d).filter _
  · rw [tags]
    rcases members d x hx with hx | ⟨rfl, -⟩
    exacts [h.inLine d x hx, line]
  · rw [spots] at hx
    rw [layout]
    rcases members d x.1 hm with hc | ⟨ht, hn⟩
    · exact h.upstream d z x hx hc
    · obtain ⟨y, hy⟩ := mem_lineItems.1 hi
      obtain rfl := h.pool.zone y i hy
      have here : (i.tag, s.place i.zone i) ∈ s.spots i.zone := mem_spots.2 ⟨i, hy, rfl, rfl⟩
      rw [← ht] at here
      obtain ⟨rfl, hp⟩ := h.pool.spot_unique hx here
      rw [hp]
      exact .inl (upstream_of_claimable (assignment_claimable hn).2)

end

end Sys2Proof.Machine
end

section
/-! PROOFS. The claim lists while a pulse or a resynchronisation brings items to their points, and then over
whole steps (R84 to R87, R91, R110 to R115). -/

namespace Sys2Proof.Machine

set_option Elab.async false

section
variable {s t : State} {owed left : List Crossing}

/-! ### Operations on one item -/

theorem Claimed.kept (h : Claimed s owed) (pool : PoolLaws t) (put : StaysPut s t)
    (hl : t.activeLayout = s.activeLayout) : Claimed t owed :=
  h.staysPut pool put hl fun _ hc _ _ _ => hc

theorem Claimed.same (h : Claimed s owed) (same : SameRecords s t) (spots : t.spots = s.spots)
    (hl : t.activeLayout = s.activeLayout) : Claimed t owed :=
  h.kept (h.pool.same same) ⟨spots, congrArg (fun r => r.2.2.2.1) same.register⟩ hl

theorem Claimed.post (h : Claimed s owed) (r : Report) : Claimed (s.post r) owed :=
  h.same (post_same s r) rfl rfl

theorem Claimed.updateItem (h : Claimed s owed) (tag : Nat) {f : Item → Item}
    (hf : ∀ j, (f j).tag = j.tag ∧ (f j).base = j.base) (hz : ∀ j, (f j).zone = j.zone) :
    Claimed (s.updateItem tag f) owed :=
  h.kept (h.pool.updateItem tag f (fun j => (hf j).1) hz) (updateItem_staysPut s tag hf) rfl

theorem Claimed.modifyDiverter (h : Claimed s owed) (d : DiverterId) (f : Diverter → Diverter) :
    Claimed (s.modifyDiverter d f) owed :=
  h.kept (h.pool.of_track rfl rfl rfl fun _ => rfl) ⟨spots_of_zones_eq rfl, rfl⟩ rfl

/-- R110 to R114: the item at a trigger point leaves the diverter's claim list, if it was in it, and is
claimed by another only from upstream. -/
theorem reachTrigger_claimed (h : Claimed s owed) {tag : Nat} {d : DiverterId}
    (acts : (s.findItem tag).any (fun i => s.meetsDecision d i || s.isShadowed d i) = true)
    (keep : ∀ c ∈ owed, ¬ (c.tag = tag ∧ c.point = .trigger d) → c ∈ left) :
    Claimed (s.reachTrigger tag d) left := by
  unfold State.reachTrigger
  cases hi : s.findItem tag with
  | none => rw [hi] at acts; cases acts
  | some i =>
    rw [hi] at acts
    obtain ⟨-, rfl⟩ := findItem_eq_some hi
    dsimp only
    have marked {u : State} (hu : Claimed u left) (x : Nat) : Claimed (u.updateItem x Item.markAtRisk) left :=
      hu.updateItem x (fun _ => ⟨rfl, rfl⟩) fun _ => rfl
    split_ifs with meets shadow
    · unfold State.decideFire
      split
      · next cause _ =>
        unfold State.missDivert
        dsimp only
        refine Claimed.post (Claimed.reassign (Claimed.leaveClaim (owed := owed) ?_ i.tag d keep) _ _) _
        split
        exacts [h.updateItem i.tag (fun _ => ⟨rfl, rfl⟩) fun _ => rfl, h]
      · have fired : Claimed (s.fired d i) left := by
          unfold State.fired
          exact Claimed.leaveClaim (owed := owed) (Claimed.updateItem (h.modifyDiverter d _) i.tag
            (f := fun j => { j with state := .diverting }) (fun _ => ⟨rfl, rfl⟩) fun _ => rfl) i.tag d keep
        rcases fire_cases s d i with he | ⟨p, he⟩ <;> rw [he]
        exacts [fired, marked fired p.tag]
    · refine h.staysPut (h.pool.updateItem _ _ (fun _ => rfl) fun _ => rfl)
        (updateItem_staysPut s _ fun _ => ⟨rfl, rfl⟩) rfl fun c hc e hp hm => keep c hc ?_
      rintro ⟨ht, hd⟩
      obtain rfl : e = d := by rw [hp] at hd; exact Point.trigger.inj hd
      have absent : i.tag ∉ s.claims[e] := by
        unfold State.isShadowed at shadow
        simp only [Bool.and_eq_true, Bool.not_eq_true', List.contains_eq_mem, decide_eq_false_iff_not]
          at shadow
        exact shadow.1.2
      exact absent (ht ▸ hm)
    · exfalso
      simp only [Option.any_some, Bool.or_eq_true] at acts
      exact acts.elim meets shadow

/-! ### What may be owed -/

/-- What the crossings owed say of the items that owe them, in a happening at zone `home`: an item has
reached each trigger point that it owes, no two items owe one, and an item at the end of the zone is the
only one that may come to points of another zone. -/
structure Owing (s : State) (owed : List Crossing) (home : ZoneId) : Prop where
  present : ∀ c ∈ owed, c.point ≠ .overlength → c.tag ∈ s.lineTags
  reached : ∀ c ∈ owed, ∀ d : DiverterId, c.point = .trigger d → ∀ (z : ZoneId) (p : Nat),
    (c.tag, p) ∈ s.spots z → ¬ Upstream s.activeLayout d z p
  one : ∀ b ∈ owed, ∀ c ∈ owed, ∀ d : DiverterId, b.point = .trigger d → c.point = .trigger d → b.tag = c.tag
  ends : ∀ c ∈ owed, c.point = .zoneEnd → ∀ (z : ZoneId) (p : Nat), (c.tag, p) ∈ s.spots z →
    z = home ∧ p = s.activeLayout.zoneLength home
  single : ∀ b ∈ owed, ∀ c ∈ owed, b.point = .zoneEnd → c.point = .zoneEnd → b = c
  here : (∃ c ∈ owed, c.point = .zoneEnd) → ∀ c ∈ owed, ∀ d : DiverterId, c.point = .trigger d →
    ∃ v ∈ s.activeLayout.diverters[d], v.zone = home

theorem owing_nil (s : State) (home : ZoneId) : Owing s [] home :=
  ⟨nofun, nofun, nofun, nofun, nofun, nofun⟩

/-- Items other than those that owe crossings come and go, and crossings are taken, as they may. -/
theorem Owing.thin {home : ZoneId} (h : Owing s owed home) (sub : ∀ c ∈ left, c ∈ owed)
    (hl : t.activeLayout = s.activeLayout)
    (present : ∀ c ∈ left, c.point ≠ .overlength → c.tag ∈ t.lineTags)
    (hs : ∀ x ∈ s.lineTags, ∀ (z : ZoneId) (p : Nat), (x, p) ∈ t.spots z → (x, p) ∈ s.spots z) :
    Owing t left home := by
  refine ⟨present, fun c hc d hp z p hx => ?_, fun b hb c hc => h.one b (sub b hb) c (sub c hc),
    fun c hc hp z p hx => ?_, fun b hb c hc => h.single b (sub b hb) c (sub c hc), ?_⟩
  · rw [hl]
    exact h.reached c (sub c hc) d hp z p
      (hs _ (h.present c (sub c hc) (by rw [hp]; nofun)) z p hx)
  · rw [hl]
    exact h.ends c (sub c hc) hp z p
      (hs _ (h.present c (sub c hc) (by rw [hp]; nofun)) z p hx)
  · rintro ⟨c, hc, hp⟩ b hb
    rw [hl]
    exact h.here ⟨c, sub c hc, hp⟩ b (sub b hb)

/-- The item that owes a trigger point and claims its diverter heads the diverter's claim list. -/
theorem heads_of_owing {home : ZoneId} (h : Claimed s owed) (o : Owing s owed home) {c : Crossing}
    {d : DiverterId} (hc : c ∈ owed) (hp : c.point = .trigger d) (hm : c.tag ∈ s.claims[d]) :
    s.claims[d].head? = some c.tag := by
  cases hl : s.claims[d] with
  | nil => rw [hl] at hm; cases hm
  | cons x rest =>
    rw [hl] at hm
    rcases List.mem_cons.1 hm with he | hm
    · exact congrArg some he.symm
    · have order := h.order d
      rw [hl] at order
      have first := (List.pairwise_cons.1 order).1 c.tag hm
      have inside : x ∈ s.claims[d] := by rw [hl]; exact List.mem_cons_self
      obtain ⟨z, p, hx⟩ := mem_lineTags_iff.1 (h.inLine d x inside)
      obtain ⟨y, q, hy⟩ := mem_lineTags_iff.1 (o.present c hc (by rw [hp]; nofun))
      exfalso
      rcases h.upstream d z (x, p) hx inside with up | ⟨b, hb, hbt, hbp⟩
      · exact o.reached c hc d hp y q hy (upstream_of_leads up (first z p y q hx hy))
      · have same : x = c.tag := hbt.symm.trans (o.one b hb c hc d hbp hp)
        rw [same] at first inside
        exact leads_irrefl (h.inLine d _ inside) first

/-- R98: an item that owes a trigger point and claims its diverter meets the decision there. -/
theorem acts_of_claim {home : ZoneId} (hw : Lawful s) (h : Claimed s owed) (o : Owing s owed home)
    {c : Crossing} {d : DiverterId} (hc : c ∈ owed) (hp : c.point = .trigger d)
    (hm : c.tag ∈ s.claims[d]) : s.actsAt c = true := by
  obtain ⟨i, hi, tag, tracked, -⟩ := (hw.booked.claims.claimed d c.tag nofun).1 hm
  have found : s.findItem c.tag = some i := tag ▸ hw.booked.pool.findItem_of_mem hi
  unfold State.actsAt
  rw [hp]
  dsimp only
  rw [found, Option.any_some, Bool.or_eq_true]
  left
  unfold State.meetsDecision
  rw [tracked, heads_of_owing h o hc hp hm, tag]
  simp

/-! ### The crossings -/

/-- The state and the crossings owed in a happening at zone `home`. -/
structure InOrder (home : ZoneId) (s : State) (owed : List Crossing) : Prop where
  track : OnTrack s owed
  claimed : Claimed s owed
  owing : Owing s owed home

theorem InOrder.free {home : ZoneId} (k : Nat) (h : InOrder home s owed) :
    InOrder home { s with freeIndex := k } owed :=
  ⟨h.track.free k, h.claimed.same (.of_zones rfl rfl) rfl rfl, h.owing.thin (fun _ hc => hc) rfl
    h.owing.present fun _ _ _ _ hx => hx⟩

theorem InOrder.skip {home : ZoneId} {ready : List Crossing} (h : InOrder home s owed)
    (idle : ∀ c ∈ ready, c ∈ owed ∧ isLowest owed c = true ∧ s.actsAt c = false) :
    InOrder home s (owed.filter fun b => !ready.contains b) := by
  refine ⟨h.track.skip idle, h.claimed.staysPut h.claimed.pool (.refl s) rfl fun c hc d hp hm => ?_,
    h.owing.thin (fun c hc => (List.mem_filter.1 hc).1) rfl
      (fun c hc => h.owing.present c (List.mem_filter.1 hc).1) fun _ _ _ _ hx => hx⟩
  refine List.mem_filter.2 ⟨hc, ?_⟩
  simp only [Bool.not_eq_true', List.contains_eq_mem, decide_eq_false_iff_not]
  intro hr
  have := (idle c hr).2.2
  rw [acts_of_claim h.track.lawful h.claimed h.owing hc hp hm] at this
  cases this

/-- What is owed after a crossing that leads past no point was owed before it. -/
theorem mem_owed_of_after {b c : Crossing} (hb : b.point ≠ .zoneEnd)
    (hc : c ∈ owedAfter owed b (s.cross b)) : c ∈ owed ∧ c ≠ b ∧
      ((s.cross b).1.findItem b.tag ≠ none ∨ c.tag ≠ b.tag) := by
  rcases mem_owedAfter.1 hc with ⟨hm, hne, hp⟩ | ⟨hm, -⟩
  · exact ⟨hm, hne, hp.imp_left Option.isSome_iff_ne_none.1⟩
  · rw [(cross_more_length s b).2.2 hb] at hm
    cases hm

/-- A crossing of a window's end or of a trigger point releases its own item, if any. -/
theorem cross_lineTags (s : State) {b : Crossing} (hz : b.point ≠ .zoneEnd) (hv : b.point ≠ .overlength) :
    (s.cross b).1.lineTags = s.lineTags ∨
      (s.cross b).1.lineTags = s.lineTags.filter fun x => x != b.tag := by
  unfold State.cross
  split
  · next hp => exact absurd hp hz
  · next e _ =>
    exact (missEye_line s b.tag e).imp (fun h => lineTags_of_spots h.spots)
      fun h => lineTags_without h.spots
  · next d _ => exact .inl (lineTags_of_spots (reachTrigger_spots s b.tag d))
  · next hp => exact absurd hp hv

theorem InOrder.take_point {home : ZoneId} {b : Crossing} (h : InOrder home s owed) (hb : b ∈ owed)
    (ha : s.actsAt b = true) (hz : b.point ≠ .zoneEnd) (hv : b.point ≠ .overlength) :
    InOrder home (s.cross b).1 (owedAfter owed b (s.cross b)) := by
  have track := h.track.take hb ha
  have layout := activeLayout_of_still (cross_still s b)
  have pool := track.lawful.booked.pool
  have spots := cross_sublist s b hz hv
  have present (c : Crossing) (hc : c ∈ owedAfter owed b (s.cross b)) (hp : c.point ≠ .overlength) :
      c.tag ∈ (s.cross b).1.lineTags := by
    obtain ⟨hm, -, there⟩ := mem_owed_of_after hz hc
    by_cases he : c.tag = b.tag
    · rw [he, ← findItem_isSome]
      exact Option.isSome_iff_ne_none.2 (there.resolve_right fun hn => hn he)
    · have before := h.owing.present c hm hp
      rcases cross_lineTags s hz hv with hk | hk <;> rw [hk]
      exacts [before, List.mem_filter.2 ⟨before, bne_iff_ne.2 he⟩]
  refine ⟨track, ?_, h.owing.thin (fun c hc => (mem_owed_of_after hz hc).1) layout present
    fun x _ z p hx => (spots z).subset hx⟩
  have stay (c : Crossing) (hc : c ∈ owed) (hne : c ≠ b) (ht : c.tag ∈ (s.cross b).1.lineTags) :
      c ∈ owedAfter owed b (s.cross b) := mem_owedAfter_of hc hne (.inl ht)
  cases hp : b.point with
  | zoneEnd => exact absurd hp hz
  | overlength => exact absurd hp hv
  | windowEnd e =>
    have crossed : (s.cross b).1 = s.missEye b.tag e := by simp only [State.cross, hp]
    have other {c : Crossing} {d : DiverterId} (hd : c.point = .trigger d) : c ≠ b := by
      rintro rfl
      rw [hd] at hp
      cases hp
    rcases missEye_line s b.tag e with put | gone
    · rw [← crossed] at put
      refine h.claimed.staysPut pool put layout fun c hc d hd _ => stay c hc (other hd) ?_
      rw [lineTags_of_spots put.spots]
      exact h.owing.present c hc (by rw [hd]; nofun)
    · rw [← crossed] at gone
      exact h.claimed.gone pool gone layout fun c hc hn =>
        mem_owedAfter_of hc (fun he => hn (he ▸ rfl)) (.inr hn)
  | trigger d =>
    have crossed : (s.cross b).1 = s.reachTrigger b.tag d := by simp only [State.cross, hp]
    have acts : (s.findItem b.tag).any (fun i => s.meetsDecision d i || s.isShadowed d i) = true := by
      unfold State.actsAt at ha
      rw [hp] at ha
      exact ha
    have tags : (s.cross b).1.lineTags = s.lineTags := by
      rw [crossed]
      exact lineTags_of_spots (reachTrigger_spots s b.tag d)
    have thinned : Claimed (s.reachTrigger b.tag d) (owed.filter fun c => c ≠ b ∨ c.point ≠ .trigger d) := by
      refine reachTrigger_claimed h.claimed acts fun c hc hn => List.mem_filter.2 ⟨hc, decide_eq_true ?_⟩
      by_contra hboth
      rw [not_or, not_not, not_not] at hboth
      exact hn ⟨hboth.1 ▸ rfl, hboth.2⟩
    rw [← crossed] at thinned
    refine thinned.staysPut pool (.refl _) rfl fun c hc e he hm => ?_
    obtain ⟨hc, hne⟩ := List.mem_filter.1 hc
    refine stay c hc (fun hcb => ?_) ?_
    · rcases of_decide_eq_true hne with hn | hn
      exacts [hn hcb, hn (hcb ▸ hp)]
    · rw [tags]
      exact h.owing.present c hc (by rw [he]; nofun)

end

end Sys2Proof.Machine
end

section
/-! PROOFS. The claim lists over inductions, transfers, pulses and resynchronisations, and then over every
step: `StepKeepsClaimOrder` (R86, R87). -/

namespace Sys2Proof.Machine

set_option Elab.async false

section
variable {s : State} {owed : List Crossing} {home : ZoneId}

/-! ### Inductions -/

/-- R28: an item that joins the line takes no place from one that is in it, and no claim. -/
theorem appendItem_claimed {t : State} (h : Claimed s owed) (put : StaysPut s t)
    (hl : t.activeLayout = s.activeLayout) {p : Nat} {i : Item} (hp : p < 2 ^ 24)
    (pool : PoolLaws (t.appendItem 0 p i)) (fresh : i.tag ∉ s.lineTags)
    (falls : ∀ z, ((t.appendItem 0 p i).spots z).Pairwise fun a b => b.2 < a.2) :
    Claimed (t.appendItem 0 p i) owed := by
  have spots : (t.appendItem 0 p i).spots = fun z => s.spots z ++ if z = 0 then [(i.tag, p)] else [] := by
    rw [spots_appendItem t 0 hp i, put.spots]
  have claims : (t.appendItem 0 p i).claims = s.claims := put.claims
  have layout : (t.appendItem 0 p i).activeLayout = s.activeLayout := hl
  have old {x q : Nat} {z : ZoneId} (hx : x ∈ s.lineTags) (hq : (x, q) ∈ (t.appendItem 0 p i).spots z) :
      (x, q) ∈ s.spots z := by
    rw [spots] at hq
    rcases List.mem_append.1 hq with hq | hq
    · exact hq
    · split at hq
      · obtain ⟨rfl, -⟩ := Prod.mk.inj (List.mem_singleton.1 hq)
        exact absurd hx fresh
      · cases hq
  refine ⟨pool, falls, fun d => ?_, fun d x hx => ?_, fun d z x hx hm => ?_⟩
  · rw [claims]
    refine List.Pairwise.imp_of_mem (fun {a b} ha hb hab z q y r hq hr => ?_) (h.order d)
    exact hab z q y r (old (h.inLine d a ha) hq) (old (h.inLine d b hb) hr)
  · rw [claims] at hx
    obtain ⟨z, q, hq⟩ := mem_lineTags_iff.1 (h.inLine d x hx)
    refine mem_lineTags_iff.2 ⟨z, q, ?_⟩
    rw [spots]
    exact List.mem_append_left _ hq
  · rw [claims] at hm
    rw [layout]
    exact h.upstream d z x (old (h.inLine d x.1 hm) hx) hm

/-- What an induction does to the line: nothing, or one item more. -/
theorem induct_line (hl : LayoutLaws s) (hw : Lawful s) {length : Nat} {overlength : Bool}
    (hm : length ≤ s.activeLayout.line.maxLength + 1) :
    (StaysPut s (s.induct length overlength)) ∨
    (∃ tag, tag ∉ s.lineTags ∧ Gone s (s.induct length overlength) tag) ∨
    ∃ (t : State) (i : Item) (p : Nat), StaysPut s t ∧ PoolLaws (t.appendItem 0 p i) ∧
      i.tag ∉ s.lineTags ∧ p < 2 ^ 24 ∧ t.activeLayout = s.activeLayout ∧
      s.induct length overlength = (t.appendItem 0 p i).closeInduction i := by
  rcases induct_cases hw length overlength with put | ⟨e, t, i, he, put, still, -, taken, -, -, outcome⟩
  · exact .inl put
  · have absent : i.tag ∉ t.lineTags := fun hx => taken.fresh (List.mem_append_right _ hx)
    have fresh : i.tag ∉ s.lineTags := lineTags_of_spots put.spots ▸ absent
    rcases outcome with lost | ⟨p, clamped, hc, placed⟩
    · refine .inr (.inl ⟨i.tag, fresh, ?_⟩)
      rw [lost]
      exact put.gone (lose_gone t i.tag 0 none .transfer)
    · have small := induct_room hl he hm hc
      have narrow := zoneLength_le hl.2.1 0
      exact .inr (.inr ⟨t, i, p, put,
        taken.lawful.booked.pool.appendItem 0 p taken.fresh taken.positive, fresh, by omega,
        activeLayout_of_still still, placed⟩)

/-- The items in line stay in line, where they are. -/
theorem induct_old (hl : LayoutLaws s) (hw : Lawful s) {length : Nat} {overlength : Bool}
    (hm : length ≤ s.activeLayout.line.maxLength + 1) {x : Nat} (hx : x ∈ s.lineTags) :
    x ∈ (s.induct length overlength).lineTags ∧ ∀ (z : ZoneId) (p : Nat),
      (x, p) ∈ (s.induct length overlength).spots z → (x, p) ∈ s.spots z := by
  rcases induct_line hl hw (overlength := overlength) hm with
    put | ⟨tag, absent, gone⟩ | ⟨t, i, p, put, -, fresh, small, -, placed⟩
  · rw [lineTags_of_spots put.spots, put.spots]
    exact ⟨hx, fun _ _ hq => hq⟩
  · refine ⟨?_, fun z q hq => (gone.sublist z).subset hq⟩
    rw [lineTags_without gone.spots]
    exact List.mem_filter.2 ⟨hx, bne_iff_ne.2 fun he => absent (he ▸ hx)⟩
  · have spots : (s.induct length overlength).spots =
        fun z => s.spots z ++ if z = 0 then [(i.tag, p)] else [] := by
      rw [placed, spots_closeInduction, spots_appendItem t 0 small i, put.spots]
    constructor
    · obtain ⟨z, q, hq⟩ := mem_lineTags_iff.1 hx
      refine mem_lineTags_iff.2 ⟨z, q, ?_⟩
      rw [spots]
      exact List.mem_append_left _ hq
    · intro z q hq
      rw [spots] at hq
      rcases List.mem_append.1 hq with hq | hq
      · exact hq
      · split at hq
        · obtain ⟨rfl, -⟩ := Prod.mk.inj (List.mem_singleton.1 hq)
          exact absurd hx fresh
        · cases hq

theorem induct_claimed (hl : LayoutLaws s) (hw : Lawful s) (h : Claimed s owed) {length : Nat}
    {overlength : Bool} (hm : length ≤ s.activeLayout.line.maxLength + 1)
    (falls : ∀ z, ((s.induct length overlength).spots z).Pairwise fun a b => b.2 < a.2) :
    Claimed (s.induct length overlength) owed := by
  have pool := (induct_lawful hw length overlength).booked.pool
  have layout := activeLayout_of_still (induct_still s length overlength)
  rcases induct_line hl hw (overlength := overlength) hm with
    put | ⟨tag, -, gone⟩ | ⟨t, i, p, put, appended, fresh, small, same, placed⟩
  · exact h.kept pool put layout
  · exact h.gone pool gone layout fun _ hc _ => hc
  · rw [placed, spots_closeInduction] at falls
    rw [placed]
    unfold State.closeInduction
    exact (((appendItem_claimed h put same small appended fresh falls).reassign i.tag none).post _).same
      (count_same _ _) rfl rfl

/-! ### Crossings -/

theorem InOrder.take_long {b : Crossing} (h : InOrder home s owed) (hb : b ∈ owed)
    (ha : s.actsAt b = true) (hv : b.point = .overlength) :
    InOrder home (s.cross b).1 (owedAfter owed b (s.cross b)) := by
  have track := h.track.take hb ha
  have crossed : (s.cross b).1 = s.inductOverlength := by simp only [State.cross, hv]
  have hz : b.point ≠ .zoneEnd := by rw [hv]; nofun
  have layout := activeLayout_of_still (cross_still s b)
  obtain ⟨falls, -⟩ := track.tracked
  have lawful : Lawful { s with span := .passed, spanCount := 0 } :=
    h.track.lawful.same (.of_zones rfl rfl)
  have stay (c : Crossing) (hc : c ∈ owed) (hp : c.point ≠ .overlength) :
      c ∈ owedAfter owed b (s.cross b) := by
    refine mem_owedAfter_of hc (fun he => hp (he ▸ hv)) (.inr fun he => ?_)
    have positive := h.claimed.pool.positive _ (h.owing.present c hc hp)
    rw [he, h.track.tracked.long b hb hv] at positive
    exact Nat.not_succ_le_zero 0 positive
  have old (x : Nat) (hx : x ∈ s.lineTags) : x ∈ (s.cross b).1.lineTags ∧ ∀ (z : ZoneId) (p : Nat),
      (x, p) ∈ (s.cross b).1.spots z → (x, p) ∈ s.spots z := by
    rw [crossed]
    exact induct_old (s := { s with span := .passed, spanCount := 0 }) h.track.layout lawful
      (overlength := true) (le_refl _) hx
  refine ⟨track, ?_, h.owing.thin (fun c hc => (mem_owed_of_after hz hc).1) layout (fun c hc hp => ?_)
    fun x hx => (old x hx).2⟩
  · rw [crossed] at falls ⊢
    have claimed := induct_claimed (s := { s with span := .passed, spanCount := 0 }) h.track.layout lawful
      (h.claimed.same (.of_zones rfl rfl) rfl rfl) (le_refl _) falls
    exact claimed.staysPut claimed.pool (.refl _) rfl fun c hc d hd _ => stay c hc (by rw [hd]; nofun)
  · exact (old _ (h.owing.present c (mem_owed_of_after hz hc).1 hp)).1

/-- R142, checks 2 and 6: a diverter of the layout in force lies below its zone's length, and its trigger
point not below 0. -/
theorem diverter_inside (hl : LayoutLaws s) {d : DiverterId} {v : DiverterDef}
    (hd : s.activeLayout.diverters[d] = some v) :
    v.firePosition < s.activeLayout.zoneLength v.zone ∧ v.lead ≤ v.firePosition := by
  obtain ⟨-, -, empty, valid⟩ := hl
  have configured : s.module ≠ .unconfigured := by
    intro hm
    rw [empty hm] at hd
    simp [Layout.empty] at hd
  have checks := (validate_none_iff s.activeLayout).1 (valid configured)
  obtain ⟨-, inside⟩ := checks 2 (by decide) (by decide)
  obtain ⟨near, -⟩ := checks 6 (by decide) (by decide)
  constructor
  · unfold Layout.zoneLength
    by_contra hn
    refine inside d ⟨v, hd, fun zone hz => ?_⟩
    rw [Option.mem_def.1 hz] at hn
    exact Nat.le_of_not_lt hn
  · by_contra hn
    exact near d ⟨v, hd, .inl (Nat.lt_of_not_le hn)⟩

/-- R7: a trigger point of a zone between two positions is one of the points there. -/
theorem trigger_mem_pointsIn {l : Layout} {d : DiverterId} {v : DiverterDef} (hd : l.diverters[d] = some v)
    (tag : Nat) {low high : Int} (hl : low < v.triggerPoint) (hh : v.triggerPoint ≤ high) :
    ⟨tag, v.triggerPoint.toNat, .trigger d⟩ ∈ l.pointsIn tag v.zone low high := by
  refine List.mem_append_left _ (List.mem_filterMap.2 ⟨d, List.mem_finRange d, ?_⟩)
  rw [hd]
  simp [hl, hh]

/-- The item of a tag is carried from the end of zone `home` to place `p` at the tail of the next zone. -/
structure Carried (s t : State) (tag : Nat) (home y : ZoneId) (p : Nat) : Prop where
  spots : t.spots = fun x => spotsWithout s.spots tag x ++ if x = y then [(tag, p)] else []
  stood : ∃ q, (tag, q) ∈ s.spots home ∧ ∀ x ∈ s.spots home, x.2 ≤ q
  next : y.val = home.val + 1

section
variable {t : State} {tag p : Nat} {y : ZoneId}

theorem Carried.placed (h : Carried s t tag home y p) : (tag, p) ∈ t.spots y := by
  rw [h.spots]
  exact List.mem_append_right _ (by simp)

theorem Carried.old (h : Carried s t tag home y p) {x : Nat × Nat} {z : ZoneId} (hx : x ∈ t.spots z) :
    x ∈ s.spots z ∧ x.1 ≠ tag ∨ x = (tag, p) ∧ z = y := by
  rw [h.spots] at hx
  rcases List.mem_append.1 hx with hx | hx
  · obtain ⟨hx, ne⟩ := List.mem_filter.1 hx
    exact .inl ⟨hx, bne_iff_ne.1 ne⟩
  · split at hx
    · next hz => exact .inr ⟨List.mem_singleton.1 hx, hz⟩
    · cases hx

theorem Carried.lineTags (h : Carried s t tag home y p) {x : Nat} (hx : x ∈ s.lineTags) :
    x ∈ t.lineTags := by
  by_cases he : x = tag
  · exact mem_lineTags_iff.2 ⟨y, p, he ▸ h.placed⟩
  · obtain ⟨z, q, hq⟩ := mem_lineTags_iff.1 hx
    refine mem_lineTags_iff.2 ⟨z, q, ?_⟩
    rw [h.spots]
    exact List.mem_append_left _ (List.mem_filter.2 ⟨hq, bne_iff_ne.2 he⟩)

/-- R8, R29: a transfer leaves the line order as it was. -/
theorem Carried.leads (h : Carried s t tag home y p)
    (falls : (t.spots y).Pairwise fun a b => b.2 < a.2) {u v : Nat} (hl : s.leads u v) : t.leads u v := by
  obtain ⟨e, stood, last⟩ := h.stood
  have next := h.next
  intro z q x r hq hr
  rcases h.old hq with ⟨hq, hu⟩ | ⟨hu, rfl⟩ <;> rcases h.old hr with ⟨hr', hv⟩ | ⟨hv, rfl⟩
  · exact hl z q x r hq hr'
  · obtain ⟨rfl, rfl⟩ := Prod.mk.inj hv
    rcases hl z q home e hq stood with before | ⟨rfl, before⟩
    · by_cases hz : z = x
      · refine .inr ⟨hz, ?_⟩
        subst hz
        rw [h.spots] at falls
        simp only [↓reduceIte] at falls
        exact (List.pairwise_append.1 falls).2.2 (u, q) (List.mem_filter.2 ⟨hq, bne_iff_ne.2 hu⟩) (v, r)
          (List.mem_singleton_self _)
      · refine .inl (Fin.lt_def.2 ?_)
        have := Fin.lt_def.1 before
        have := Fin.val_ne_of_ne hz
        omega
    · exact absurd (last _ hq) (Nat.not_le_of_lt before)
  · obtain ⟨rfl, rfl⟩ := Prod.mk.inj hu
    refine .inl (Fin.lt_def.2 ?_)
    rcases hl home e x r stood hr' with before | ⟨rfl, -⟩
    · have := Fin.lt_def.1 before
      omega
    · omega
  · obtain ⟨rfl, rfl⟩ := Prod.mk.inj hu
    obtain ⟨rfl, rfl⟩ := Prod.mk.inj hv
    exfalso
    rcases hl home e home e stood stood with h | ⟨-, h⟩
    exacts [lt_irrefl _ h, lt_irrefl _ h]

end

/-- After the leaving of the zone no other is owed. -/
theorem zoneEnd_not_after {b : Crossing} (o : Owing s owed home) (hb : b ∈ owed) (hz : b.point = .zoneEnd) :
    ∀ c ∈ owedAfter owed b (s.cross b), c.point ≠ .zoneEnd := by
  intro c hc hp
  have hm := mem_of_owedAfter hc (.inl hp)
  rcases mem_owedAfter.1 hc with ⟨-, hne, -⟩ | ⟨hm, -⟩
  · exact hne (o.single c hm b hb hp hz)
  · rcases cross_more s b with he | ⟨-, y, p, he⟩ <;> rw [he] at hm
    · cases hm
    · exact (pointsIn_tag hm).2.1 hp

/-- The item that owes its leaving of zone `home` is carried on to place `p` of zone `y`, where it owes the
points up to there. -/
structure Passage (home : ZoneId) (s : State) (owed : List Crossing) (b : Crossing) (y : ZoneId)
    (p : Nat) : Prop where
  before : InOrder home s owed
  owes : b ∈ owed
  ends : b.point = .zoneEnd
  stood : (b.tag, s.activeLayout.zoneLength home) ∈ s.spots home
  carried : Carried s (s.cross b).1 b.tag home y p
  claims : (s.cross b).1.claims = s.claims
  more : (s.cross b).2 = s.activeLayout.pointsIn b.tag y (-1) p

section
variable {b c : Crossing} {y : ZoneId} {p : Nat} {d : DiverterId}

theorem Passage.present (h : Passage home s owed b y p) :
    ((s.cross b).1.findItem b.tag).isSome = true :=
  findItem_isSome.2 (mem_lineTags_iff.2 ⟨y, p, h.carried.placed⟩)

theorem Passage.stays (h : Passage home s owed b y p) (hc : c ∈ owed) (hd : c.point = .trigger d) :
    c ∈ owedAfter owed b (s.cross b) := by
  refine mem_owedAfter.2 (.inl ⟨hc, ?_, .inl h.present⟩)
  rintro rfl
  have ends := h.ends
  rw [hd] at ends
  cases ends

theorem Passage.owed_cases (h : Passage home s owed b y p) (hc : c ∈ owedAfter owed b (s.cross b)) :
    c ∈ owed ∨ c ∈ s.activeLayout.pointsIn b.tag y (-1) p := by
  rcases mem_owedAfter.1 hc with ⟨hm, -⟩ | ⟨hm, -⟩
  exacts [.inl hm, .inr (h.more ▸ hm)]

theorem Passage.zone (h : Passage home s owed b y p) (hc : c ∈ owed) (hd : c.point = .trigger d) :
    ∃ v ∈ s.activeLayout.diverters[d], v.zone = home :=
  h.before.owing.here ⟨b, h.owes, h.ends⟩ c hc d hd

theorem trigger_of_pointsIn {l : Layout} {tag : Nat} (hc : c ∈ l.pointsIn tag y (-1) p)
    (hd : c.point = .trigger d) : ∃ v ∈ l.diverters[d], v.zone = y ∧ v.firePosition ≤ p + v.lead := by
  rcases List.mem_append.1 hc with hc | hc
  · obtain ⟨e, v, hv, hz, -, reach, rfl⟩ := triggersIn_points hc
    cases hd
    refine ⟨v, hv, hz, ?_⟩
    unfold DiverterDef.triggerPoint at reach
    omega
  · obtain ⟨e, v, -, -, -, -, -, rfl⟩ := windowEndsIn_points hc
    cases hd

/-- Where the item is placed it has passed every trigger point of the zone that it left, and each up to
there. -/
theorem Passage.beyond (h : Passage home s owed b y p) {v : DiverterDef}
    (hv : v ∈ s.activeLayout.diverters[d]) (hz : v.zone = home ∨ v.zone = y ∧ v.firePosition ≤ p + v.lead) :
    ¬ Upstream s.activeLayout d y p := by
  have next := h.carried.next
  rintro ⟨w, hw, up⟩
  obtain rfl := Option.mem_unique hv hw
  simp only [Fin.lt_def, Fin.ext_iff] at up hz
  omega

/-- R84: an item that claims a diverter of the next zone is upstream of its trigger point where it is
placed, or owes it. -/
theorem Passage.reaches (h : Passage home s owed b y p) (hm : b.tag ∈ s.claims[d]) :
    Upstream s.activeLayout d y p ∨ ∃ c ∈ owedAfter owed b (s.cross b), c.tag = b.tag ∧
      c.point = .trigger d := by
  have next := h.carried.next
  rcases h.before.claimed.upstream d home _ h.stood hm with ⟨v, hv, up⟩ | ⟨c, hc, tag, hd⟩
  · obtain ⟨short, ahead⟩ := diverter_inside h.before.track.layout hv
    have downstream : home < v.zone := by
      refine up.resolve_right ?_
      rintro ⟨hz, up⟩
      rw [← hz] at short
      dsimp only at up
      omega
    by_cases hz : y = v.zone
    · by_cases hr : p + v.lead < v.firePosition
      · exact .inl ⟨v, hv, .inr ⟨hz, hr⟩⟩
      · refine .inr ⟨⟨b.tag, v.triggerPoint.toNat, .trigger d⟩,
          mem_owedAfter.2 (.inr ⟨?_, h.present⟩), rfl, rfl⟩
        rw [h.more, hz]
        refine trigger_mem_pointsIn hv b.tag ?_ ?_ <;> unfold DiverterDef.triggerPoint <;> omega
    · refine .inl ⟨v, hv, .inl (Fin.lt_def.2 ?_)⟩
      have := Fin.lt_def.1 downstream
      have := Fin.val_ne_of_ne hz
      omega
  · exact .inr ⟨c, h.stays hc hd, tag, hd⟩

theorem Passage.claimed (h : Passage home s owed b y p)
    (after : OnTrack (s.cross b).1 (owedAfter owed b (s.cross b))) :
    Claimed (s.cross b).1 (owedAfter owed b (s.cross b)) := by
  have pool := after.lawful.booked.pool
  have falls := after.tracked.falls
  have before := h.before.claimed
  refine ⟨pool, falls, fun d => ?_, fun d x hx => ?_, fun d z x hx hm => ?_⟩
  · rw [h.claims]
    exact (before.order d).imp fun hl => h.carried.leads (falls y) hl
  · rw [h.claims] at hx
    exact h.carried.lineTags (before.inLine d x hx)
  · rw [activeLayout_of_still (cross_still s b)]
    rw [h.claims] at hm
    rcases h.carried.old hx with ⟨hx, -⟩ | ⟨rfl, rfl⟩
    · refine (before.upstream d z x hx hm).imp_right ?_
      rintro ⟨c, hc, tag, hd⟩
      exact ⟨c, h.stays hc hd, tag, hd⟩
    · exact h.reaches hm

theorem Passage.owing (h : Passage home s owed b y p) :
    Owing (s.cross b).1 (owedAfter owed b (s.cross b)) home := by
  have before := h.before.owing
  have none := zoneEnd_not_after before h.owes h.ends
  refine ⟨fun c hc hp => ?_, fun c hc d hd z q hq => ?_, fun a ha c hc d had hcd => ?_,
    fun c hc hp => absurd hp (none c hc), fun c hc _ _ hp => absurd hp (none c hc),
    fun ⟨c, hc, hp⟩ => absurd hp (none c hc)⟩
  · rcases h.owed_cases hc with hc | hc
    · exact h.carried.lineTags (before.present c hc hp)
    · rw [(pointsIn_tag hc).1]
      exact mem_lineTags_iff.2 ⟨y, p, h.carried.placed⟩
  · rw [activeLayout_of_still (cross_still s b)]
    rcases h.carried.old hq with ⟨hq, ne⟩ | ⟨he, rfl⟩
    · rcases h.owed_cases hc with hc | hc
      · exact before.reached c hc d hd z q hq
      · exact absurd (pointsIn_tag hc).1 ne
    · obtain ⟨-, rfl⟩ := Prod.mk.inj he
      rcases h.owed_cases hc with hc | hc
      · obtain ⟨v, hv, hz⟩ := h.zone hc hd
        exact h.beyond hv (.inl hz)
      · obtain ⟨v, hv, hz⟩ := trigger_of_pointsIn hc hd
        exact h.beyond hv (.inr hz)
  · have apart {a c : Crossing} (ha : a ∈ owed) (had : a.point = .trigger d)
        (hc : c ∈ s.activeLayout.pointsIn b.tag y (-1) p) (hcd : c.point = .trigger d) : False := by
      obtain ⟨v, hv, hz⟩ := h.zone ha had
      obtain ⟨w, hw, hy, -⟩ := trigger_of_pointsIn hc hcd
      obtain rfl := Option.mem_unique hv hw
      have next := h.carried.next
      rw [← hz, ← hy] at next
      omega
    rcases h.owed_cases ha with ha | ha <;> rcases h.owed_cases hc with hc | hc
    · exact before.one a ha c hc d had hcd
    · exact (apart ha had hc hcd).elim
    · exact (apart hc hcd ha had).elim
    · rw [(pointsIn_tag ha).1, (pointsIn_tag hc).1]

end

theorem InOrder.take_end {b : Crossing} (h : InOrder home s owed) (hb : b ∈ owed)
    (ha : s.actsAt b = true) (hz : b.point = .zoneEnd) :
    InOrder home (s.cross b).1 (owedAfter owed b (s.cross b)) := by
  have track := h.track.take hb ha
  have layout := activeLayout_of_still (cross_still s b)
  have pool := track.lawful.booked.pool
  obtain ⟨i, hi⟩ := Option.isSome_iff_exists.1
    (findItem_isSome.2 (h.owing.present b hb (by rw [hz]; nofun)))
  have crossed : s.cross b = s.leaveZone b.tag i.zone := by simp only [State.cross, hz, hi]
  obtain ⟨hm, ht⟩ := findItem_eq_some hi
  obtain ⟨x, hx⟩ := mem_lineItems.1 hm
  obtain rfl := h.claimed.pool.zone x i hx
  have stood : (b.tag, s.place i.zone i) ∈ s.spots i.zone := mem_spots.2 ⟨i, hx, ht, rfl⟩
  obtain ⟨at_home, at_end⟩ := h.owing.ends b hb hz _ _ stood
  rw [at_home] at crossed
  rw [at_end, at_home] at stood
  rcases leaveZone_line h.track.lawful (z := home) hi h.track.layout.2.1 with
    ⟨gone, nothing⟩ | ⟨y, p, clamped, hy, hc, spots, claims, more⟩
  · rw [← crossed] at gone nothing
    have absent : (s.cross b).1.findItem b.tag = none := findItem_eq_none.2 gone.not_mem
    have from_owed (c : Crossing) (hc : c ∈ owedAfter owed b (s.cross b)) :
        c ∈ owed ∧ c.tag ≠ b.tag := by
      rcases mem_owedAfter.1 hc with ⟨hm, -, hn⟩ | ⟨hm, -⟩
      · rw [absent] at hn
        exact ⟨hm, hn.resolve_left nofun⟩
      · rw [nothing] at hm
        cases hm
    refine ⟨track, h.claimed.gone pool gone layout fun c hc hn =>
      mem_owedAfter_of hc (fun he => hn (he ▸ rfl)) (.inr hn),
      h.owing.thin (fun c hc => (from_owed c hc).1) layout (fun c hc hp => ?_)
        fun _ _ z _ hx => (gone.sublist z).subset hx⟩
    obtain ⟨hm, ne⟩ := from_owed c hc
    rw [lineTags_without gone.spots]
    exact List.mem_filter.2 ⟨h.owing.present c hm hp, bne_iff_ne.2 ne⟩
  · rw [← crossed] at spots claims more
    have passage : Passage home s owed b y p := by
      refine ⟨h, hb, hz, stood, ⟨spots, ⟨_, stood, fun x hx => ?_⟩, (zoneAfter_eq_some.1 hy).1⟩, claims, more⟩
      exact (h.track.tracked.below home x hx).elim Nat.le_of_lt fun h => le_of_eq h.1
    exact ⟨track, passage.claimed track, passage.owing⟩

/-- R6, R7: all that a happening brings about keeps the order of the claim lists. -/
theorem InOrder.takeAll (h : InOrder home s owed)
    (one : owed.countP (fun c => c.point = .zoneEnd) ≤ 1) : InOrder home (s.takeAll owed) [] := by
  refine takeAll_induction (P := InOrder home) (fun k h => h.free k) (fun h idle => h.skip idle)
    (fun {s owed b} h hb _ ha => ?_) h one
  by_cases hz : b.point = .zoneEnd
  · exact h.take_end hb ha hz
  by_cases hv : b.point = .overlength
  · exact h.take_long hb ha hv
  · exact h.take_point hb ha hz hv

end

end Sys2Proof.Machine
end

section
/-! PROOFS. Pulses, resynchronisations and the other happenings keep the order of the claim lists, and the
statement that follows, `StepKeepsClaimOrder` (R86, R87). -/

namespace Sys2Proof.Machine

set_option Elab.async false

section
variable {s t : State}

/-- Items that move along their lists without changing order keep the line order. -/
theorem leads_of_tags (before : ∀ z, (s.spots z).Pairwise fun a b => b.2 < a.2)
    (after : ∀ z, (t.spots z).Pairwise fun a b => b.2 < a.2)
    (tags : ∀ z, (t.spots z).map Prod.fst = (s.spots z).map Prod.fst) {u v : Nat} (h : s.leads u v) :
    t.leads u v := by
  have stood {x q : Nat} {z : ZoneId} (hx : (x, q) ∈ t.spots z) :
      ∃ (k : Nat) (hk : k < (s.spots z).length) (hk' : k < (t.spots z).length),
        (x, (s.spots z)[k].2) ∈ s.spots z ∧ (t.spots z)[k].2 = q := by
    obtain ⟨k, hk, he⟩ := List.getElem_of_mem hx
    have length : (t.spots z).length = (s.spots z).length := by simpa using congrArg List.length (tags z)
    have same : (s.spots z)[k].1 = x := by
      have := List.getElem_of_eq (tags z) (i := k) (by simpa using hk)
      rw [List.getElem_map, List.getElem_map, he] at this
      exact this.symm
    refine ⟨k, length ▸ hk, hk, ?_, by rw [he]⟩
    rw [← same]
    exact List.getElem_mem _
  intro z p y q hp hq
  obtain ⟨a, ha, ha', hu, rfl⟩ := stood hp
  obtain ⟨b, hb, hb', hv, rfl⟩ := stood hq
  rcases h z _ y _ hu hv with lt | ⟨rfl, lt⟩
  · exact .inl lt
  · refine .inr ⟨rfl, ?_⟩
    have order := List.pairwise_iff_getElem.1 (before z)
    rcases Nat.lt_trichotomy a b with hab | rfl | hab
    · exact List.pairwise_iff_getElem.1 (after z) a b ha' hb' hab
    · exact absurd lt (lt_irrefl _)
    · exact absurd (order b a hb ha hab) (lt_asymm lt)

theorem lineTags_of_tags (tags : ∀ z, (t.spots z).map Prod.fst = (s.spots z).map Prod.fst) :
    t.lineTags = s.lineTags := by
  simp only [lineTags_eq, List.map_append, tags]

/-- Items that move along their lists without changing order keep the claims in order, as long as each claim
that comes to its trigger point owes it. -/
theorem Claimed.moved {owed : List Crossing} (h : Claimed s []) (pool : PoolLaws t)
    (falls : ∀ z, (t.spots z).Pairwise fun a b => b.2 < a.2)
    (tags : ∀ z, (t.spots z).map Prod.fst = (s.spots z).map Prod.fst) (claims : t.claims = s.claims)
    (upstream : ∀ (d : DiverterId) (z : ZoneId), ∀ x ∈ t.spots z, x.1 ∈ s.claims[d] →
      Upstream t.activeLayout d z x.2 ∨ ∃ c ∈ owed, c.tag = x.1 ∧ c.point = .trigger d) :
    Claimed t owed := by
  refine ⟨pool, falls, fun d => ?_, fun d x hx => ?_, fun d z x hx hm => ?_⟩
  · rw [claims]
    exact (h.order d).imp fun hl => leads_of_tags h.falls falls tags hl
  · rw [lineTags_of_tags tags]
    rw [claims] at hx
    exact h.inLine d x hx
  · rw [claims] at hm
    exact upstream d z x hx hm

theorem Claimed.stands (h : Claimed s []) {d : DiverterId} {z : ZoneId} {x p : Nat} (hx : (x, p) ∈ s.spots z)
    (hm : x ∈ s.claims[d]) : Upstream s.activeLayout d z p :=
  (h.upstream d z (x, p) hx hm).resolve_right fun ⟨_, hc, _⟩ => nomatch hc

/-! ### Pulses -/

theorem trigger_of_pulseOwed {z : ZoneId} {c : Crossing} {d : DiverterId} (h : c ∈ s.pulseOwed z)
    (hd : c.point = .trigger d) : ∃ i ∈ s.zones[z].track, c.tag = i.tag ∧
      ∃ v ∈ s.activeLayout.diverters[d], v.zone = z ∧ s.position i + v.lead = v.firePosition := by
  rcases mem_pulseOwed h with ⟨i, -, -, rfl⟩ | ⟨i, hi, hc⟩ | rfl
  · cases hd
  · refine ⟨i, hi, (pointsIn_tag hc).1, ?_⟩
    rcases List.mem_append.1 hc with hc | hc
    · obtain ⟨e, v, hv, hz, low, high, rfl⟩ := triggersIn_points hc
      cases hd
      unfold DiverterDef.triggerPoint at low high
      exact ⟨v, hv, hz, by omega⟩
    · obtain ⟨e, v, -, -, -, -, -, rfl⟩ := windowEndsIn_points hc
      cases hd
  · cases hd

theorem pulsed_owing (hw : Lawful s) (hf : ∀ z, (s.spots z).Pairwise fun a b => b.2 < a.2) (z : ZoneId) :
    Owing s (s.pulseOwed z) z := by
  have pool := hw.booked.pool
  have spot {i : Item} (hi : i ∈ s.zones[z].track) : (i.tag, s.position i) ∈ s.spots z :=
    mem_spots.2 ⟨i, hi, rfl, pool.place_eq hi⟩
  have inLine {i : Item} (hi : i ∈ s.zones[z].track) : i.tag ∈ s.lineTags :=
    mem_lineTags_iff.2 ⟨z, _, spot hi⟩
  refine ⟨fun c hc hp => ?_, fun c hc d hd y p hx => ?_, fun b hb c hc d hbd hcd => ?_,
    fun c hc hp y p hx => ?_, fun b hb c hc hbp hcp => ?_, fun _ c hc d hd => ?_⟩
  · rcases mem_pulseOwed hc with ⟨i, hi, -, rfl⟩ | ⟨i, hi, hc⟩ | rfl
    · exact inLine (List.mem_of_head? hi)
    · rw [(pointsIn_tag hc).1]
      exact inLine hi
    · exact absurd rfl hp
  · obtain ⟨i, hi, tag, v, hv, hz, at_⟩ := trigger_of_pulseOwed hc hd
    rw [tag] at hx
    obtain ⟨rfl, rfl⟩ := pool.spot_unique hx (spot hi)
    rintro ⟨w, hw, up⟩
    obtain rfl := Option.mem_unique hv hw
    rw [hz] at up
    rcases up with up | ⟨-, up⟩
    · exact lt_irrefl _ up
    · omega
  · obtain ⟨i, hi, bi, v, hv, -, at_i⟩ := trigger_of_pulseOwed hb hbd
    obtain ⟨j, hj, cj, w, hw, -, at_j⟩ := trigger_of_pulseOwed hc hcd
    obtain rfl := Option.mem_unique hv hw
    have same := falls_apart (hf z) (spot hi) (spot hj) (show s.position i = s.position j by omega)
    rw [bi, cj]
    exact congrArg Prod.fst same
  · rcases mem_pulseOwed hc with ⟨i, hi, end_, rfl⟩ | ⟨i, -, hi⟩ | rfl
    · obtain ⟨rfl, rfl⟩ := pool.spot_unique hx (spot (List.mem_of_head? hi))
      exact ⟨rfl, end_⟩
    · exact absurd hp (pointsIn_tag hi).2.1
    · cases hp
  · have head {c : Crossing} (hc : c ∈ s.pulseOwed z) (hp : c.point = .zoneEnd) :
        ∃ i, s.zones[z].track.head? = some i ∧ c = ⟨i.tag, s.position i, .zoneEnd⟩ := by
      rcases mem_pulseOwed hc with ⟨i, hi, -, he⟩ | ⟨i, -, hi⟩ | rfl
      · exact ⟨i, hi, he⟩
      · exact absurd hp (pointsIn_tag hi).2.1
      · cases hp
    obtain ⟨i, hi, rfl⟩ := head hb hbp
    obtain ⟨j, hj, rfl⟩ := head hc hcp
    obtain rfl := Option.some.inj (hi.symm.trans hj)
    rfl
  · obtain ⟨i, -, -, v, hv, hz, -⟩ := trigger_of_pulseOwed hc hd
    exact ⟨v, hv, hz⟩

/-- R6, R98: an item that a pulse brings to the trigger point of the diverter that it claims owes that
point. -/
theorem pulsed_inOrder (hl : LayoutLaws s) (hw : Lawful s) (ht : Tracked s []) (h : Claimed s []) (z : ZoneId) :
    InOrder z (s.pulsed z) ((s.pulsed z).pulseOwed z) := by
  have track := pulsed_onTrack hl hw ht z
  have pool := track.lawful.booked.pool
  have spots := pulsed_spots ht hl.2.1 z
  refine ⟨track, h.moved pool track.tracked.falls (fun y => ?_) rfl fun d y x hx hm => ?_,
    pulsed_owing track.lawful track.tracked.falls z⟩
  · rw [spots]
    dsimp only
    split
    · rw [List.map_map]
      rfl
    · rfl
  · have moved := hx
    rw [spots] at moved
    dsimp only at moved
    split at moved
    · next hy =>
      subst hy
      obtain ⟨w, hw, rfl⟩ := List.mem_map.1 moved
      obtain ⟨v, hv, up⟩ := h.stands (p := w.2) hw hm
      by_cases hr : y = v.zone ∧ ¬ w.2 + 1 + v.lead < v.firePosition
      · obtain ⟨i, hi, tag, place⟩ := mem_spots.1 hx
        refine .inr ⟨⟨i.tag, v.triggerPoint.toNat, .trigger d⟩, ?_, tag, rfl⟩
        unfold State.pulseOwed State.pointsOwed
        refine List.mem_append_left _ (List.mem_append_right _ (List.mem_flatMap.2 ⟨i, hi, ?_⟩))
        rw [pool.place_eq hi] at place
        rw [place]
        have at_ : w.2 + 1 + v.lead = v.firePosition := by
          rcases up with up | ⟨-, up⟩
          · exact absurd hr.1 (ne_of_lt up)
          · omega
        obtain ⟨rfl, -⟩ := hr
        refine trigger_mem_pointsIn hv i.tag ?_ ?_ <;> unfold DiverterDef.triggerPoint <;>
          dsimp only <;> omega
      · refine .inl ⟨v, hv, ?_⟩
        rcases up with up | ⟨rfl, -⟩
        · exact .inl up
        · exact .inr ⟨rfl, not_not.1 fun hn => hr ⟨rfl, hn⟩⟩
    · exact .inl (h.stands moved hm)

theorem pulse_claimed (hl : LayoutLaws s) (hw : Lawful s) (ht : Tracked s []) (h : Claimed s []) (z : ZoneId) :
    Claimed (s.pulse z) [] := by
  rw [pulse_eq]
  split
  · exact ((pulsed_inOrder hl hw ht h z).takeAll (zoneEndOwed_count _ z)).claimed
  · next hc => exact h.same (raiseCount_same s z) (raiseCount_staysPut hl ht hc).spots rfl

/-! ### Resynchronisations -/

/-- R69: a matched item keeps its place in line, and owes each trigger point that it is carried past. -/
theorem matchItem_inOrder (hl : LayoutLaws s) (hw : Lawful s) (ht : Tracked s []) (h : Claimed s [])
    {e : EyeId} {d : EyeDef} (hd : s.activeLayout.eyes[e] = some d) {i : Item}
    (hi : s.candidate e d = some i) :
    InOrder d.zone (s.matchItem e i (s.resyncPosition i d.position))
      (s.resyncPoints i (s.resyncPosition i d.position)) := by
  have track := matchItem_onTrack hl hw ht hd hi
  have pool := hw.booked.pool
  have pool' := track.lawful.booked.pool
  obtain ⟨front, back, split, -, -, short⟩ := resync_place hl hw ht hd hi
  have mem : i ∈ s.zones[d.zone].track := by rw [split]; simp
  have zone : i.zone = d.zone := pool.zone d.zone i mem
  have narrow := zoneLength_le hl.2.1 d.zone
  have spots := matchItem_spots pool split e (p := s.resyncPosition i d.position) (by omega)
  have stood : (i.tag, s.position i) ∈ s.spots d.zone := mem_spots.2 ⟨i, mem, rfl, pool.place_eq mem⟩
  have points {c : Crossing} (hc : c ∈ s.resyncPoints i (s.resyncPosition i d.position)) :
      c ∈ s.activeLayout.pointsIn i.tag d.zone (s.position i) (s.resyncPosition i d.position) := by
    rw [← zone]
    exact hc
  generalize s.resyncPosition i d.position = p at track pool' short spots points ⊢
  have placed : (i.tag, p) ∈ (s.matchItem e i p).spots d.zone := by
    rw [spots]
    simp
  have tags (y : ZoneId) : ((s.matchItem e i p).spots y).map Prod.fst = (s.spots y).map Prod.fst := by
    rw [spots]
    dsimp only
    split_ifs with hy
    · subst hy
      unfold State.spots
      rw [split]
      simp
    · rfl
  have others {y : ZoneId} {x : Nat × Nat} (hx : x ∈ (s.matchItem e i p).spots y) (hn : x.1 ≠ i.tag) :
      x ∈ s.spots y := by
    rw [spots] at hx
    dsimp only at hx
    split_ifs at hx with hy
    · subst hy
      unfold State.spots
      rw [split, List.map_append, List.map_cons]
      rcases List.mem_append.1 hx with hx | hx
      · exact List.mem_append_left _ hx
      · rcases List.mem_cons.1 hx with rfl | hx
        exacts [absurd rfl hn, List.mem_append_right _ (List.mem_cons_of_mem _ hx)]
    · exact hx
  have tag {c : Crossing} (hc : c ∈ s.resyncPoints i p) : c.tag = i.tag := (pointsIn_tag hc).1
  have none {c : Crossing} (hc : c ∈ s.resyncPoints i p) : c.point ≠ .zoneEnd := (pointsIn_tag hc).2.1
  refine ⟨track, h.moved pool' track.tracked.falls tags rfl fun v y x hx hm => ?_,
    fun c hc _ => ?_, fun c hc v hv y q hx => ?_, fun b hb c hc _ _ _ => (tag hb).trans (tag hc).symm,
    fun c hc hp => absurd hp (none hc), fun c hc _ _ hp => absurd hp (none hc),
    fun ⟨c, hc, hp⟩ => absurd hp (none hc)⟩
  · by_cases he : x.1 = i.tag
    · obtain ⟨x, q⟩ := x
      dsimp only at he hm ⊢
      subst he
      obtain ⟨rfl, rfl⟩ := pool'.spot_unique hx placed
      obtain ⟨w, hw, up⟩ := h.stands stood hm
      by_cases hr : d.zone = w.zone ∧ ¬ q + w.lead < w.firePosition
      · refine .inr ⟨⟨i.tag, w.triggerPoint.toNat, .trigger v⟩, ?_, rfl, rfl⟩
        obtain ⟨hz, hr⟩ := hr
        have low : s.position i + w.lead < w.firePosition := by
          rcases up with up | ⟨-, up⟩
          exacts [absurd hz (ne_of_lt up), up]
        unfold State.resyncPoints
        rw [zone, hz]
        refine trigger_mem_pointsIn hw i.tag ?_ ?_ <;> unfold DiverterDef.triggerPoint <;> omega
      · refine .inl ⟨w, hw, ?_⟩
        rcases up with up | ⟨hz, -⟩
        · exact .inl up
        · exact .inr ⟨hz, not_not.1 fun hn => hr ⟨hz, hn⟩⟩
    · exact .inl (h.stands (others hx he) hm)
  · rw [tag hc]
    exact mem_lineTags_iff.2 ⟨d.zone, p, placed⟩
  · rw [tag hc] at hx
    obtain ⟨rfl, rfl⟩ := pool'.spot_unique hx placed
    rintro ⟨w, hw, up⟩
    rcases List.mem_append.1 (points hc) with hc | hc
    · obtain ⟨f, w', hw', hz, -, reach, rfl⟩ := triggersIn_points hc
      cases hv
      obtain rfl := Option.mem_unique hw' hw
      unfold DiverterDef.triggerPoint at reach
      rw [hz] at up
      rcases up with up | ⟨-, up⟩
      · exact lt_irrefl _ up
      · omega
    · obtain ⟨f, w', -, -, -, -, -, rfl⟩ := windowEndsIn_points hc
      cases hv

theorem matchEdge_claimed (hl : LayoutLaws s) (hw : Lawful s) (ht : Tracked s []) (h : Claimed s [])
    {e : EyeId} {d : EyeDef} (hd : s.activeLayout.eyes[e] = some d) : Claimed (s.matchEdge e d) [] := by
  unfold State.matchEdge
  split
  · exact (h.post _).same (count_same _ _) rfl rfl
  · next i hi => exact ((matchItem_inOrder hl hw ht h hd hi).takeAll (resyncPoints_count s i _)).claimed

theorem endSpan_claimed (hl : LayoutLaws s) (hw : Lawful s) (ht : Tracked s []) (h : Claimed s []) :
    Claimed s.endSpan [] := by
  have falls := (endSpan_tracked hl hw ht).falls
  have idle : Claimed { s with span := .idle, spanCount := 0 } [] := h.same (.of_zones rfl rfl) rfl rfl
  have lawful : Lawful { s with span := .idle, spanCount := 0 } := hw.same (.of_zones rfl rfl)
  unfold State.endSpan at falls ⊢
  dsimp only at falls ⊢
  split_ifs at falls ⊢ with hm
  · exact idle.same (count_same _ _) rfl rfl
  · have long : s.spanCount ≤ s.activeLayout.line.maxLength := (ht.span hm).resolve_right nofun
    exact induct_claimed (s := { s with span := .idle, spanCount := 0 }) hl lawful idle
      (Nat.le_succ_of_le long) falls
  · exact idle

theorem beginSpan_claimed (h : Claimed s []) : Claimed s.beginSpan [] := by
  unfold State.beginSpan
  split
  exacts [h.same (.of_zones rfl rfl) rfl rfl, h]

theorem blockedEdge_claimed (hl : LayoutLaws s) (hw : Lawful s) (ht : Tracked s []) (h : Claimed s [])
    (e : EyeId) : Claimed (s.blockedEdge e) [] := by
  have read : Claimed (s.setEyeBlocked e true) [] := h.same (.of_zones rfl rfl) rfl rfl
  have items (x : EyeState) {d : EyeDef} (hd : s.activeLayout.eyes[e] = some d) :
      Claimed (((s.setEyeBlocked e true).setEye e x).blockedAtItems e d) [] := by
    have set : Claimed ((s.setEyeBlocked e true).setEye e x) [] := h.same (edge_same s e true x) rfl rfl
    unfold State.blockedAtItems
    split
    · exact beginSpan_claimed set
    · exact matchEdge_claimed (s := (s.setEyeBlocked e true).setEye e x) (layoutLaws_of_governed hl rfl)
        (hw.same (edge_same s e true x)) (ht.of_eq rfl rfl rfl) set hd
  unfold State.blockedEdge
  dsimp only
  split
  · next hd _ => exact items _ hd
  · next hd _ => exact items _ hd
  · split
    exacts [beginSpan_claimed read, read]
  · exact read

theorem unblockedEdge_claimed (hl : LayoutLaws s) (hw : Lawful s) (ht : Tracked s []) (h : Claimed s [])
    (e : EyeId) : Claimed (s.unblockedEdge e) [] := by
  have items {t : State} (hl : LayoutLaws t) (hw : Lawful t) (ht : Tracked t []) (h : Claimed t [])
      (d : EyeDef) : Claimed (t.unblockedAtItems d) [] := by
    unfold State.unblockedAtItems
    split
    exacts [endSpan_claimed hl hw ht h, h]
  have read : Claimed (s.setEyeBlocked e false) [] := h.same (.of_zones rfl rfl) rfl rfl
  have set (x : EyeState) (d : EyeDef) :
      Claimed (((s.setEyeBlocked e false).setEye e x).unblockedAtItems d) [] :=
    items (t := (s.setEyeBlocked e false).setEye e x) (layoutLaws_of_governed hl rfl)
      (hw.same (edge_same s e false x)) (ht.of_eq rfl rfl rfl) (h.same (edge_same s e false x) rfl rfl) d
  unfold State.unblockedEdge
  dsimp only
  split
  · exact set _ _
  · exact set _ _
  · exact items (t := s.setEyeBlocked e false) (layoutLaws_of_governed hl rfl)
      (hw.same (.of_zones rfl rfl)) (ht.of_eq rfl rfl rfl) read _
  · exact read

/-! ### Diverters -/

/-- R117: an item returned from a stroke slot claims afresh. -/
theorem returnItem_claimed (h : Claimed s []) (d : DiverterId) (cause : MissCause) :
    Claimed (s.returnItem d cause) [] := by
  rcases returnItem_cases d cause s with ⟨-, he⟩ | ⟨tag, -, he⟩ <;> rw [he]
  · exact h
  · refine Claimed.post (Claimed.reassign ?_ tag (some d)) _
    unfold State.slotEmptied
    exact (h.modifyDiverter d _).updateItem tag (fun _ => ⟨rfl, rfl⟩) fun _ => rfl

theorem reevaluate_claimed (h : Claimed s []) (d : DiverterId) : Claimed (s.reevaluate d) [] :=
  List.foldlRecOn (motive := fun t : State => Claimed t []) s.claims[d] _ h
    fun _ ht tag _ => (ht.reassign tag (some d)).post _

theorem enterFault_claimed (h : Claimed s []) (d : DiverterId) (cause : DiverterCause) :
    Claimed (s.enterFault d cause) [] := by
  have returned := returnItem_claimed ((h.modifyDiverter d fun u =>
    { u with state := .fault, timer := none, testMark := false }).post (.diverterChange d .fault cause))
    d .strokeFault
  unfold State.enterFault
  dsimp only
  split
  exacts [reevaluate_claimed returned d, returned]

theorem disableDiverter_claimed (h : Claimed s []) (d : DiverterId) : Claimed (s.disableDiverter d) [] := by
  have returned := returnItem_claimed (h.modifyDiverter d fun u =>
    { u with state := .disabled, timer := none, testMark := false }) d .disabled
  unfold State.disableDiverter
  dsimp only
  split_ifs
  exacts [h, reevaluate_claimed returned d, returned]

theorem enterRetracting_claimed (h : Claimed s []) (d : DiverterId) : Claimed (s.enterRetracting d) [] := by
  have entered := h.modifyDiverter d fun u =>
    { u with state := .retracting, timer := s.diverterTimer d DiverterDef.returnTimeout }
  unfold State.enterRetracting
  dsimp only
  split
  · unfold State.retracted
    dsimp only
    split
    exacts [(entered.modifyDiverter d _).post _, entered.modifyDiverter d _]
  · exact entered

theorem withdrawStrokes_claimed (h : Claimed s []) : Claimed s.withdrawStrokes [] := by
  unfold State.withdrawStrokes
  refine List.foldlRecOn (motive := fun t : State => Claimed t []) _ _
    (List.foldlRecOn (motive := fun t : State => Claimed t []) _ _ h fun t ht d _ => ?_)
    fun t ht d _ => returnItem_claimed ht d .estop
  unfold State.withdrawStroke
  split
  · refine enterRetracting_claimed ?_ d
    unfold State.readHome
    split
    exacts [ht.same (.of_zones rfl rfl) rfl rfl, ht]
  · exact ht

end

/-! ### Happenings and requests -/

theorem fieldEffect_claimed {s : State} (hl : LayoutLaws s) (hw : Lawful s) (ht : Tracked s [])
    (h : Claimed s []) {c : Instr} {effect : State → State} (hf : fieldEffect c = some effect)
    (pool : PoolLaws (effect s)) : Claimed (effect s) [] := by
  cases c with
  | encoderPulse z => cases hf; exact pulse_claimed hl hw ht h z
  | estopChangeAtZones active =>
    cases hf
    refine h.kept pool ⟨spots_of_zones (fun z => ?_) fun z => ?_, rfl⟩ rfl <;> simp [State.estopAtZones]
  | estopChangeAtDiverters active =>
    cases hf
    have read : Claimed { s with inputs := { s.inputs with estop := active } } [] :=
      h.same (.of_zones rfl rfl) rfl rfl
    unfold State.estopAtDiverters
    dsimp only
    split
    exacts [withdrawStrokes_claimed read, read]
  | blockedEdge e => cases hf; exact blockedEdge_claimed hl hw ht h e
  | unblockedEdge e => cases hf; exact unblockedEdge_claimed hl hw ht h e
  | homeActiveEdge d =>
    cases hf
    have read : Claimed (s.setHome d true) [] := h.same (.of_zones rfl rfl) rfl rfl
    unfold State.homeActive
    dsimp only
    split
    · exact (read.modifyDiverter d _).post _
    · unfold State.retracted
      dsimp only
      split
      exacts [(read.modifyDiverter d _).post _, read.modifyDiverter d _]
    · exact enterFault_claimed read d _
    all_goals exact read
  | homeInactiveEdge d =>
    cases hf
    have read : Claimed (s.setHome d false) [] := h.same (.of_zones rfl rfl) rfl rfl
    unfold State.homeInactive at pool ⊢
    dsimp only at pool ⊢
    split at pool
    · exact enterFault_claimed read d _
    · have layout := activeLayout_of_still (completeStroke_still (s.setHome d false) d)
      rcases completeStroke_line (s.setHome d false) d with put | ⟨tag, gone⟩
      exacts [read.kept pool put layout, read.gone pool gone layout fun _ hc _ => hc]
    all_goals exact read
  | jamTimerExpiry e =>
    cases hf
    refine h.same (jamEye_same s e) ?_ ?_
    · unfold State.jamEye
      split
      · rfl
      · exact (modifyReasons_staysPut _ _ _).spots.trans (spots_of_zones_eq rfl)
    · unfold State.jamEye
      split <;> rfl
  | strokeTimerExpiry d => cases hf; exact enterFault_claimed h d _
  | dwellTimerExpiry d => cases hf; exact enterRetracting_claimed h d
  | returnTimerExpiry d => cases hf; exact enterFault_claimed h d _
  | _ => cases hf

/-- With no item on the line there is no claim. -/
theorem claimed_of_empty {s : State} (hw : Lawful s) (h : ∀ z, s.spots z = []) : Claimed s [] := by
  have none (d : DiverterId) : s.claims[d] = [] := by
    refine List.eq_nil_iff_forall_not_mem.2 fun x hx => ?_
    obtain ⟨z, p, hp⟩ := mem_lineTags_iff.1 ((hw.booked.claims.claimed d x nofun).1 hx).mem_lineTags
    rw [h z] at hp
    cases hp
  refine ⟨hw.booked.pool, fun z => ?_, fun d => ?_, fun d => ?_, fun d z => ?_⟩
  · rw [h z]; exact .nil
  · rw [none d]; exact .nil
  · rw [none d]; nofun
  · rw [h z]; nofun

theorem Requested.claimed {s t : State} {kind : Byte} (h : Requested s kind t) (hs : Claimed s [])
    (hw : Lawful t) : Claimed t [] := by
  have pool := hw.booked.pool
  rcases h.line with ⟨put, layout, -⟩ | ⟨empty, -⟩ | ⟨i, hf, rfl⟩ | ⟨i, c, -, -, rfl⟩ | ⟨d, rfl⟩
  · exact hs.kept pool put layout
  · exact claimed_of_empty hw empty
  · exact hs.gone pool (release_gone s i.tag) rfl fun _ hc _ => hc
  · exact (hs.updateItem i.tag (f := fun j => { j with destination := some c }) (fun _ => ⟨rfl, rfl⟩)
      fun _ => rfl).reassign i.tag none
  · exact disableDiverter_claimed hs d

/-! ### Steps -/

theorem sameRecords_of_blocks {s t : State} (h : t.blocks = s.blocks) : SameRecords s t :=
  ⟨(congrArg State.register h : t.blocks.register = s.blocks.register), fun z => (blocks_zone h z).2⟩

theorem claimed_of_blocks {s t : State} (hs : Claimed s []) (h : t.blocks = s.blocks) : Claimed t [] :=
  hs.same (sameRecords_of_blocks h)
    (spots_of_zones (fun z => (blocks_zone h z).1) fun z => (blocks_zone h z).2)
    (congrArg State.activeLayout h : t.blocks.activeLayout = s.blocks.activeLayout)

theorem exec_claimed {c : Instr} {s t : State} (hl : LayoutLaws s) (hw : Lawful s) (ht : Tracked s [])
    (hs : Claimed s []) (h : exec c s = .next t) : Claimed t [] := by
  have lawful := exec_lawful hw h
  have fresh (hz : ∀ z : ZoneId, t.zones[z].track = []) : Claimed t [] := by
    refine claimed_of_empty lawful fun z => ?_
    unfold State.spots
    rw [hz z]
    rfl
  cases hc : IsReset c with
  | true =>
    cases c with
    | powerOn i =>
      cases h
      exact fresh fun z => by simp [State.begin, ZoneUnit.blank]
    | resetinActive =>
      cases h
      exact fresh fun z => by simp [State.void, State.reset, ZoneUnit.blank]
    | resetinInactive i =>
      rcases resetinInactive_cases h with ⟨-, rfl⟩ | ⟨-, rfl⟩
      exacts [fresh fun z => by simp [State.begin, ZoneUnit.blank], hs]
    | _ => cases hc
  | false =>
    rcases exec_cases hc h with he | ⟨effect, hf, -, -, he⟩ | ⟨kind, u, v, -, hu, hv, he⟩
    · exact claimed_of_blocks hs he
    · have pool := (lawful.same (sameRecords_of_blocks he.symm)).booked.pool
      exact claimed_of_blocks (fieldEffect_claimed hl hw ht hs hf pool) he
    · exact claimed_of_blocks (hv.claimed (claimed_of_blocks hs hu)
        (lawful.same (sameRecords_of_blocks he.symm))) he

/-- Settles O44: within a pulse a claim may come to its trigger point only as long as the pulse owes that
crossing, which takes the item out of the claim list; an assignment names a diverter only from upstream and
puts the claim in at its item's place in line. -/
theorem stepKeepsClaimOrder : Obligations.StepKeepsClaimOrder := by
  intro s t hl hr ht hc h
  have lawful := (recordLaws_iff s).1 hr
  have tracked := (trackLaws_iff lawful.booked.pool).1 ht
  have after := (recordLaws_iff t).1 (stepKeepsRecordLaws s t hr h)
  have falls := ((trackLaws_iff after.booked.pool).1 (stepKeepsTrackOrder s t hl hr ht h)).falls
  rw [claimOrder_iff after falls]
  rw [claimOrder_iff lawful tracked.falls] at hc
  rcases step_cases h with ⟨-, -, rfl⟩ | ⟨c, rest, n, he⟩
  · have same := tick_same s
    refine hc.same same ?_ ?_ <;> unfold State.tick <;> split
    exacts [rfl, spots_of_zones_eq rfl, rfl, rfl]
  · exact exec_claimed (s := { s with pending := rest, freeIndex := n }) hl (lawful.same (.of_zones rfl rfl))
      (tracked.of_eq rfl rfl rfl) (hc.same (.of_zones rfl rfl) rfl rfl) he

end Sys2Proof.Machine
end

section
/-! PROOFS. Reports posted, and free choices counted, beside what an operation does to the line (R6, R166,
R167): the operations of the item pool and of the sensor points read neither. -/

namespace Sys2Proof.Machine

set_option Elab.async false

/-- The state with reports posted and the count of free choices put to `k`. -/
def State.noted (rs : List Report) (k : Nat) (s : State) : State :=
  { s.postAll rs with freeIndex := k }

/-- What `f` does to the line it does whatever has been posted and chosen. -/
def Unheard (f : State → State) : Prop :=
  ∀ (s : State) (rs : List Report) (k : Nat), f (s.noted rs k) = (f s).noted rs k

/-- On the line of the state `s`, the operation `f` leaves that of `w` and posts the reports `rs`. -/
def Makes (f : State → State) (s w : State) (rs : List Report) : Prop :=
  ∀ (qs : List Report) (k : Nat), f (s.noted qs k) = w.noted (qs ++ rs) k

section
variable {f g : State → State} {s t w : State} {rs qs : List Report} {k : Nat}

theorem noted_frame (s : State) (rs : List Report) (k : Nat) : s.noted rs k =
    { s with reports := (s.postAll rs).reports, counters := (s.postAll rs).counters, freeIndex := k } := by
  unfold State.noted
  rw [postAll_frame]

theorem noted_noted (s : State) (rs qs : List Report) (j k : Nat) :
    (s.noted rs j).noted qs k = s.noted (rs ++ qs) k := by
  unfold State.noted
  rw [postAll_append, postAll_congr (s := s.postAll rs) (t := { s.postAll rs with freeIndex := j }) rfl rfl,
    postAll_frame qs (s.postAll rs)]

/-! ### What is read beside the notes -/

theorem noted_findItem (s : State) (rs : List Report) (k tag : Nat) :
    (s.noted rs k).findItem tag = s.findItem tag := by
  rw [noted_frame]
  rfl

theorem noted_lineItems (s : State) (rs : List Report) (k : Nat) :
    (s.noted rs k).lineItems = s.lineItems := by
  rw [noted_frame]
  rfl

theorem noted_actsAt (s : State) (rs : List Report) (k : Nat) (c : Crossing) :
    (s.noted rs k).actsAt c = s.actsAt c := by
  rw [noted_frame]
  rfl

theorem noted_zones (s : State) (rs : List Report) (k : Nat) : (s.noted rs k).zones = s.zones := by
  rw [noted_frame]

theorem noted_activeLayout (s : State) (rs : List Report) (k : Nat) :
    (s.noted rs k).activeLayout = s.activeLayout := by
  rw [noted_frame]

/-! ### Operations -/

theorem unheard_of (post : ∀ (s : State) (r : Report), f (s.post r) = (f s).post r)
    (free : ∀ (s : State) (k : Nat), f { s with freeIndex := k } = { f s with freeIndex := k }) :
    Unheard f := by
  intro s rs k
  have posted (rs : List Report) : f (s.postAll rs) = (f s).postAll rs := by
    induction rs generalizing s with
    | nil => rfl
    | cons r rs ih => rw [postAll_cons, postAll_cons, ← post, ih]
  unfold State.noted
  rw [free, posted]

theorem Unheard.makes (h : Unheard f) (s : State) : Makes f s (f s) [] :=
  fun qs k => by rw [h, List.append_nil]

theorem Makes.of_eq (h : Makes f s w rs) (he : w = t) : Makes f s t rs := he ▸ h

theorem Makes.congr (h : Makes g s w rs) (he : ∀ qs k, f (s.noted qs k) = g (s.noted qs k)) :
    Makes f s w rs := fun qs k => (he qs k).trans (h qs k)

theorem Makes.andThen (h : Makes f s t rs) (k : Makes g t w qs) :
    Makes (fun u => g (f u)) s w (rs ++ qs) := fun ps n => by
  dsimp only
  rw [h ps n, k (ps ++ rs) n, List.append_assoc]

theorem post_makes (s : State) (r : Report) : Makes (State.post r) s s [r] := fun qs k => by
  unfold State.noted
  rw [postAll_append]
  rfl

theorem makes_refl (s : State) : Makes id s s [] := fun qs k => by rw [List.append_nil]; rfl

theorem updateItem_unheard (tag : Nat) (f : Item → Item) : Unheard (State.updateItem tag f) :=
  unheard_of (fun _ _ => rfl) fun _ _ => rfl

theorem removeItem_unheard (tag : Nat) : Unheard (State.removeItem tag) :=
  unheard_of (fun _ _ => rfl) fun _ _ => rfl

theorem release_unheard (tag : Nat) : Unheard (State.release tag) :=
  unheard_of (fun _ _ => rfl) fun _ _ => rfl

theorem appendItem_unheard (z : ZoneId) (p : Nat) (i : Item) : Unheard (State.appendItem z p i) :=
  unheard_of (fun _ _ => rfl) fun _ _ => rfl

theorem modifyDiverter_unheard (d : DiverterId) (f : Diverter → Diverter) :
    Unheard (State.modifyDiverter d f) :=
  unheard_of (fun _ _ => rfl) fun _ _ => rfl

theorem leaveClaim_unheard (tag : Nat) (d : DiverterId) : Unheard (State.leaveClaim tag d) :=
  unheard_of (fun _ _ => rfl) fun _ _ => rfl

theorem countLost_unheard : Unheard (State.count fun c => { c with lost := c.lost + 1 }) :=
  unheard_of (fun _ _ => rfl) fun _ _ => rfl

theorem countExited_unheard : Unheard (State.count fun c => { c with exited := c.exited + 1 }) :=
  unheard_of (fun _ _ => rfl) fun _ _ => rfl

theorem countInducted_unheard : Unheard (State.count fun c => { c with inducted := c.inducted + 1 }) :=
  unheard_of (fun _ _ => rfl) fun _ _ => rfl

/-- R87: the claim lists read where the items stand, and nothing of the notes. -/
theorem writeClaim_unheard (i : Item) (new : Option DiverterId) : Unheard (State.writeClaim i new) := by
  intro s rs k
  have lists : (s.noted rs k).claimLists i new = s.claimLists i new := by
    refine claimLists_congr ?_ rfl (fun x => ?_) new <;> rw [noted_frame]
    rfl
  have written := updateItem_unheard i.tag (fun j => { j with assigned := new }) s rs k
  unfold State.writeClaim
  rw [lists, written]
  unfold State.noted
  rw [postAll_congr (s := s.updateItem i.tag fun j => { j with assigned := new })
    (t := { s.updateItem i.tag (fun j => { j with assigned := new }) with claims := s.claimLists i new })
    rfl rfl, postAll_frame rs (s.updateItem i.tag fun j => { j with assigned := new })]

theorem noted_assignment (s : State) (rs : List Report) (k : Nat) (i : Item)
    (excluded : Option DiverterId) : (s.noted rs k).assignment i excluded = s.assignment i excluded := by
  refine assignment_congr ?_ ?_ ?_ excluded <;> rw [noted_frame]
  rfl

theorem noted_reassign (s : State) (rs : List Report) (k tag : Nat) (excluded : Option DiverterId) :
    (s.noted rs k).reassign tag excluded =
      ((s.reassign tag excluded).1.noted rs k, (s.reassign tag excluded).2) := by
  unfold State.reassign
  rw [noted_findItem]
  cases s.findItem tag with
  | none => rfl
  | some i =>
    dsimp only
    rw [noted_assignment, writeClaim_unheard]

theorem fired_unheard (d : DiverterId) (i : Item) : Unheard fun s => s.fired d i :=
  unheard_of (fun _ _ => rfl) fun _ _ => rfl

theorem fire_unheard (d : DiverterId) (i : Item) : Unheard (State.fire d i) := by
  intro s rs k
  have struck : (s.noted rs k).struckNeighbour d i = s.struckNeighbour d i := by
    rw [noted_frame]
    rfl
  have fired := fired_unheard d i s rs k
  dsimp only [State.fired] at fired
  unfold State.fire
  dsimp only
  rw [struck, fired]
  cases s.struckNeighbour d i with
  | none => rfl
  | some p => exact updateItem_unheard p.tag _ _ rs k

/-- R34, R35: a loss. -/
theorem lose_makes (s : State) (tag : Nat) (z : ZoneId) (e : Option EyeId) (cause : LostCause) :
    Makes (State.lose tag z e cause) s
      { s.without tag with counters := { s.counters with lost := s.counters.lost + 1 } }
      [.lost tag z e cause] :=
  (((post_makes s _).andThen (countLost_unheard.makes s)).andThen ((release_unheard tag).makes _)).of_eq (by
    rw [release_eq_without]
    rfl)

end

end Sys2Proof.Machine
end

section
/-! PROOFS. What becomes of an item at the end of a window and at a trigger point (R72, R73, R98, R110 to
R114). -/

namespace Sys2Proof.Machine

set_option Elab.async false

section
variable {s t : State} {z : ZoneId} {ahead behind : List Item} {i : Item} {tag : Nat}

/-! ### The end of a window -/

section
variable {e : EyeId}

theorem missEye_silent (hf : t.findItem tag = some i)
    (h : i.state = .diverting ∨ t.eyes[e].state = .disabled) :
    t.missEye tag e = t.updateItem tag (t.advancePast e) := by
  unfold State.missEye
  rw [hf]
  dsimp only
  exact if_pos (by simpa using h)

/-- R72: the record of an item that misses. -/
def State.missed (s : State) (e : EyeId) (i : Item) : Item :=
  { s.advancePast e i with missRun := i.missRun + 1 }

theorem missEye_missed (hf : t.findItem tag = some i)
    (h : ¬ (i.state = .diverting ∨ t.eyes[e].state = .disabled)) :
    t.missEye tag e =
      if i.flags.atRisk = true ∨ t.activeLayout.line.missLimit ≤ i.missRun + 1 then
        (t.updateItem tag (t.missed e)).lose tag i.zone (some e)
          (if i.flags.atRisk then .shadow else .misses)
      else t.updateItem tag (t.missed e) := by
  have missed : (fun j => { t.advancePast e j with missRun := j.missRun + 1 }) = t.missed e := rfl
  unfold State.missEye
  rw [hf, missed]
  dsimp only
  rw [if_neg (by simpa using h)]
  cases i.flags.atRisk <;> simp

theorem updateItem_without (s : State) (tag : Nat) {f : Item → Item} (hf : ∀ j, (f j).tag = j.tag) :
    (s.updateItem tag f).without tag = s.without tag := by
  have track (l : List Item) : ((l.map fun j => if j.tag = tag then f j else j).filter
      fun j => j.tag != tag) = l.filter fun j => j.tag != tag := by
    induction l with
    | nil => rfl
    | cons j l ih =>
      rw [List.map_cons]
      by_cases hj : j.tag = tag
      · rw [if_pos hj, List.filter_cons_of_neg (by simp [hf, hj]), List.filter_cons_of_neg (by simp [hj]), ih]
      · rw [if_neg hj, List.filter_cons_of_pos (by simp [hj]), List.filter_cons_of_pos (by simp [hj]), ih]
  have zones : ((s.updateItem tag f).without tag).zones = (s.without tag).zones := by
    refine Vector.ext fun k hk => ?_
    have zone := updateItem_zone s tag f ⟨k, hk⟩
    simp only [Fin.getElem_fin] at zone
    simp only [State.without, Vector.getElem_ofFn, Fin.getElem_fin, zone, track]
    rfl
  exact congrArg (fun zones => { s.without tag with zones := zones }) zones

/-- R72, R73: an item at the end of its next eye's window. -/
theorem missEye_makes (pool : PoolLaws s) (ht : s.zones[z].track = ahead ++ i :: behind)
    (he : i.nextEye = some e) :
    ∃ w rs, WindowMet s z ahead behind i e w rs ∧ Makes (State.missEye i.tag e) s w rs := by
  have found := pool.findItem_at ht
  have zone : i.zone = z := pool.zone z i (by rw [ht]; simp)
  have updated (f : Item → Item) := pool.updateItem_at ht f
  have reads (qs : List Report) (k : Nat) : (s.noted qs k).findItem i.tag = some i ∧
      (s.noted qs k).eyes[e] = s.eyes[e] ∧ (s.noted qs k).activeLayout = s.activeLayout ∧
      (s.noted qs k).advancePast e = s.advancePast e ∧ (s.noted qs k).missed e = s.missed e := by
    rw [noted_findItem, noted_frame]
    exact ⟨found, rfl, rfl, rfl, rfl⟩
  by_cases silent : i.state = .diverting ∨ s.eyes[e].state = .disabled
  · refine ⟨s.withTrack z (ahead ++ s.advancePast e i :: behind), [],
      ⟨fun hn => absurd he hn, fun _ _ => ⟨rfl, rfl⟩, fun _ hn => absurd silent hn,
        fun _ hn => absurd silent hn⟩, ?_⟩
    rw [← updated]
    refine ((updateItem_unheard i.tag (s.advancePast e)).makes s).congr fun qs k => ?_
    obtain ⟨found, eye, layout, past, -⟩ := reads qs k
    rw [missEye_silent found (by rw [eye]; exact silent), past]
  · have makes (qs : List Report) (k : Nat) : (s.noted qs k).missEye i.tag e =
        if i.flags.atRisk = true ∨ s.activeLayout.line.missLimit ≤ i.missRun + 1 then
          ((s.noted qs k).updateItem i.tag (s.missed e)).lose i.tag i.zone (some e)
            (if i.flags.atRisk then .shadow else .misses)
        else (s.noted qs k).updateItem i.tag (s.missed e) := by
      obtain ⟨found, eye, layout, -, missed⟩ := reads qs k
      rw [missEye_missed found (by rw [eye]; exact silent), layout, missed]
    by_cases lost : i.flags.atRisk = true ∨ s.activeLayout.line.missLimit ≤ i.missRun + 1
    · refine ⟨_, _, ⟨fun hn => absurd he hn, fun _ hs => absurd hs silent, fun _ _ hn => absurd lost hn,
        fun _ _ _ => ⟨rfl, rfl⟩⟩, ?_⟩
      have all := (((updateItem_unheard i.tag (s.missed e)).makes s).andThen
        (lose_makes _ i.tag z (some e) (if i.flags.atRisk then .shadow else .misses)))
      rw [updateItem_without s i.tag (f := s.missed e) fun _ => rfl] at all
      refine all.congr fun qs k => ?_
      rw [makes, if_pos lost, zone]
    · refine ⟨s.withTrack z (ahead ++ s.missed e i :: behind), [],
        ⟨fun hn => absurd he hn, fun _ hs => absurd hs silent, fun _ _ _ => ⟨rfl, rfl⟩,
          fun _ _ hl => absurd hl lost⟩, ?_⟩
      rw [← updated]
      refine ((updateItem_unheard i.tag (s.missed e)).makes s).congr fun qs k => ?_
      rw [makes, if_neg lost]

end

/-! ### A trigger point -/

theorem withTrack_withTrack (s : State) (z : ZoneId) (a b : List Item) :
    (s.withTrack z a).withTrack z b = s.withTrack z b := by
  have zones : ((s.withTrack z a).withTrack z b).zones = (s.withTrack z b).zones := by
    refine Vector.ext fun k hk => ?_
    have two := zone_withTrack (s.withTrack z a) z ⟨k, hk⟩ b
    have one := zone_withTrack s z ⟨k, hk⟩ a
    have direct := zone_withTrack s z ⟨k, hk⟩ b
    simp only [Fin.getElem_fin] at two one direct
    rw [two, one, direct]
    by_cases h : z = ⟨k, hk⟩ <;> simp [h]
  exact congrArg (fun zones => { s.withTrack z b with zones := zones }) zones

variable {d : DiverterId} {v : DiverterDef}

/-- R112 step 3: the predecessor as a fire leaves it. -/
def State.struckBy (s : State) (z : ZoneId) (v : DiverterDef) (j : Item) : Item :=
  if (s.place z j : Int) - j.length < (v.firePosition : Int) then j.markAtRisk else j

/-- R112: diverter `d` with a stroke begun for the item of a tag. -/
def State.extended (s : State) (d : DiverterId) (v : DiverterDef) (tag : Nat) : Vector Diverter 16 :=
  s.diverters.set d { s.diverters[d] with
    state := .extending, timer := some ⟨v.strokeTimeout, 0⟩, slot := some tag }

theorem fired_eq (pool : PoolLaws s) (ht : s.zones[z].track = ahead ++ i :: behind)
    (hv : s.activeLayout.diverters[d] = some v) : s.fired d i =
      { s.withTrack z (ahead ++ { i with state := .diverting } :: behind) with
        claims := s.claims.set d (s.claims[d].filter fun t => t != i.tag)
        diverters := s.extended d v i.tag } := by
  have timer : s.diverterTimer d DiverterDef.strokeTimeout = some ⟨v.strokeTimeout, 0⟩ := by
    unfold State.diverterTimer startTimer
    rw [hv]
    rfl
  have written := pool.updateItem_at ht fun j => { j with state := .diverting }
  have fired : s.fired d i =
      { s.updateItem i.tag fun j => { j with state := .diverting } with
        claims := s.claims.set d (s.claims[d].filter fun t => t != i.tag)
        diverters := s.diverters.set d { s.diverters[d] with
          state := .extending, timer := s.diverterTimer d DiverterDef.strokeTimeout
          slot := some i.tag } } := rfl
  rw [fired, written, timer]
  rfl

/-- R112: a fire, and the predecessor that the paddle may strike. -/
theorem fire_eq (pool : PoolLaws s) (ht : s.zones[z].track = ahead ++ i :: behind)
    (hv : s.activeLayout.diverters[d] = some v) : s.fire d i =
      { s.withTrack z (ahead.dropLast ++ ahead.getLast?.toList.map (s.struckBy z v) ++
          { i with state := .diverting } :: behind) with
        claims := s.claims.set d (s.claims[d].filter fun t => t != i.tag)
        diverters := s.extended d v i.tag } := by
  obtain ⟨front, back, -⟩ := pool.apart ht
  have zone : i.zone = z := pool.zone z i (by rw [ht]; simp)
  have here : s.zones[i.zone] = s.zones[z] := congrArg (fun z : ZoneId => s.zones[z]) zone
  have neighbour : s.struckNeighbour d i = ahead.getLast?.filter fun p =>
      decide ((s.position p : Int) - p.length < (v.firePosition : Int)) := by
    unfold State.struckNeighbour
    rw [here, ht, ahead_at front back, hv]
    rfl
  have fire : s.fire d i = match s.struckNeighbour d i with
      | none => s.fired d i
      | some p => (s.fired d i).updateItem p.tag Item.markAtRisk := by
    unfold State.fire
    cases s.struckNeighbour d i <;> rfl
  have fired := fired_eq pool ht hv
  have base : PoolLaws (s.fired d i) := fired_pool pool d i
  rw [fire, neighbour]
  rcases List.eq_nil_or_concat' ahead with rfl | ⟨init, p, rfl⟩
  · exact fired
  · have place : s.position p = s.place z p := (pool.place_eq (by rw [ht]; simp)).symm
    rw [List.getLast?_concat, List.dropLast_concat]
    simp only [Option.filter_some, place, decide_eq_true_eq, Option.toList_some, List.map_cons,
      List.map_nil]
    unfold State.struckBy
    by_cases strikes : (s.place z p : Int) - p.length < (v.firePosition : Int)
    · rw [if_pos strikes, if_pos strikes]
      have track : (s.fired d i).zones[z].track =
          init ++ p :: { i with state := .diverting } :: behind := by
        rw [fired]
        exact (zone_withTrack s z z _).symm ▸ by simp
      dsimp only
      rw [base.updateItem_at track, fired]
      have twice := withTrack_withTrack s z (init ++ [p] ++ { i with state := .diverting } :: behind)
        (init ++ p.markAtRisk :: { i with state := .diverting } :: behind)
      rw [List.append_assoc init [p.markAtRisk]]
      exact congrArg (fun u : State => { u with
        claims := s.claims.set d (s.claims[d].filter fun t => t != i.tag)
        diverters := s.extended d v i.tag }) twice
    · rw [if_neg strikes, if_neg strikes]
      exact fired

theorem updateItem_id (s : State) (tag : Nat) : s.updateItem tag id = s := by
  have zones : (s.updateItem tag id).zones = s.zones := by
    ext k hk
    all_goals simp [State.updateItem, State.mapZones]
  exact congrArg (fun zones => { s with zones := zones }) zones

/-- R113: what the cause of a miss makes of the record. -/
def missMark (cause : MissCause) : Item → Item := if cause = .busy then Item.markAtRisk else id

theorem missMark_same (cause : MissCause) (j : Item) : (missMark cause j).tag = j.tag ∧
    (missMark cause j).zone = j.zone ∧ (missMark cause j).base = j.base ∧
    (missMark cause j).destination = j.destination := by
  unfold missMark
  split <;> exact ⟨rfl, rfl, rfl, rfl⟩

theorem missDivert_eq (t : State) (d : DiverterId) (i : Item) (cause : MissCause) :
    t.missDivert d i cause = State.post
      (.missedDivert i.tag d cause
        (((t.updateItem i.tag (missMark cause)).leaveClaim i.tag d).reassign i.tag (some d)).2)
      (((t.updateItem i.tag (missMark cause)).leaveClaim i.tag d).reassign i.tag (some d)).1 := by
  have marked : (if cause = .busy then t.updateItem i.tag Item.markAtRisk else t) =
      t.updateItem i.tag (missMark cause) := by
    unfold missMark
    split
    exacts [rfl, (updateItem_id t i.tag).symm]
  unfold State.missDivert
  dsimp only
  rw [marked]

/-- R84, R85: an assignment of a record reads its destination and where it stands. -/
theorem assignment_record {s t : State} {i j : Item} (hl : t.activeLayout = s.activeLayout)
    (hd : t.diverters = s.diverters) (hz : j.zone = i.zone) (hp : t.position j = s.position i)
    (hc : j.destination = i.destination) (excluded : Option DiverterId) :
    t.assignment j excluded = s.assignment i excluded := by
  unfold State.assignment State.takes State.claimable
  rw [hl, hd, hz, hp, hc]

/-- R112 step 1: the claim lists once the item of a tag has left that of diverter `d`. -/
def State.claimsLeft (s : State) (d : DiverterId) (tag : Nat) : Vector (List Nat) 16 :=
  s.claims.set d (s.claims[d].filter fun t => t != tag)

/-- R113: the item of a miss is assigned afresh from where it stands. -/
theorem missDivert_makes (pool : PoolLaws s) (ht : s.zones[z].track = ahead ++ i :: behind)
    (d : DiverterId) (cause : MissCause) :
    ∃ w, w = { s.withTrack z (ahead ++
        { missMark cause i with assigned := s.assignment i (some d) } :: behind) with claims := w.claims } ∧
      ClaimsWith { s with claims := s.claimsLeft d i.tag } i (s.assignment i (some d)) w.claims ∧
      Makes (State.missDivert d i cause) s w [.missedDivert i.tag d cause (s.assignment i (some d))] := by
  have same (j : Item) := missMark_same cause j
  have tags (j : Item) : (missMark cause j).tag = j.tag := (same j).1
  have found : ((s.updateItem i.tag (missMark cause)).leaveClaim i.tag d).findItem i.tag =
      some (missMark cause i) := by
    have direct : (s.updateItem i.tag (missMark cause)).findItem i.tag = some (missMark cause i) := by
      rw [updateItem_findItem s tags, pool.findItem_at ht, Option.map_some, if_pos rfl]
    exact direct
  have assigned : ((s.updateItem i.tag (missMark cause)).leaveClaim i.tag d).assignment
      (missMark cause i) (some d) = s.assignment i (some d) := by
    obtain ⟨-, zone, base, destination⟩ := same i
    refine assignment_record (s := s) (t := (s.updateItem i.tag (missMark cause)).leaveClaim i.tag d)
      (i := i) rfl rfl zone ?_ destination _
    have moved : ((s.updateItem i.tag (missMark cause)).leaveClaim i.tag d).position (missMark cause i) =
        (s.updateItem i.tag (missMark cause)).position (missMark cause i) := rfl
    have here : s.zones[(missMark cause i).zone] = s.zones[i.zone] :=
      congrArg (fun z : ZoneId => s.zones[z]) zone
    rw [moved, updateItem_position]
    unfold State.position
    rw [here, base]
  have written := reassign_found found (some d)
  rw [assigned] at written
  have lists : ((s.updateItem i.tag (missMark cause)).leaveClaim i.tag d).claimLists (missMark cause i)
      (s.assignment i (some d)) =
      ({ s with claims := s.claimsLeft d i.tag } : State).claimLists i (s.assignment i (some d)) := by
    refine claimLists_congr (s := { s with claims := s.claimsLeft d i.tag })
      (t := (s.updateItem i.tag (missMark cause)).leaveClaim i.tag d) (i := i) (j := missMark cause i) ?_
      (tags i) (fun x => ?_) _
    · rfl
    · have order := updateItem_precedes (tag := i.tag) s tags (fun j => (same j).2.1)
        (fun j => (same j).2.2.1) i x
      generalize s.updateItem i.tag (missMark cause) = u at order ⊢
      exact order
  refine ⟨((s.updateItem i.tag (missMark cause)).leaveClaim i.tag d).writeClaim (missMark cause i)
    (s.assignment i (some d)), ?_, ?_, ?_⟩
  · have twice := (updateItem_updateItem (tag := i.tag) s
      (fun j => { j with assigned := s.assignment i (some d) }) tags).trans (pool.updateItem_at ht _)
    have frame (u : State) (j : Item) (new : Option DiverterId) :
        (u.leaveClaim i.tag d).writeClaim j new = { u.updateItem j.tag fun k => { k with assigned := new } with
          claims := ((u.leaveClaim i.tag d).writeClaim j new).claims } := rfl
    have framed := frame (s.updateItem i.tag (missMark cause)) (missMark cause i) (s.assignment i (some d))
    rw [tags, twice] at framed
    exact framed
  · rw [State.writeClaim_claims, lists]
    exact PoolLaws.claimsWith (s := { s with claims := s.claimsLeft d i.tag })
      (pool.of_track rfl rfl rfl fun _ => rfl) i _
  · refine ((((updateItem_unheard i.tag (missMark cause)).makes s).andThen
      ((leaveClaim_unheard i.tag d).makes _)).andThen
      (((writeClaim_unheard (missMark cause i) (s.assignment i (some d))).makes _).andThen
        (post_makes _ _))).congr fun qs k => ?_
    rw [missDivert_eq, updateItem_unheard, leaveClaim_unheard, noted_reassign, written, writeClaim_unheard]

/-! ### The decision -/

theorem missCause_cases (pool : PoolLaws s) (ht : s.zones[z].track = ahead ++ i :: behind)
    (hv : s.activeLayout.diverters[d] = some v) :
    s.missCause d i = if s.module = .tracking ∧ s.inputs.estop = false ∧ s.diverters[d].state = .idle ∧
        ¬ ∃ j ∈ behind.head?, (s.place z i : Int) - i.length - s.place z j < (v.minimumGap : Int)
      then none
      else some (if s.module ≠ .tracking then .notTracking else if s.inputs.estop then .estop
        else if s.diverters[d].state ≠ .idle then .busy else .tightGap) := by
  obtain ⟨front, -, -⟩ := pool.apart ht
  have zone : i.zone = z := pool.zone z i (by rw [ht]; simp)
  have here : s.zones[i.zone] = s.zones[z] := congrArg (fun z : ZoneId => s.zones[z]) zone
  have place {j : Item} (hj : j ∈ s.zones[z].track) : s.position j = s.place z j := (pool.place_eq hj).symm
  have tight : s.tightGap d i = true ↔
      ∃ j ∈ behind.head?, (s.place z i : Int) - i.length - s.place z j < (v.minimumGap : Int) := by
    unfold State.tightGap State.gapBehind
    rw [here, ht, behind_at front, hv]
    cases behind with
    | nil => simp
    | cons j back =>
      simp [place (j := i) (by rw [ht]; simp), place (j := j) (by rw [ht]; simp)]
  unfold State.missCause
  by_cases hm : s.module = .tracking
  · rw [if_neg (not_not.2 hm), if_neg (not_not.2 hm)]
    cases he : s.inputs.estop with
    | true => rw [if_pos rfl, if_pos rfl, if_neg fun h => Bool.noConfusion h.2.1]
    | false =>
      rw [if_neg Bool.false_ne_true, if_neg Bool.false_ne_true]
      by_cases hs : s.diverters[d].state = .idle
      · rw [if_neg (not_not.2 hs), if_neg (not_not.2 hs)]
        by_cases hg : s.tightGap d i = true
        · rw [if_pos hg, if_neg fun h => h.2.2.2 (tight.1 hg)]
        · rw [if_neg hg, if_pos ⟨hm, rfl, hs, fun h => hg (tight.2 h)⟩]
      · rw [if_pos hs, if_pos hs, if_neg fun h => hs h.2.2.1]
  · rw [if_pos hm, if_pos hm, if_neg fun h => hm h.1]

section
variable (s : State) (qs : List Report) (k : Nat) (d : DiverterId) (i : Item)

theorem noted_missCause : (s.noted qs k).missCause d i = s.missCause d i := by
  rw [noted_frame]
  rfl

theorem noted_meetsDecision : (s.noted qs k).meetsDecision d i = s.meetsDecision d i := by
  rw [noted_frame]
  rfl

theorem noted_isShadowed : (s.noted qs k).isShadowed d i = s.isShadowed d i := by
  rw [noted_frame]
  rfl

end

section
variable (hf : s.findItem i.tag = some i)
include hf

theorem reachTrigger_misses {cause : MissCause} (hm : s.meetsDecision d i = true)
    (hc : s.missCause d i = some cause) (qs : List Report) (k : Nat) :
    (s.noted qs k).reachTrigger i.tag d = (s.noted qs k).missDivert d i cause := by
  simp only [State.reachTrigger, State.decideFire, noted_findItem, hf, noted_meetsDecision, hm, if_true,
    noted_missCause, hc]

theorem reachTrigger_fires (hm : s.meetsDecision d i = true) (hc : s.missCause d i = none)
    (qs : List Report) (k : Nat) :
    (s.noted qs k).reachTrigger i.tag d = (s.noted qs k).fire d i := by
  simp only [State.reachTrigger, State.decideFire, noted_findItem, hf, noted_meetsDecision, hm, if_true,
    noted_missCause, hc]

theorem reachTrigger_shadows (hm : s.meetsDecision d i = false) (hs : s.isShadowed d i = true)
    (qs : List Report) (k : Nat) :
    (s.noted qs k).reachTrigger i.tag d = (s.noted qs k).updateItem i.tag Item.markAtRisk := by
  simp only [State.reachTrigger, noted_findItem, hf, noted_meetsDecision, hm, noted_isShadowed, hs,
    Bool.false_eq_true, if_false, if_true]

end

theorem meetsDecision_iff : s.meetsDecision d i = true ↔
    i.state = .tracked ∧ s.claims[d].head? = some i.tag := by
  unfold State.meetsDecision
  rw [Bool.and_eq_true, decide_eq_true_eq, decide_eq_true_eq]

theorem isShadowed_iff : s.isShadowed d i = true ↔
    i.state = .tracked ∧ i.tag ∉ s.claims[d] ∧ s.diverters[d].state.driven = true := by
  unfold State.isShadowed
  simp only [Bool.and_eq_true, decide_eq_true_eq, Bool.not_eq_true', List.contains_eq_mem,
    decide_eq_false_iff_not, and_assoc]

/-- R98, R110 to R114: an item at a trigger point at which something comes of it. -/
theorem reachTrigger_makes (pool : PoolLaws s) (ht : s.zones[z].track = ahead ++ i :: behind)
    (hv : s.activeLayout.diverters[d] = some v)
    (acts : (s.meetsDecision d i || s.isShadowed d i) = true) :
    ∃ w rs, TriggerMet s z ahead behind i d v w rs ∧ Makes (State.reachTrigger i.tag d) s w rs := by
  have found := pool.findItem_at ht
  have undriving (hs : i.state = .tracked) : ¬ i.state = .diverting := by rw [hs]; nofun
  by_cases head : i.state = .tracked ∧ s.claims[d].head? = some i.tag
  · have meets := meetsDecision_iff.2 head
    have claims : i.tag ∈ s.claims[d] := List.mem_of_head? head.2
    have cause := missCause_cases pool ht hv
    by_cases fires : s.module = .tracking ∧ s.inputs.estop = false ∧ s.diverters[d].state = .idle ∧
        ¬ ∃ j ∈ behind.head?, (s.place z i : Int) - i.length - s.place z j < (v.minimumGap : Int)
    · rw [if_pos fires] at cause
      refine ⟨_, [], ⟨fun _ _ => ⟨rfl, rfl⟩, fun _ hn => absurd fires hn, fun _ hn => absurd claims hn, ?_⟩,
        (((fire_unheard d i).makes s).of_eq (fire_eq pool ht hv)).congr fun qs k =>
          reachTrigger_fires found meets cause qs k⟩
      rintro ((hs | ⟨hn, -⟩) | ⟨-, hn⟩)
      exacts [absurd hs (undriving head.1), absurd claims hn, absurd head.2 hn]
    · rw [if_neg fires] at cause
      obtain ⟨w, hw, lists, makes⟩ := missDivert_makes pool ht d
        (if s.module ≠ .tracking then .notTracking else if s.inputs.estop then .estop
          else if s.diverters[d].state ≠ .idle then .busy else .tightGap)
      refine ⟨w, _, ⟨fun _ hf => absurd hf fires, fun _ _ => ⟨rfl, ?_, lists⟩, fun _ hn => absurd claims hn,
        ?_⟩, makes.congr fun qs k => reachTrigger_misses found meets cause qs k⟩
      · refine hw.trans ?_
        unfold missMark
        rw [apply_ite (fun f : Item → Item => f i)]
        rfl
      · rintro ((hs | ⟨hn, -⟩) | ⟨-, hn⟩)
        exacts [absurd hs (undriving head.1), absurd claims hn, absurd head.2 hn]
  · have unmet : s.meetsDecision d i = false := Bool.eq_false_iff.2 fun h => head (meetsDecision_iff.1 h)
    rw [unmet, Bool.false_or] at acts
    obtain ⟨tracked, absent, driven⟩ := isShadowed_iff.1 acts
    refine ⟨_, [], ⟨fun h => absurd h head, fun h => absurd h head, fun _ _ _ => ⟨rfl, rfl⟩, ?_⟩,
      (((updateItem_unheard i.tag Item.markAtRisk).makes s).of_eq (pool.updateItem_at ht _)).congr
        fun qs k => reachTrigger_shadows found unmet acts qs k⟩
    rintro ((hs | ⟨-, hn⟩) | ⟨hn, -⟩)
    · exact absurd hs (undriving tracked)
    · rw [driven] at hn
      cases hn
    · exact absurd hn absent

/-- Table 6-2: nothing comes of an item that neither meets the decision nor is shadowed. -/
theorem triggerMet_idle (idle : (s.meetsDecision d i || s.isShadowed d i) = false) :
    TriggerMet s z ahead behind i d v s [] := by
  rw [Bool.or_eq_false_iff] at idle
  have unmet : ¬ (i.state = .tracked ∧ s.claims[d].head? = some i.tag) := fun h => by
    rw [meetsDecision_iff.2 h] at idle
    cases idle.1
  refine ⟨fun h => absurd h unmet, fun h => absurd h unmet, fun ht ha hd => ?_, fun _ => ⟨rfl, rfl⟩⟩
  rw [isShadowed_iff.2 ⟨ht, ha, hd⟩] at idle
  cases idle.2

end

end Sys2Proof.Machine
end

section
/-! PROOFS. Pulses that bring about nothing, or one thing only (R4, R6, R49, R72, Table 6-2):
`QuietPulseIsOnlyCounted`. -/

namespace Sys2Proof.Machine

set_option Elab.async false

section
variable {s w : State} {owed : List Crossing} {b c : Crossing}

/-! ### Crossings of which nothing comes -/

theorem takeCrossings_idle (n : Nat) (h : ∀ c ∈ owed, s.actsAt c = false) : s.takeCrossings n owed = s := by
  induction n generalizing owed with
  | zero => rfl
  | succ n ih =>
    by_cases he : owed = []
    · rw [he]
      rfl
    · have nothing : (owed.filter (isLowest owed)).filter s.actsAt = [] :=
        List.filter_eq_nil_iff.2 fun c hc => by rw [h c (List.mem_filter.1 hc).1]; decide
      have chosen : s.chooseCrossing ((owed.filter (isLowest owed)).filter s.actsAt) = (none, s) := by
        rw [nothing]
        rfl
      rw [takeCrossings_passed he chosen]
      exact ih fun c hc => h c (List.mem_filter.1 hc).1

/-- R6: one crossing acts of those owed, and nothing comes of the others before and after it. -/
theorem takeAll_single (hn : owed.Nodup) (hb : b ∈ owed) (low : isLowest owed b = true)
    (acts : s.actsAt b = true) (before : ∀ c ∈ owed, c ≠ b → s.actsAt c = false)
    (after : ∀ c ∈ owedAfter owed b (s.cross b), (s.cross b).1.actsAt c = false) :
    s.takeAll owed = (s.cross b).1 := by
  have one : (owed.filter (isLowest owed)).filter s.actsAt = [b] := by
    have same : ∀ c ∈ owed, (s.actsAt c && isLowest owed c) = (c == b) := fun c hc => by
      by_cases he : c = b
      · rw [he, low, acts]
        simp
      · rw [before c hc he, Bool.false_and, beq_false_of_ne he]
    rw [List.filter_filter, List.filter_congr same, List.filter_beq, List.count_eq_one_of_mem hn hb]
    rfl
  have chosen : s.chooseCrossing ((owed.filter (isLowest owed)).filter s.actsAt) = (some b, s) := by
    rw [one]
    rfl
  have some : owed ≠ [] := List.ne_nil_of_mem hb
  unfold State.takeAll
  rw [takeCrossings_taken some chosen]
  exact takeCrossings_idle _ after

/-- Table 6-2, R72: nothing comes of a crossing, as the state stands. -/
structure Calm (s : State) (c : Crossing) : Prop where
  inside : c.point ≠ .zoneEnd ∧ c.point ≠ .overlength
  trigger : ∀ i d, s.findItem c.tag = some i → c.point = .trigger d → s.passesBy i d
  window : ∀ i e, s.findItem c.tag = some i → c.point = .windowEnd e → i.nextEye ≠ some e

theorem Calm.idle (h : Calm s c) : s.actsAt c = false := by
  unfold State.actsAt
  cases hf : s.findItem c.tag with
  | none =>
    cases hp : c.point with
    | zoneEnd => exact absurd hp h.inside.1
    | overlength => exact absurd hp h.inside.2
    | windowEnd e => rfl
    | trigger d => rfl
  | some i =>
    cases hp : c.point with
    | zoneEnd => exact absurd hp h.inside.1
    | overlength => exact absurd hp h.inside.2
    | windowEnd e => exact decide_eq_false (h.window i e hf hp)
    | trigger d =>
      have passes := h.trigger i d hf hp
      refine Bool.eq_false_iff.2 fun hm => ?_
      have met : (s.meetsDecision d i || s.isShadowed d i) = true := hm
      rw [Bool.or_eq_true] at met
      rcases met with hm | hm
      · obtain ⟨tracked, head⟩ := meetsDecision_iff.1 hm
        rcases passes with hs | ⟨absent, -⟩
        · rw [tracked] at hs
          cases hs
        · exact absent (List.mem_of_head? head)
      · obtain ⟨tracked, -, driven⟩ := isShadowed_iff.1 hm
        rcases passes with hs | ⟨-, still⟩
        · rw [tracked] at hs
          cases hs
        · rw [driven] at still
          cases still

/-! ### What a crossing leaves of the other items -/

/-- But for the item of one tag, the items in line of `t` are in line of `s`, as they were in what a point
asks of them, with no claim more. -/
structure Apart (s t : State) (tag : Nat) : Prop where
  items : ∀ j ∈ t.lineItems, j.tag ≠ tag →
    ∃ i ∈ s.lineItems, i.tag = j.tag ∧ i.state = j.state ∧ i.nextEye = j.nextEye
  claims : ∀ (d : DiverterId) (x : Nat), x ≠ tag → x ∈ t.claims[d] → x ∈ s.claims[d]

section
variable {t u : State} {tag : Nat}

theorem Apart.refl (s : State) (tag : Nat) : Apart s s tag :=
  ⟨fun j hj _ => ⟨j, hj, rfl, rfl, rfl⟩, fun _ _ _ hx => hx⟩

theorem Apart.trans (h : Apart s t tag) (k : Apart t u tag) : Apart s u tag := by
  refine ⟨fun j hj hn => ?_, fun d x hn hx => h.claims d x hn (k.claims d x hn hx)⟩
  obtain ⟨i, hi, it, is, ie⟩ := k.items j hj hn
  obtain ⟨m, hm, mt, ms, me⟩ := h.items i hi (it ▸ hn)
  exact ⟨m, hm, mt.trans it, ms.trans is, me.trans ie⟩

/-- An operation that leaves the track lists and the claims. -/
theorem Apart.of_eq (h : Apart s t tag) (hl : u.lineItems = t.lineItems) (hc : u.claims = t.claims) :
    Apart s u tag :=
  ⟨fun j hj => h.items j (hl ▸ hj), fun d x hn hx => h.claims d x hn (by rw [hc] at hx; exact hx)⟩

theorem Calm.apart (h : Calm s c) (pool : PoolLaws s) (ha : Apart s t tag) (hn : c.tag ≠ tag)
    (hd : ∀ d, c.point = .trigger d → t.diverters[d].state.driven = true →
      s.diverters[d].state.driven = true) : Calm t c := by
  have found {j : Item} (hj : t.findItem c.tag = some j) :
      ∃ i, s.findItem c.tag = some i ∧ i.tag = j.tag ∧ i.state = j.state ∧ i.nextEye = j.nextEye := by
    obtain ⟨hm, ht⟩ := findItem_eq_some hj
    obtain ⟨i, hi, tag, same⟩ := ha.items j hm (ht ▸ hn)
    exact ⟨i, by rw [← ht, ← tag]; exact pool.findItem_of_mem hi, tag, same⟩
  refine ⟨h.inside, fun j d hj hp => ?_, fun j e hj hp => ?_⟩
  · obtain ⟨i, hi, tag, state, -⟩ := found hj
    refine (h.trigger i d hi hp).imp state.symm.trans fun ⟨absent, still⟩ => ⟨fun hm => ?_, ?_⟩
    · rw [tag] at absent
      exact absent (ha.claims d j.tag ((findItem_eq_some hj).2 ▸ hn) hm)
    · cases driven : t.diverters[d].state.driven with
      | false => rfl
      | true => rw [hd d hp driven] at still; cases still
  · obtain ⟨i, hi, -, -, eye⟩ := found hj
    exact eye ▸ h.window i e hi hp

theorem updateItem_apart (s : State) (tag : Nat) {f : Item → Item} (hf : ∀ j, (f j).tag = j.tag) :
    Apart s (s.updateItem tag f) tag := by
  refine ⟨fun j hj hn => ?_, fun _ _ _ hx => hx⟩
  rw [lineItems_updateItem] at hj
  obtain ⟨i, hi, rfl⟩ := List.mem_map.1 hj
  split at hn
  · next ht => exact absurd ((hf i).trans ht) hn
  · next ht => exact ⟨i, hi, by rw [if_neg ht], by rw [if_neg ht], by rw [if_neg ht]⟩

theorem markAtRisk_apart (s : State) (x tag : Nat) : Apart s (s.updateItem x Item.markAtRisk) tag := by
  refine ⟨fun j hj _ => ?_, fun _ _ _ hx => hx⟩
  rw [lineItems_updateItem] at hj
  obtain ⟨i, hi, rfl⟩ := List.mem_map.1 hj
  refine ⟨i, hi, ?_, ?_, ?_⟩ <;> split <;> rfl

theorem removeItem_apart (s : State) (tag : Nat) : Apart s (s.removeItem tag) tag := by
  refine ⟨fun j hj _ => ?_, fun _ _ _ hx => hx⟩
  rw [lineItems_removeItem] at hj
  exact ⟨j, (List.mem_filter.1 hj).1, rfl, rfl, rfl⟩

theorem release_apart (s : State) (tag : Nat) : Apart s (s.release tag) tag := by
  refine ⟨fun j hj hn => ?_, fun d x _ hx => ?_⟩
  · rw [lineItems_congr (release_track s tag)] at hj
    exact (removeItem_apart s tag).items j hj hn
  · rw [release_claim] at hx
    exact (List.mem_filter.1 hx).1

theorem lose_apart (s : State) (tag : Nat) (z : ZoneId) (e : Option EyeId) (cause : LostCause) :
    Apart s (s.lose tag z e cause) tag := by
  have noted : Apart s ((s.post (.lost tag z e cause)).count fun c => { c with lost := c.lost + 1 }) tag :=
    (Apart.refl s tag).of_eq rfl rfl
  exact noted.trans (release_apart _ tag)

theorem leaveClaim_apart (s : State) (tag : Nat) (d : DiverterId) : Apart s (s.leaveClaim tag d) tag := by
  refine ⟨fun j hj _ => ⟨j, hj, rfl, rfl, rfl⟩, fun e x _ hx => ?_⟩
  rw [State.leaveClaim_claims, getElem_set_fin] at hx
  split at hx
  · next he => exact he ▸ (List.mem_filter.1 hx).1
  · exact hx

theorem reassign_apart (s : State) (tag : Nat) (excluded : Option DiverterId) :
    Apart s (s.reassign tag excluded).1 tag := by
  rcases reassign_cases s tag excluded with ⟨-, h⟩ | ⟨i, hf, h⟩ <;> rw [h]
  · exact .refl s tag
  · obtain ⟨-, rfl⟩ := findItem_eq_some hf
    have written := updateItem_apart s i.tag (f := fun j => { j with assigned := s.assignment i excluded })
      fun _ => rfl
    refine ⟨fun j hj hn => written.items j hj hn, fun d x hn hx => ?_⟩
    dsimp only at hx
    rw [State.writeClaim_claims, mem_claimLists, if_neg hn] at hx
    exact hx

theorem appendItem_apart (s : State) (z : ZoneId) (p : Nat) (i : Item) :
    Apart s (s.appendItem z p i) i.tag := by
  refine ⟨fun j hj hn => ?_, fun _ _ _ hx => hx⟩
  rcases List.mem_cons.1 ((lineItems_appendItem s z p i).mem_iff.1 hj) with rfl | hj
  · exact absurd rfl hn
  · exact ⟨j, hj, rfl, rfl, rfl⟩

theorem missEye_apart (s : State) (tag : Nat) (e : EyeId) : Apart s (s.missEye tag e) tag := by
  unfold State.missEye
  split
  · exact .refl s tag
  · have missed : Apart s (s.updateItem tag fun j => { s.advancePast e j with missRun := j.missRun + 1 }) tag :=
      updateItem_apart s tag fun _ => rfl
    dsimp only
    split_ifs
    exacts [updateItem_apart s tag fun _ => rfl, missed.trans (lose_apart _ _ _ _ _),
      missed.trans (lose_apart _ _ _ _ _), missed]

theorem takeWindowEnds_apart (tag : Nat) (z : ZoneId) (n : Nat) (s : State) :
    Apart s (s.takeWindowEnds tag z n) tag := by
  induction n generalizing s with
  | zero => exact .refl s tag
  | succ n ih =>
    unfold State.takeWindowEnds
    split
    · exact .refl s tag
    · split
      exacts [(missEye_apart s tag _).trans (ih _), .refl s tag]

theorem post_apart (s : State) (r : Report) (tag : Nat) : Apart s (s.post r) tag :=
  ⟨fun j hj _ => ⟨j, hj, rfl, rfl, rfl⟩, fun _ _ _ hx => hx⟩

theorem modifyDiverter_apart (s : State) (d : DiverterId) (f : Diverter → Diverter) (tag : Nat) :
    Apart s (s.modifyDiverter d f) tag :=
  ⟨fun j hj _ => ⟨j, hj, rfl, rfl, rfl⟩, fun _ _ _ hx => hx⟩

theorem missDivert_apart (s : State) (d : DiverterId) (i : Item) (cause : MissCause) :
    Apart s (s.missDivert d i cause) i.tag := by
  rw [missDivert_eq]
  have marked := updateItem_apart s i.tag (f := missMark cause) fun j => (missMark_same cause j).1
  have left := marked.trans (leaveClaim_apart (s.updateItem i.tag (missMark cause)) i.tag d)
  generalize (s.updateItem i.tag (missMark cause)).leaveClaim i.tag d = t at left ⊢
  exact (left.trans (reassign_apart t i.tag (some d))).trans (post_apart _ _ _)

theorem fire_apart (s : State) (d : DiverterId) (i : Item) : Apart s (s.fire d i) i.tag := by
  have fired : Apart s (s.fired d i) i.tag := by
    unfold State.fired
    have begun := modifyDiverter_apart s d (fun u =>
      { u with state := .extending, timer := s.diverterTimer d DiverterDef.strokeTimeout
               slot := some i.tag }) i.tag
    generalize s.modifyDiverter d _ = t at begun ⊢
    have written := begun.trans (updateItem_apart t i.tag (f := fun j => { j with state := .diverting })
      fun _ => rfl)
    generalize t.updateItem i.tag _ = u at written ⊢
    exact written.trans (leaveClaim_apart u i.tag d)
  rcases fire_cases s d i with h | ⟨p, h⟩ <;> rw [h]
  exacts [fired, fired.trans (markAtRisk_apart _ p.tag i.tag)]

theorem reachTrigger_apart (s : State) (tag : Nat) (d : DiverterId) :
    Apart s (s.reachTrigger tag d) tag := by
  unfold State.reachTrigger
  split
  · exact .refl s tag
  · next i hf =>
    obtain ⟨-, rfl⟩ := findItem_eq_some hf
    split_ifs
    · unfold State.decideFire
      split
      exacts [missDivert_apart s d i _, fire_apart s d i]
    · exact markAtRisk_apart s i.tag i.tag
    · exact .refl s i.tag

theorem leaveZone_apart (s : State) (tag : Nat) (z : ZoneId) : Apart s (s.leaveZone tag z).1 tag := by
  have ended : Apart s (if (s.findItem tag).any (s.transferMeetsReturn z) then s
      else s.takeWindowEnds tag z 12) tag := by
    split
    exacts [.refl s tag, takeWindowEnds_apart tag z 12 s]
  unfold State.leaveZone
  dsimp only
  generalize (if (s.findItem tag).any (s.transferMeetsReturn z) then s
    else s.takeWindowEnds tag z 12) = t at ended ⊢
  split
  · exact ended
  · next i hf =>
    obtain ⟨-, rfl⟩ := findItem_eq_some hf
    split
    · next y _ =>
      unfold State.transferItem
      split
      · exact ended.trans (lose_apart _ _ _ _ _)
      · next p clamped _ =>
        have tagged : (if clamped then (t.carriedOn i y p).markAtRisk else t.carriedOn i y p).tag =
            i.tag := by
          rcases carriedOn_cases t i y p with ⟨-, hc⟩ | ⟨-, hc⟩ <;> rw [hc] <;> cases clamped <;> rfl
        have placed := appendItem_apart (t.removeItem i.tag) y p
          (if clamped then (t.carriedOn i y p).markAtRisk else t.carriedOn i y p)
        rw [tagged] at placed
        exact (ended.trans (removeItem_apart t i.tag)).trans placed
    · unfold State.exitItem
      have noted : Apart t ((t.post (.exited i.tag i.exitFlags i.reference)).count
          fun c => { c with exited := c.exited + 1 }) i.tag := (Apart.refl t i.tag).of_eq rfl rfl
      exact (ended.trans noted).trans (release_apart _ i.tag)

theorem cross_apart (s : State) {b : Crossing} (hv : b.point ≠ .overlength) :
    Apart s (s.cross b).1 b.tag := by
  unfold State.cross
  split
  · split
    exacts [leaveZone_apart s b.tag _, .refl s b.tag]
  · exact missEye_apart s b.tag _
  · exact reachTrigger_apart s b.tag _
  · next h => exact absurd h hv

/-- R112: a crossing drives the diverter at whose trigger point it is taken, and no other. -/
theorem cross_driven (s : State) {b : Crossing} {d : DiverterId} (hd : b.point ≠ .trigger d) :
    (s.cross b).1.diverters[d].state = s.diverters[d].state := by
  have view {t : State} (h : t.strokeView = s.strokeView) : t.diverters[d].state = s.diverters[d].state :=
    congrArg (fun v => (v d).1.state) h
  unfold State.cross
  split
  · split
    exacts [view (strokeView_leaveZone s b.tag _), rfl]
  · exact view (strokeView_missEye s b.tag _)
  · next e hp =>
    have other : e ≠ d := fun he => hd (he ▸ hp)
    unfold State.reachTrigger
    split
    · rfl
    · next i _ =>
      split_ifs
      · unfold State.decideFire
        split
        · next cause _ =>
          rw [missDivert_eq]
          refine view ?_
          rw [strokeView_post, strokeView_reassign]
          rfl
        · have fired : (s.fired e i).diverters[d].state = s.diverters[d].state := by
            rw [fired_diverter, if_neg other]
          rcases fire_cases s e i with h | ⟨p, h⟩ <;> rw [h] <;> exact fired
      all_goals rfl
  · exact view (strokeView_induct _ _ _)

end

end

/-! ### The permits -/

/-- R11: the run permits, which only the end of a happening sets. -/
def State.lamps (s : State) : ZoneId → Bool := fun z => s.zones[z].permit

section
variable (s : State) (tag : Nat)

theorem lamps_mapZones (f : ZoneId → ZoneUnit → ZoneUnit) (hf : ∀ z u, (f z u).permit = u.permit) :
    (s.mapZones f).lamps = s.lamps := by
  funext z
  simp [State.lamps, hf]

theorem lamps_modifyZone (y : ZoneId) (f : ZoneUnit → ZoneUnit) (hf : ∀ u, (f u).permit = u.permit) :
    (s.modifyZone y f).lamps = s.lamps := by
  funext z
  unfold State.lamps
  rw [State.modifyZone_zones, getElem_set_fin]
  split
  · next h => rw [hf, h]
  · rfl

theorem lamps_updateItem (f : Item → Item) : (s.updateItem tag f).lamps = s.lamps :=
  lamps_mapZones s _ fun _ _ => rfl

theorem lamps_removeItem : (s.removeItem tag).lamps = s.lamps := lamps_mapZones s _ fun _ _ => rfl

theorem lamps_appendItem (z : ZoneId) (p : Nat) (i : Item) : (s.appendItem z p i).lamps = s.lamps :=
  lamps_modifyZone s z _ fun _ => rfl

theorem lamps_modifyReasons (z : ZoneId) (f : Reasons → Reasons) :
    (s.modifyReasons z f).lamps = s.lamps := lamps_modifyZone s z _ fun _ => rfl

theorem lamps_release : (s.release tag).lamps = s.lamps := by
  have freed (t : State) : ({ t with freeRecords := t.freeRecords + 1 } : State).lamps = t.lamps := rfl
  unfold State.release State.evaluatePoolLow
  exact (lamps_modifyReasons _ 0 _).trans ((freed _).trans (lamps_removeItem s tag))

theorem lamps_reassign (excluded : Option DiverterId) : (s.reassign tag excluded).1.lamps = s.lamps := by
  unfold State.reassign
  split
  exacts [rfl, lamps_updateItem s _ _]

theorem lamps_lose (z : ZoneId) (e : Option EyeId) (cause : LostCause) :
    (s.lose tag z e cause).lamps = s.lamps := lamps_release _ tag

theorem lamps_missEye (e : EyeId) : (s.missEye tag e).lamps = s.lamps := by
  unfold State.missEye
  split
  · rfl
  · dsimp only
    split_ifs
    exacts [lamps_updateItem _ _ _, (lamps_lose _ _ _ _ _).trans (lamps_updateItem _ _ _),
      (lamps_lose _ _ _ _ _).trans (lamps_updateItem _ _ _), lamps_updateItem _ _ _]

theorem lamps_takeWindowEnds (z : ZoneId) (n : Nat) : (s.takeWindowEnds tag z n).lamps = s.lamps := by
  induction n generalizing s with
  | zero => rfl
  | succ n ih =>
    unfold State.takeWindowEnds
    split
    · rfl
    · split
      exacts [(ih _).trans (lamps_missEye s tag _), rfl]

theorem lamps_leaveZone (z : ZoneId) : (s.leaveZone tag z).1.lamps = s.lamps := by
  have ended : (if (s.findItem tag).any (s.transferMeetsReturn z) then s
      else s.takeWindowEnds tag z 12).lamps = s.lamps := by
    split
    exacts [rfl, lamps_takeWindowEnds s tag z 12]
  unfold State.leaveZone
  dsimp only
  generalize (if (s.findItem tag).any (s.transferMeetsReturn z) then s
    else s.takeWindowEnds tag z 12) = t at ended ⊢
  split
  · exact ended
  · split
    · refine .trans ?_ ended
      unfold State.transferItem
      split
      exacts [lamps_lose _ _ _ _ _, (lamps_appendItem _ _ _ _).trans (lamps_removeItem _ _)]
    · exact (lamps_release _ _).trans ended

theorem lamps_missDivert (d : DiverterId) (i : Item) (cause : MissCause) :
    (s.missDivert d i cause).lamps = s.lamps := by
  have left (t : State) : (t.leaveClaim i.tag d).lamps = t.lamps := rfl
  have posted (t : State) (r : Report) : (t.post r).lamps = t.lamps := rfl
  rw [missDivert_eq, posted, lamps_reassign, left, lamps_updateItem]

theorem lamps_fire (d : DiverterId) (i : Item) : (s.fire d i).lamps = s.lamps := by
  have fired : (s.fired d i).lamps = s.lamps := lamps_updateItem _ _ _
  rcases fire_cases s d i with h | ⟨p, h⟩ <;> rw [h]
  exacts [fired, (lamps_updateItem _ _ _).trans fired]

theorem lamps_reachTrigger (d : DiverterId) : (s.reachTrigger tag d).lamps = s.lamps := by
  unfold State.reachTrigger State.decideFire
  split
  · rfl
  · split_ifs
    · split
      exacts [lamps_missDivert s d _ _, lamps_fire s d _]
    · exact lamps_updateItem _ _ _
    · rfl

theorem lamps_closeInduction (i : Item) : (s.closeInduction i).lamps = s.lamps :=
  lamps_reassign s i.tag none

theorem lamps_induct (length : Nat) (overlength : Bool) : (s.induct length overlength).lamps = s.lamps := by
  unfold State.induct
  split
  · rfl
  · split
    · rfl
    · next e _ _ =>
      have paired : (s.takeRecord.pair length overlength (s.activeLayout.eyeFollowing e)).1.lamps =
          s.lamps := by
        refine .trans ?_ (lamps_modifyZone _ 0 _ fun _ => rfl : s.takeRecord.lamps = s.lamps)
        unfold State.pair
        split <;> rfl
      generalize s.takeRecord.pair length overlength (s.activeLayout.eyeFollowing e) = r at paired ⊢
      dsimp only
      split
      · exact (lamps_lose _ _ _ _ _).trans paired
      · exact ((lamps_closeInduction _ _).trans (lamps_appendItem _ _ _ _)).trans paired

theorem lamps_cross (b : Crossing) : (s.cross b).1.lamps = s.lamps := by
  unfold State.cross
  split
  · split
    exacts [lamps_leaveZone s _ _, rfl]
  · exact lamps_missEye s _ _
  · exact lamps_reachTrigger s _ _
  · exact lamps_induct _ _ _

theorem lamps_takeAll (owed : List Crossing) : (s.takeAll owed).lamps = s.lamps :=
  takeAll_kept (P := fun t => t.lamps = s.lamps) (fun _ h => h)
    (fun b h => (lamps_cross _ b).trans h) owed rfl

theorem lamps_pulsed (z : ZoneId) : (s.pulsed z).lamps = s.lamps :=
  lamps_modifyZone s z (fun u => { u with count := u.count + 1 }) fun _ => rfl

end

end Sys2Proof.Machine
end

section
/-! PROOFS. What a pulse owes, and a pulse that owes nothing that acts (R4, R6, R49, R72, Table 6-2):
`QuietPulseIsOnlyCounted`. -/

namespace Sys2Proof.Machine

set_option Elab.async false

section
variable {s u w : State} {z : ZoneId} {i j : Item} {c : Crossing} {rs : List Report} {k : Nat}

/-! ### The pulse as a happening -/

theorem lamps_postAll (s : State) (rs : List Report) : (s.postAll rs).lamps = s.lamps := by
  rw [postAll_frame]
  rfl

theorem lamps_pulse (s : State) (z : ZoneId) : (s.pulse z).lamps = s.lamps := by
  rw [pulse_eq]
  split
  exacts [(lamps_takeAll _ _).trans (lamps_pulsed s z), lamps_pulsed s z]

/-- R6: a pulse that makes the state `w` and posts `rs`, whatever choices were free. -/
theorem pulse_leads (ha : s.resetActive = false) (he : s.pulse z = w.noted rs k) :
    Leads (.encoderPulse z) s fun t => BringsAway s { w with freeIndex := t.freeIndex } t rs := by
  have effect : s.pulse z = State.postAll rs { w with freeIndex := k } := by
    rw [he]
    unfold State.noted
    rw [postAll_frame rs { w with freeIndex := k }, postAll_frame rs w,
      postAll_congr (s := w) (t := { w with freeIndex := k }) rfl rfl]
  have lamps : ({ w with freeIndex := k } : State).lamps = s.lamps := by
    rw [← lamps_pulse s z, effect, lamps_postAll]
  obtain ⟨t, step, brings⟩ := happening_brings s { w with freeIndex := k } rs (State.pulse z) true ha rfl
    effect (congrFun lamps)
  obtain rfl : t.freeIndex = k := congrArg State.freeIndex brings.1.1
  exact ⟨t, step, brings⟩

/-- R6: a pulse that makes the state `w` and posts `rs` with no free choice. -/
theorem pulse_happens (ha : s.resetActive = false) (he : s.pulse z = w.postAll rs) :
    Happens (.encoderPulse z) s w rs := by
  have lamps : w.lamps = s.lamps := by rw [← lamps_pulse s z, he, lamps_postAll]
  exact happening_brings s w rs (State.pulse z) true ha rfl he (congrFun lamps)

/-! ### What is owed -/

theorem mem_overlengthOwed : c ∈ u.overlengthOwed z ↔ c = overlengthCrossing ∧ z = 0 ∧
    u.span = .measuring ∧ u.spanCount = u.activeLayout.line.maxLength + 1 := by
  unfold State.overlengthOwed State.spanOverlength
  split
  · next h =>
    obtain ⟨hz, hs⟩ := h
    rw [Bool.and_eq_true, decide_eq_true_eq, decide_eq_true_eq] at hs
    simp [hz, hs, overlengthCrossing]
  · next h =>
    refine iff_of_false List.not_mem_nil fun ⟨_, hz, hs⟩ => h ⟨hz, ?_⟩
    rw [Bool.and_eq_true, decide_eq_true_eq, decide_eq_true_eq]
    exact hs

/-- R6: what a pulse of zone `z` owes: the leaving of the head, the points of each item, and the overlength
induction. -/
theorem owed_cases (h : c ∈ u.pulseOwed z) :
    (∃ i, u.zones[z].track.head? = some i ∧ u.position i = u.activeLayout.zoneLength z ∧
      c = ⟨i.tag, u.position i, .zoneEnd⟩) ∨
    (∃ i ∈ u.zones[z].track, c ∈ u.activeLayout.pointsIn i.tag z ((u.position i : Int) - 1) (u.position i)) ∨
    c = overlengthCrossing ∧ z = 0 ∧ u.span = .measuring ∧
      u.spanCount = u.activeLayout.line.maxLength + 1 := by
  refine (mem_pulseOwed h).imp_right (Or.imp_right fun he => ?_)
  subst he
  unfold State.pulseOwed at h
  rcases List.mem_append.1 h with h | h
  · rcases List.mem_append.1 h with h | h
    · unfold State.zoneEndOwed at h
      split at h
      · split at h
        · exact nomatch congrArg Crossing.point (List.mem_singleton.1 h)
        · cases h
      · cases h
    · obtain ⟨i, -, hi⟩ := List.mem_flatMap.1 h
      exact absurd rfl (pointsIn_tag hi).2.2
  · exact mem_overlengthOwed.1 h

section
variable {p : Nat}

/-- R6: the points at the one position at which an item stands. -/
theorem pointsIn_at {l : Layout} {tag : Nat} (h : c ∈ l.pointsIn tag z ((p : Int) - 1) p) :
    c.tag = tag ∧ c.position = p ∧
      ((∃ d, c.point = .trigger d ∧ TriggersAt l z p d) ∨
        ∃ e, c.point = .windowEnd e ∧ EyeEndsAt l z p e ∧ p < l.zoneLength z) := by
  rcases List.mem_append.1 h with h | h
  · obtain ⟨d, v, hd, hz, low, high, rfl⟩ := triggersIn_points h
    unfold DiverterDef.triggerPoint at low high ⊢
    have here : ((v.firePosition : Int) - v.lead).toNat = p := by omega
    exact ⟨rfl, here, .inl ⟨d, rfl, v, hd, hz, by omega⟩⟩
  · obtain ⟨e, v, he, hz, low, high, inside, rfl⟩ := windowEndsIn_points h
    have here : v.missPoint = p := by omega
    exact ⟨rfl, here, .inr ⟨e, rfl, ⟨v, he, hz, here.symm⟩, here ▸ inside⟩⟩

theorem trigger_mem_pointsIn_at {l : Layout} {d : DiverterId} (h : TriggersAt l z p d) (tag : Nat) :
    ⟨tag, p, .trigger d⟩ ∈ l.pointsIn tag z ((p : Int) - 1) p := by
  obtain ⟨v, hd, rfl, hp⟩ := h
  have point : v.triggerPoint = p := by
    unfold DiverterDef.triggerPoint
    omega
  have mem := trigger_mem_pointsIn hd tag (low := (p : Int) - 1) (high := p) (by omega) (by omega)
  rw [point, Int.toNat_natCast] at mem
  exact mem

theorem windowEnd_mem_pointsIn_at {l : Layout} {e : EyeId} (h : EyeEndsAt l z p e)
    (inside : p < l.zoneLength z) (tag : Nat) :
    ⟨tag, p, .windowEnd e⟩ ∈ l.pointsIn tag z ((p : Int) - 1) p := by
  obtain ⟨v, he, rfl, hp⟩ := h
  have point : v.missPoint = p := hp.symm
  refine List.mem_append_right _ (List.mem_filterMap.2 ⟨e, List.mem_finRange e, ?_⟩)
  rw [he]
  simp [point, inside]

end

/-- R6, Table 6-2: nothing comes of an item at a point of the zone: the point is not the end of its next eye's
window, nor a trigger point that it does not pass by. -/
theorem calm_at (pool : PoolLaws u) (hi : i ∈ u.zones[z].track)
    (eyes : ∀ e ∈ i.nextEye, EyeEndsAt u.activeLayout z (u.place z i) e →
      u.place z i < u.activeLayout.zoneLength z → c.point ≠ .windowEnd e)
    (triggers : ∀ d, TriggersAt u.activeLayout z (u.place z i) d → c.point = .trigger d → u.passesBy i d)
    (hc : c ∈ u.activeLayout.pointsIn i.tag z ((u.position i : Int) - 1) (u.position i)) : Calm u c := by
  obtain ⟨tag, -, points⟩ := pointsIn_at hc
  have found : u.findItem c.tag = some i := by
    rw [tag]
    exact pool.findItem_of_mem (mem_lineItems.2 ⟨z, hi⟩)
  rw [← pool.place_eq hi] at points
  refine ⟨(pointsIn_tag hc).2, fun j d hj hp => ?_, fun j e hj hp next => ?_⟩ <;>
    obtain rfl : i = j := Option.some.inj (found.symm.trans hj)
  · rcases points with ⟨e, he, at_⟩ | ⟨e, he, -⟩
    · obtain rfl : e = d := by
        rw [hp] at he
        exact (Point.trigger.inj he).symm
      exact triggers e at_ he
    · rw [hp] at he
      cases he
  · rcases points with ⟨d, he, -⟩ | ⟨d, he, at_, inside⟩
    · rw [hp] at he
      cases he
    · obtain rfl : d = e := by
        rw [hp] at he
        exact (Point.windowEnd.inj he).symm
      exact eyes d next at_ inside he

theorem NothingAt.calm (h : NothingAt u z (u.place z i) i) (pool : PoolLaws u) (hi : i ∈ u.zones[z].track)
    (hc : c ∈ u.activeLayout.pointsIn i.tag z ((u.position i : Int) - 1) (u.position i)) : Calm u c := by
  obtain ⟨-, eyes, triggers⟩ := h
  exact calm_at pool hi (fun e he at_ _ => absurd at_ (eyes e he)) (fun d at_ _ => triggers d at_) hc

/-- R4: a count raised leaves every record. -/
theorem pulsed_pool (h : PoolLaws s) (z : ZoneId) : PoolLaws (s.pulsed z) :=
  h.of_track rfl rfl rfl fun y => by
    have raised := raiseCount_zone s z y
    have same : (s.pulsed z).zones = (s.raiseCount z).zones := rfl
    rw [same, raised]

theorem pulsed_track (s : State) (z y : ZoneId) : (s.pulsed z).zones[y].track = s.zones[y].track := by
  have raised := congrArg ZoneUnit.track (raiseCount_zone s z y)
  exact raised

/-- R49: a span short of its bound is not inducted. -/
theorem span_short (h : z = 0 → s.span = .measuring → s.spanCount ≠ s.activeLayout.line.maxLength) :
    ¬ (z = 0 ∧ (s.pulsed z).span = .measuring ∧
      (s.pulsed z).spanCount = (s.pulsed z).activeLayout.line.maxLength + 1) := by
  rintro ⟨hz, hs, hc⟩
  have count : (s.pulsed z).spanCount = s.spanCount + 1 := if_pos ⟨hz, hs⟩
  rw [count] at hc
  exact h hz hs (Nat.succ.inj hc)

/-- R6: a pulse of a zone in use in a module with a layout takes what it owes. -/
theorem pulse_takes (hm : s.module ≠ .unconfigured) (hz : s.activeLayout.zones[z].isSome = true) :
    s.pulse z = (s.pulsed z).takeAll ((s.pulsed z).pulseOwed z) := by
  rw [pulse_eq, if_pos]
  unfold State.configured State.zoneDefined
  simpa [hm] using hz

/-- R6, R49: a pulse that brings nothing about is only counted. -/
theorem pulse_quiet (pool : PoolLaws s) (hm : s.module ≠ .unconfigured)
    (hz : s.activeLayout.zones[z].isSome = true) (quiet : QuietFor s z s.zones[z].track) :
    s.pulse z = s.pulsed z := by
  obtain ⟨items, span⟩ := quiet
  have calm : ∀ c ∈ (s.pulsed z).pulseOwed z, Calm (s.pulsed z) c := by
    intro c hc
    have pulsed := pulsed_pool pool z
    have nothing {i : Item} (hi : i ∈ (s.pulsed z).zones[z].track) :
        NothingAt (s.pulsed z) z ((s.pulsed z).place z i) i := items i (pulsed_track s z z ▸ hi)
    rcases owed_cases hc with ⟨i, head, ends, -⟩ | ⟨i, hi, hc⟩ | ⟨-, long⟩
    · have hi := List.mem_of_head? head
      rw [← pulsed.place_eq hi] at ends
      exact absurd ends (nothing hi).1
    · exact (nothing hi).calm pulsed hi hc
    · exact absurd long (span_short span)
  rw [pulse_takes hm hz]
  exact takeCrossings_idle _ fun c hc => (calm c hc).idle

/-- Settles O49: of every crossing that the pulse owes nothing comes. -/
theorem quietPulseIsOnlyCounted : Obligations.QuietPulseIsOnlyCounted := by
  intro s z hr ha
  have pool := ((recordLaws_iff s).1 hr).booked.pool
  refine ⟨fun hm hz quiet => pulse_happens ha (pulse_quiet pool hm hz quiet), fun unused => pulse_happens ha ?_⟩
  · rw [pulse_eq, if_neg]
    · rfl
    · unfold State.configured State.zoneDefined
      rcases unused with hm | hz
      · simp [hm]
      · simp [hz]

end

end Sys2Proof.Machine
end

section
/-! PROOFS. A pulse that brings about one thing only (R6, R7). -/

namespace Sys2Proof.Machine

set_option Elab.async false

section
variable {s u : State} {z : ZoneId} {i j : Item} {b c : Crossing}

/-! ### No crossing is owed twice -/

theorem triggersIn_nodup (l : Layout) (tag : Nat) (z : ZoneId) (low high : Int) :
    (l.triggersIn tag z low high).Nodup := by
  refine List.Nodup.filterMap (fun d e c hd he => ?_) (by decide)
  have point {d : DiverterId} (h : c ∈ l.diverters[d].bind fun v =>
      if v.zone = z ∧ low < v.triggerPoint ∧ v.triggerPoint ≤ high then
        some ⟨tag, v.triggerPoint.toNat, .trigger d⟩ else none) : c.point = .trigger d := by
    obtain ⟨v, -, hv⟩ := Option.bind_eq_some_iff.1 h
    split at hv
    · exact (congrArg Crossing.point (Option.some.inj hv)).symm
    · cases hv
  exact Point.trigger.inj ((point hd).symm.trans (point he))

theorem windowEndsIn_nodup (l : Layout) (tag : Nat) (z : ZoneId) (low high : Int) :
    (l.windowEndsIn tag z low high).Nodup := by
  refine List.Nodup.filterMap (fun d e c hd he => ?_) (by decide)
  have point {d : EyeId} (h : c ∈ l.eyes[d].bind fun v =>
      if v.zone = z ∧ low < v.missPoint ∧ (v.missPoint : Int) ≤ high ∧ v.missPoint < l.zoneLength z then
        some ⟨tag, v.missPoint, .windowEnd d⟩ else none) : c.point = .windowEnd d := by
    obtain ⟨v, -, hv⟩ := Option.bind_eq_some_iff.1 h
    split at hv
    · exact (congrArg Crossing.point (Option.some.inj hv)).symm
    · cases hv
  exact Point.windowEnd.inj ((point hd).symm.trans (point he))

theorem pointsIn_nodup (l : Layout) (tag : Nat) (z : ZoneId) (low high : Int) :
    (l.pointsIn tag z low high).Nodup := by
  refine List.nodup_append.2 ⟨triggersIn_nodup .., windowEndsIn_nodup .., fun c hc b hb he => ?_⟩
  obtain ⟨d, v, -, -, -, -, rfl⟩ := triggersIn_points hc
  obtain ⟨e, w, -, -, -, -, -, rfl⟩ := windowEndsIn_points hb
  exact nomatch congrArg Crossing.point he

theorem PoolLaws.track_tags (h : PoolLaws s) (z : ZoneId) : (s.zones[z].track.map Item.tag).Nodup := by
  have all : (s.lineItems.map Item.tag).Nodup := (List.nodup_append.1 h.nodup).2.1
  unfold State.lineItems at all
  simp only [List.map_append, List.nodup_append] at all
  obtain ⟨⟨⟨third, second, -⟩, first, -⟩, zeroth, -⟩ := all
  match z with
  | 0 => exact zeroth
  | 1 => exact first
  | 2 => exact second
  | 3 => exact third

theorem pulseOwed_nodup (pool : PoolLaws u) (z : ZoneId) : (u.pulseOwed z).Nodup := by
  have points : (u.pointsOwed z).Nodup := by
    refine List.nodup_flatMap.2 ⟨fun i _ => pointsIn_nodup .., ?_⟩
    refine (List.pairwise_map.1 (pool.track_tags z)).imp fun hn c hc hd => hn ?_
    exact (pointsIn_tag hc).1.symm.trans (pointsIn_tag hd).1
  have ends : (u.zoneEndOwed z).Nodup := by
    unfold State.zoneEndOwed
    split
    · split
      exacts [List.nodup_singleton _, List.nodup_nil]
    · exact List.nodup_nil
  have long : (u.overlengthOwed z).Nodup := by
    unfold State.overlengthOwed
    split
    exacts [List.nodup_singleton _, List.nodup_nil]
  have end_point {c : Crossing} (hc : c ∈ u.zoneEndOwed z) : c.point = .zoneEnd := by
    unfold State.zoneEndOwed at hc
    split at hc
    · split at hc
      · exact congrArg Crossing.point (List.mem_singleton.1 hc)
      · cases hc
    · cases hc
  have middle {c : Crossing} (hc : c ∈ u.pointsOwed z) : c.point ≠ .zoneEnd ∧ c.point ≠ .overlength := by
    obtain ⟨i, -, hi⟩ := List.mem_flatMap.1 hc
    exact (pointsIn_tag hi).2
  have long_point {c : Crossing} (hc : c ∈ u.overlengthOwed z) : c.point = .overlength :=
    congrArg Crossing.point (mem_overlengthOwed.1 hc).1
  refine List.nodup_append.2 ⟨List.nodup_append.2 ⟨ends, points, fun c hc d hd he => ?_⟩, long,
    fun c hc d hd he => ?_⟩ <;> subst he
  · exact (middle hd).1 (end_point hc)
  · have last := long_point hd
    rcases List.mem_append.1 hc with hc | hc
    · rw [end_point hc] at last
      cases last
    · exact (middle hc).2 last

/-! ### One crossing that acts -/

/-- R6: one crossing acts; what is owed of other items stays of no effect, and so does what its own item
owes after it. -/
theorem takeAll_one {owed : List Crossing} (pool : PoolLaws u) (hn : owed.Nodup) (hb : b ∈ owed)
    (low : isLowest owed b = true) (acts : u.actsAt b = true) (hv : b.point ≠ .overlength)
    (calm : ∀ c ∈ owed, c ≠ b → Calm u c)
    (apart : ∀ c ∈ owed, ∀ d, c.point = .trigger d → b.point = .trigger d → c.tag = b.tag)
    (own : ∀ c ∈ owedAfter owed b (u.cross b), c.tag = b.tag → (u.cross b).1.actsAt c = false) :
    u.takeAll owed = (u.cross b).1 := by
  refine takeAll_single hn hb low acts (fun c hc hne => (calm c hc hne).idle) fun c hc => ?_
  by_cases ht : c.tag = b.tag
  · exact own c hc ht
  · rcases mem_owedAfter.1 hc with ⟨hm, hne, -⟩ | ⟨hm, -⟩
    · refine ((calm c hm hne).apart pool (cross_apart u hv) ht fun d hd driven => ?_).idle
      rw [cross_driven u (d := d) fun hp => ht (apart c hm d hd hp)] at driven
      exact driven
    · rcases cross_more u b with he | ⟨-, y, p, he⟩ <;> rw [he] at hm
      · cases hm
      · exact absurd (pointsIn_tag hm).1 ht

/-- R7: what a pulse owes of one item lies at one position. -/
theorem pulseOwed_isLowest (pool : PoolLaws u) (hi : i ∈ u.zones[z].track)
    (short : ¬ (z = 0 ∧ u.span = .measuring ∧ u.spanCount = u.activeLayout.line.maxLength + 1))
    (tag : b.tag = i.tag) (at_ : b.position = u.place z i) : isLowest (u.pulseOwed z) b = true := by
  simp only [isLowest, List.all_eq_true, Bool.or_eq_true, decide_eq_true_eq]
  intro c hc
  have here {j : Item} (hj : j ∈ u.zones[z].track) (ht : c.tag = j.tag) (hp : c.position = u.position j) :
      c.tag != b.tag ∨ b.position ≤ c.position := by
    by_cases he : j = i
    · rw [hp, at_, he, pool.place_eq hi]
      exact .inr (le_refl _)
    · refine .inl (bne_iff_ne.2 fun hh => he ?_)
      exact pool.eq_of_tag (mem_lineItems.2 ⟨z, hj⟩) (mem_lineItems.2 ⟨z, hi⟩)
        (ht.symm.trans (hh.trans tag))
  rcases owed_cases hc with ⟨j, head, -, rfl⟩ | ⟨j, hj, hc⟩ | ⟨-, long⟩
  · exact here (List.mem_of_head? head) rfl rfl
  · obtain ⟨ht, hp, -⟩ := pointsIn_at hc
    exact here hj ht hp
  · exact absurd long short

end

end Sys2Proof.Machine
end

section
/-! PROOFS. The eyes in line order (R61), and the eyes at which an item misses as it leaves a zone (R72 to
R74). -/

namespace Sys2Proof.Machine

set_option Elab.async false

section
variable {l : Layout} {z : ZoneId} {p : Nat} {e f g : EyeId} {d b c : EyeDef}

/-! ### The eye following one -/

theorem downstreamOf_iff {y : ZoneId} {q : Nat} :
    downstreamOf z p y q = true ↔ z < y ∨ z = y ∧ p < q := by
  unfold downstreamOf
  rw [Bool.or_eq_true, Bool.and_eq_true, decide_eq_true_eq, decide_eq_true_eq, decide_eq_true_eq]

theorem downstreamOf_trans {y x : ZoneId} {q r : Nat} (h : downstreamOf z p y q = true)
    (k : downstreamOf y q x r = true) : downstreamOf z p x r = true := by
  rw [downstreamOf_iff] at *
  simp only [Fin.lt_def, Fin.ext_iff] at *
  omega

theorem downstreamOf_irrefl (z : ZoneId) (p : Nat) : downstreamOf z p z p = false := by
  refine Bool.eq_false_iff.2 fun h => ?_
  rcases downstreamOf_iff.1 h with h | ⟨-, h⟩
  exacts [lt_irrefl _ h, lt_irrefl _ h]

/-- R61: of some eyes, `best` is the nearest downstream of position `p` of zone `z`, if there is any. -/
structure NearestOf (l : Layout) (z : ZoneId) (p : Nat) (seen : List EyeId) (best : Option EyeId) : Prop where
  nearest : ∀ f, best = some f → ∃ c, l.eyes[f] = some c ∧ downstreamOf z p c.zone c.position = true ∧
    ∀ g ∈ seen, ∀ b, l.eyes[g] = some b → downstreamOf z p b.zone b.position = true →
      downstreamOf b.zone b.position c.zone c.position = false
  absent : best = none → ∀ g ∈ seen, ∀ b, l.eyes[g] = some b →
    downstreamOf z p b.zone b.position = false

/-- One eye more. -/
theorem NearestOf.snoc {seen : List EyeId} {best next : Option EyeId} (h : NearestOf l z p seen best)
    (nearest : ∀ f, next = some f → ∃ c, l.eyes[f] = some c ∧
      downstreamOf z p c.zone c.position = true ∧
      (∀ g ∈ seen, ∀ b, l.eyes[g] = some b → downstreamOf z p b.zone b.position = true →
        downstreamOf b.zone b.position c.zone c.position = false) ∧
      ∀ b, l.eyes[e] = some b → downstreamOf z p b.zone b.position = true →
        downstreamOf b.zone b.position c.zone c.position = false)
    (absent : next = none → best = none ∧ ∀ b, l.eyes[e] = some b →
      downstreamOf z p b.zone b.position = false) : NearestOf l z p (seen ++ [e]) next := by
  refine ⟨fun f hf => ?_, fun hn g hg b hb => ?_⟩
  · obtain ⟨c, hc, down, old, new⟩ := nearest f hf
    refine ⟨c, hc, down, fun g hg b hb hd => ?_⟩
    rcases List.mem_append.1 hg with hg | hg
    · exact old g hg b hb hd
    · obtain rfl := List.mem_singleton.1 hg
      exact new b hb hd
  · obtain ⟨none, new⟩ := absent hn
    rcases List.mem_append.1 hg with hg | hg
    · exact h.absent none g hg b hb
    · obtain rfl := List.mem_singleton.1 hg
      exact new b hb

/-- R61: the nearer of an eye and the nearest one so far. -/
def Layout.nearer (l : Layout) (z : ZoneId) (p : Nat) (best : Option EyeId) (e : EyeId) : Option EyeId :=
  match l.eyes[e] with
  | none => best
  | some d =>
    if downstreamOf z p d.zone d.position then
      match best.bind fun b => l.eyes[b] with
      | none => some e
      | some c => if downstreamOf d.zone d.position c.zone c.position then some e else best
    else best

theorem NearestOf.nearer {seen : List EyeId} {best : Option EyeId} (h : NearestOf l z p seen best)
    (e : EyeId) : NearestOf l z p (seen ++ [e]) (l.nearer z p best e) := by
  have keep (skip : ∀ b, l.eyes[e] = some b → downstreamOf z p b.zone b.position = false) :
      NearestOf l z p (seen ++ [e]) best := by
    refine h.snoc (fun f hf => ?_) fun hn => ⟨hn, skip⟩
    obtain ⟨c, hc, down, old⟩ := h.nearest f hf
    exact ⟨c, hc, down, old, fun b hb hd => by rw [skip b hb] at hd; cases hd⟩
  unfold Layout.nearer
  split
  · next he => exact keep fun b hb => by rw [he] at hb; cases hb
  · next d he =>
    have only {b : EyeDef} (hb : l.eyes[e] = some b) : d = b := Option.some.inj (he.symm.trans hb)
    split
    · next down =>
      have self (b : EyeDef) (hb : l.eyes[e] = some b) :
          downstreamOf b.zone b.position d.zone d.position = false :=
        only hb ▸ downstreamOf_irrefl d.zone d.position
      split
      · next hn =>
        have none : best = none := by
          cases best with
          | none => rfl
          | some f =>
            obtain ⟨c, hc, -⟩ := h.nearest f rfl
            exact nomatch hc.symm.trans hn
        refine h.snoc (fun f hf => ?_) nofun
        obtain rfl := Option.some.inj hf
        refine ⟨d, he, down, fun g hg b hb hd => ?_, fun b hb _ => self b hb⟩
        rw [h.absent none g hg b hb] at hd
        cases hd
      · next c hc =>
        obtain ⟨f, rfl, hf⟩ := Option.bind_eq_some_iff.1 hc
        obtain ⟨c', hc', reach, old⟩ := h.nearest f rfl
        obtain rfl : c' = c := Option.some.inj (hc'.symm.trans hf)
        split
        · next nearer =>
          refine h.snoc (fun f hf => ?_) nofun
          obtain rfl := Option.some.inj hf
          refine ⟨d, he, down, fun g hg b hb hd => ?_, fun b hb _ => self b hb⟩
          refine Bool.eq_false_iff.2 fun hh => ?_
          have farther := old g hg b hb hd
          rw [downstreamOf_trans hh nearer] at farther
          cases farther
        · next farther =>
          refine h.snoc (fun x hx => ?_) nofun
          obtain rfl := Option.some.inj hx
          exact ⟨c', hf, reach, old, fun b hb _ => only hb ▸ Bool.eq_false_iff.2 farther⟩
    · next up => exact keep fun b hb => only hb ▸ Bool.eq_false_iff.2 up

theorem eyeDownstream_nearest (l : Layout) (z : ZoneId) (p : Nat) :
    NearestOf l z p allEyes (l.eyeDownstream z p) := by
  have fold (es : List EyeId) : NearestOf l z p es (es.foldl (l.nearer z p) none) := by
    induction es using List.reverseRecOn with
    | nil => exact ⟨nofun, fun _ _ hg => nomatch hg⟩
    | append_singleton es e ih =>
      rw [List.foldl_concat]
      exact ih.nearer e
  exact fold allEyes

theorem mem_allEyes (e : EyeId) : e ∈ allEyes := List.mem_finRange e

theorem eyeFollowing_eq (hd : l.eyes[e] = some d) : l.eyeFollowing e = l.eyeDownstream d.zone d.position := by
  unfold Layout.eyeFollowing
  rw [hd]

/-- R61: the eye following one is the nearest defined eye downstream of it. -/
theorem eyeFollowing_nearest (hd : l.eyes[e] = some d) (hf : l.eyeFollowing e = some f) :
    ∃ c, l.eyes[f] = some c ∧ downstreamOf d.zone d.position c.zone c.position = true ∧
      ∀ (g : EyeId) (b : EyeDef), l.eyes[g] = some b → downstreamOf d.zone d.position b.zone b.position = true →
        downstreamOf b.zone b.position c.zone c.position = false := by
  rw [eyeFollowing_eq hd] at hf
  obtain ⟨c, hc, down, old⟩ := (eyeDownstream_nearest l d.zone d.position).nearest f hf
  exact ⟨c, hc, down, fun g => old g (mem_allEyes g)⟩

theorem eyeFollowing_none_iff (hd : l.eyes[e] = some d) : l.eyeFollowing e = none ↔
    ∀ (g : EyeId) (b : EyeDef), l.eyes[g] = some b → downstreamOf d.zone d.position b.zone b.position = false := by
  have nearest := eyeDownstream_nearest l d.zone d.position
  rw [eyeFollowing_eq hd]
  refine ⟨fun hn g => nearest.absent hn g (mem_allEyes g), fun h => ?_⟩
  cases hf : l.eyeDownstream d.zone d.position with
  | none => rfl
  | some f =>
    obtain ⟨c, hc, down, -⟩ := nearest.nearest f hf
    rw [h f c hc] at down
    cases down

/-! ### The eyes of which a property holds, from one on -/

/-- R61: how many eyes lie downstream of an eye. -/
def Layout.eyesBeyond (l : Layout) (e : EyeId) : Nat :=
  (Finset.univ.filter fun g : EyeId => l.eyes[e].any fun d => l.eyes[g].any fun b =>
    downstreamOf d.zone d.position b.zone b.position).card

theorem eyesBeyond_lt (l : Layout) (e : EyeId) : l.eyesBeyond e < 12 := by
  refine (Finset.card_lt_univ_of_notMem (x := e) ?_).trans_eq (by decide)
  rw [Finset.mem_filter, not_and]
  cases he : l.eyes[e] with
  | none => simp
  | some d => simp [downstreamOf_irrefl]

theorem eyesBeyond_following (hd : l.eyes[e] = some d) (hf : l.eyeFollowing e = some f) :
    l.eyesBeyond f < l.eyesBeyond e := by
  obtain ⟨c, hc, down, -⟩ := eyeFollowing_nearest hd hf
  refine Finset.card_lt_card ⟨fun g => ?_, fun sub => ?_⟩
  · simp only [Finset.mem_filter, Finset.mem_univ, true_and, hc, hd, Option.any_some]
    cases l.eyes[g] with
    | none => exact id
    | some b => exact downstreamOf_trans down
  · have beyond : (l.eyes[e].any fun d => l.eyes[f].any fun b =>
        downstreamOf d.zone d.position b.zone b.position) = true := by
      rw [hd, hc]
      exact down
    have self := (Finset.mem_filter.1 (sub (Finset.mem_filter.2 ⟨Finset.mem_univ f, beyond⟩))).2
    rw [hc] at self
    rw [Option.any_some, Option.any_some, downstreamOf_irrefl] at self
    cases self

section
variable {P : EyeDef → Prop} {next after : Option EyeId} {eyes : List EyeId}

theorem eyesWhile_exists (l : Layout) (P : EyeDef → Prop) (next : Option EyeId) :
    ∃ eyes after, EyesWhile l P next eyes after ∧ eyes.length ≤ 12 := by
  have bounded (n : Nat) (next : Option EyeId) (h : ∀ e ∈ next, l.eyesBeyond e < n) :
      ∃ eyes after, EyesWhile l P next eyes after ∧ eyes.length ≤ n := by
    induction n generalizing next with
    | zero =>
      cases next with
      | none => exact ⟨[], none, ⟨rfl, nofun⟩, le_refl _⟩
      | some e => exact absurd (h e rfl) (Nat.not_lt_zero _)
    | succ n ih =>
      by_cases stop : ∀ e ∈ next, ∀ d ∈ l.eyes[e], ¬ P d
      · exact ⟨[], next, ⟨rfl, stop⟩, Nat.zero_le _⟩
      · push Not at stop
        obtain ⟨e, rfl, d, hd, holds⟩ := stop
        have shorter : ∀ f ∈ l.eyeFollowing e, l.eyesBeyond f < n := fun f hf =>
          Nat.lt_of_lt_of_le (eyesBeyond_following hd hf) (Nat.le_of_lt_succ (h e rfl))
        obtain ⟨eyes, after, chain, len⟩ := ih (l.eyeFollowing e) shorter
        exact ⟨e :: eyes, after, ⟨rfl, ⟨d, hd, holds⟩, chain⟩, Nat.succ_le_succ len⟩
  exact bounded 12 next fun e _ => eyesBeyond_lt l e

theorem eyesWhile_unique {eyes' : List EyeId} {after' : Option EyeId} (h : EyesWhile l P next eyes after)
    (k : EyesWhile l P next eyes' after') : eyes = eyes' ∧ after = after' := by
  induction eyes generalizing next eyes' with
  | nil =>
    obtain ⟨rfl, stop⟩ := h
    cases eyes' with
    | nil => exact ⟨rfl, k.1.symm⟩
    | cons e eyes' =>
      obtain ⟨he, ⟨d, hd, holds⟩, -⟩ := k
      exact absurd holds (stop e he d hd)
  | cons e eyes ih =>
    obtain ⟨he, ⟨d, hd, holds⟩, chain⟩ := h
    cases eyes' with
    | nil => exact absurd holds (k.2 e he d hd)
    | cons f eyes' =>
      obtain ⟨hf, -, chain'⟩ := k
      obtain rfl : e = f := Option.some.inj (he.symm.trans hf)
      obtain ⟨rfl, rfl⟩ := ih chain chain'
      exact ⟨rfl, rfl⟩

/-- R61: a layout has twelve eyes. -/
theorem eyesWhile_length (h : EyesWhile l P next eyes after) : eyes.length ≤ 12 := by
  obtain ⟨eyes', after', chain, len⟩ := eyesWhile_exists l P next
  obtain ⟨rfl, -⟩ := eyesWhile_unique h chain
  exact len

end

end

end Sys2Proof.Machine
end

section
/-! PROOFS. The windows still open as an item leaves its zone (R72 to R74). -/

namespace Sys2Proof.Machine

set_option Elab.async false

section
variable {s w : State} {z : ZoneId} {ahead behind : List Item} {i : Item} {e : EyeId}
  {eyes : List EyeId} {next after : Option EyeId} {n : Nat} {rs : List Report}

theorem withTrack_self (ht : s.zones[z].track = ahead) : s.withTrack z ahead = s := by
  have zones : (s.withTrack z ahead).zones = s.zones := by
    refine Vector.ext fun k hk => ?_
    have one := zone_withTrack s z ⟨k, hk⟩ ahead
    simp only [Fin.getElem_fin] at one ht
    rw [one]
    by_cases h : z = ⟨k, hk⟩
    · subst h
      rw [if_pos rfl, ← ht]
    · rw [if_neg h]
  exact congrArg (fun zones => { s with zones := zones }) zones

theorem withTrack_pool (pool : PoolLaws s) (ht : s.zones[z].track = ahead ++ i :: behind) (j : Item)
    (hj : j.tag = i.tag) (hz : j.zone = i.zone) : PoolLaws (s.withTrack z (ahead ++ j :: behind)) := by
  have step := pool.updateItem i.tag (fun k => { j with tag := k.tag, zone := k.zone }) (fun _ => rfl)
    fun _ => rfl
  rw [pool.updateItem_at ht, ← hj, ← hz] at step
  exact step

theorem withTrack_without (pool : PoolLaws s) (ht : s.zones[z].track = ahead ++ i :: behind) (j : Item)
    (hj : j.tag = i.tag) : (s.withTrack z (ahead ++ j :: behind)).without i.tag = s.without i.tag := by
  have step := updateItem_without s i.tag (f := fun k => { j with tag := k.tag }) fun _ => rfl
  rw [pool.updateItem_at ht, ← hj] at step
  rw [← hj]
  exact step

theorem track_withTrack (s : State) (z : ZoneId) (l : List Item) : (s.withTrack z l).zones[z].track = l := by
  rw [zone_withTrack, if_pos rfl]

/-! ### One step -/

theorem takeWindowEnds_gone (h : s.findItem i.tag = none) : s.takeWindowEnds i.tag z n = s := by
  cases n with
  | zero => rfl
  | succ n =>
    rw [State.takeWindowEnds]
    simp only [h, Option.bind_none]

theorem takeWindowEnds_done (hf : s.findItem i.tag = some i)
    (h : ∀ e ∈ i.nextEye, ∀ d ∈ s.activeLayout.eyes[e], ¬ d.zone = z) :
    s.takeWindowEnds i.tag z n = s := by
  cases n with
  | zero => rfl
  | succ n =>
    rw [State.takeWindowEnds]
    cases he : i.nextEye with
    | none => simp only [hf, Option.bind_some, he]
    | some e =>
      have out : (s.activeLayout.eyes[e].any fun d => decide (d.zone = z)) = false := by
        cases hd : s.activeLayout.eyes[e] with
        | none => rfl
        | some d => exact decide_eq_false (h e he d hd)
      simp only [hf, Option.bind_some, he, out, Bool.false_eq_true, if_false]

theorem takeWindowEnds_step (hf : s.findItem i.tag = some i) (he : i.nextEye = some e)
    (hz : ∃ d ∈ s.activeLayout.eyes[e], d.zone = z) :
    s.takeWindowEnds i.tag z (n + 1) = (s.missEye i.tag e).takeWindowEnds i.tag z n := by
  have here : (s.activeLayout.eyes[e].any fun d => decide (d.zone = z)) = true := by
    obtain ⟨d, hd, hz⟩ := hz
    rw [Option.mem_def.1 hd]
    simpa using hz
  rw [State.takeWindowEnds]
  simp only [hf, Option.bind_some, he, here, if_true]

/-- R72: item `i` past its next eye, with `k` misses more. -/
def Item.past (i : Item) (next : Option EyeId) (k : Nat) : Item :=
  { i with nextEye := next, missRun := i.missRun + k }

/-- R72: an eye that is passed silently. -/
def State.passesSilently (s : State) (i : Item) (e : EyeId) : Prop :=
  i.state = .diverting ∨ s.eyes[e].state = .disabled

theorem openFor_silent (h : s.passesSilently i e) : s.openFor i (e :: eyes) = s.openFor i eyes := by
  unfold State.openFor
  by_cases hd : i.state = .diverting
  · rw [if_pos hd, if_pos hd]
  · have off : s.eyes[e].state = .disabled := h.resolve_left hd
    rw [if_neg hd, if_neg hd, List.filter_cons_of_neg (by rw [off]; decide)]

theorem openFor_open (h : ¬ s.passesSilently i e) : s.openFor i (e :: eyes) = e :: s.openFor i eyes := by
  obtain ⟨hd, on⟩ := not_or.1 h
  unfold State.openFor
  rw [if_neg hd, if_neg hd, List.filter_cons_of_pos (by simpa using on)]

theorem missEye_silent_makes (pool : PoolLaws s) (ht : s.zones[z].track = ahead ++ i :: behind)
    (he : i.nextEye = some e) (silent : s.passesSilently i e) :
    Makes (State.missEye i.tag e) s
      (s.withTrack z (ahead ++ i.past (s.activeLayout.eyeFollowing e) 0 :: behind)) [] := by
  obtain ⟨w, rs, ⟨-, quiet, -⟩, makes⟩ := missEye_makes pool ht he
  obtain ⟨rfl, rfl⟩ := quiet he silent
  exact makes

theorem missEye_open_makes (pool : PoolLaws s) (ht : s.zones[z].track = ahead ++ i :: behind)
    (he : i.nextEye = some e) (loud : ¬ s.passesSilently i e) (lasts : s.outlasts i 1) :
    Makes (State.missEye i.tag e) s
      (s.withTrack z (ahead ++ i.past (s.activeLayout.eyeFollowing e) 1 :: behind)) [] := by
  obtain ⟨w, rs, ⟨-, -, missed, -⟩, makes⟩ := missEye_makes pool ht he
  obtain ⟨safe, room⟩ := lasts.resolve_left (by decide)
  obtain ⟨rfl, rfl⟩ := missed he loud (by rw [safe]; simpa using room)
  exact makes

/-- R73: the state without an item that has been lost, and the report of it. -/
def State.lossOf (s : State) (tag : Nat) : State :=
  { s.without tag with counters := { s.counters with lost := s.counters.lost + 1 } }

/-- R73: LOST for item `i` at eye `e`. -/
def lostAt (z : ZoneId) (e : EyeId) (i : Item) : Report :=
  .lost i.tag z (some e) (if i.flags.atRisk then .shadow else .misses)

theorem missEye_lost_makes (pool : PoolLaws s) (ht : s.zones[z].track = ahead ++ i :: behind)
    (he : i.nextEye = some e) (loud : ¬ s.passesSilently i e) (lost : ¬ s.outlasts i 1) :
    Makes (State.missEye i.tag e) s (s.lossOf i.tag) [lostAt z e i] := by
  obtain ⟨w, rs, ⟨-, -, -, gone⟩, makes⟩ := missEye_makes pool ht he
  have over_ : i.flags.atRisk = true ∨ s.activeLayout.line.missLimit ≤ i.missRun + 1 := by
    obtain ⟨-, h⟩ := not_or.1 lost
    cases hr : i.flags.atRisk with
    | true => exact .inl rfl
    | false => exact .inr (Nat.le_of_not_lt fun hm => h ⟨hr, hm⟩)
  obtain ⟨rfl, rfl⟩ := gone he loud over_
  exact makes

theorem lossOf_gone (s : State) (tag : Nat) : (s.lossOf tag).findItem tag = none := by
  refine findItem_eq_none.2 fun hm => ?_
  obtain ⟨j, hj, rfl⟩ := List.mem_map.1 hm
  obtain ⟨y, hy⟩ := mem_lineItems.1 hj
  have track : (s.lossOf j.tag).zones[y].track = s.zones[y].track.filter fun i => i.tag != j.tag := by
    simp [State.lossOf, State.without]
  rw [track] at hy
  simpa using (List.mem_filter.1 hy).2

/-! ### All that are open -/

theorem takeWindowEnds_makes (pool : PoolLaws s) (ht : s.zones[z].track = ahead ++ i :: behind)
    (due : EyesStillDue s.activeLayout z i.nextEye eyes after) (hn : eyes.length ≤ n) :
    (s.outlasts i (s.openFor i eyes).length → Makes (State.takeWindowEnds i.tag z n) s
      (s.withTrack z (ahead ++ i.past after (s.openFor i eyes).length :: behind)) []) ∧
    ∀ (before rest : List EyeId) (e : EyeId), s.openFor i eyes = before ++ e :: rest →
      s.outlasts i before.length → ¬ s.outlasts i (before.length + 1) →
      Makes (State.takeWindowEnds i.tag z n) s (s.lossOf i.tag) [lostAt z e i] := by
  have found := pool.findItem_at ht
  induction eyes generalizing s i n with
  | nil =>
    obtain ⟨rfl, stop⟩ := due
    have none : s.openFor i [] = [] := by
      unfold State.openFor
      split <;> rfl
    rw [none]
    refine ⟨fun _ => ?_, fun before rest e h => ?_⟩
    · have same : s.withTrack z (ahead ++ i.past i.nextEye ([] : List EyeId).length :: behind) = s :=
        withTrack_self ht
      rw [same]
      refine (makes_refl s).congr fun qs k => ?_
      exact takeWindowEnds_done (by rw [noted_findItem]; exact found)
        (by rw [noted_activeLayout]; exact stop)
    · cases before <;> cases h
  | cons f eyes ih =>
    obtain ⟨he, ⟨d, hd, hz⟩, chain⟩ := due
    obtain ⟨n, rfl⟩ : ∃ m, n = m + 1 := ⟨n - 1, by rw [List.length_cons] at hn; omega⟩
    have short : eyes.length ≤ n := Nat.le_of_succ_le_succ hn
    have step {t w : State} {rs qs : List Report} (one : Makes (State.missEye i.tag f) s t rs)
        (rest : Makes (State.takeWindowEnds i.tag z n) t w qs) :
        Makes (State.takeWindowEnds i.tag z (n + 1)) s w (rs ++ qs) :=
      (one.andThen rest).congr fun qs k =>
        takeWindowEnds_step (by rw [noted_findItem]; exact found) he
          (by rw [noted_activeLayout]; exact ⟨d, hd, hz⟩)
    -- What the rest of the eyes make of the item past this one.
    have rest (k : Nat) := ih (s := s.withTrack z (ahead ++ i.past (s.activeLayout.eyeFollowing f) k :: behind))
      (i := i.past (s.activeLayout.eyeFollowing f) k)
      (withTrack_pool pool ht (i.past (s.activeLayout.eyeFollowing f) k) rfl rfl)
      (track_withTrack s z _) chain short
      ((withTrack_pool pool ht (i.past (s.activeLayout.eyeFollowing f) k) rfl rfl).findItem_at
        (track_withTrack s z _))
    have loss (k : Nat) : (s.withTrack z (ahead ++ i.past (s.activeLayout.eyeFollowing f) k ::
        behind)).lossOf i.tag = s.lossOf i.tag :=
      congrArg (fun t : State => { t with counters := { s.counters with lost := s.counters.lost + 1 } })
        (withTrack_without pool ht (i.past (s.activeLayout.eyeFollowing f) k) rfl)
    by_cases silent : s.passesSilently i f
    · rw [openFor_silent silent]
      have one := missEye_silent_makes pool ht he silent
      obtain ⟨lasts, falls⟩ := rest 0
      rw [withTrack_withTrack] at lasts
      refine ⟨fun h => step one (lasts h), fun before rest e h hl hn => ?_⟩
      exact step one ((falls before rest e h hl hn).of_eq (loss 0))
    · rw [openFor_open silent]
      obtain ⟨lasts, falls⟩ := rest 1
      have fewer {m : Nat} (h : s.outlasts i (m + 1)) : s.outlasts i 1 ∧
          (s.withTrack z (ahead ++ i.past (s.activeLayout.eyeFollowing f) 1 :: behind)).outlasts
            (i.past (s.activeLayout.eyeFollowing f) 1) m := by
        obtain ⟨safe, room⟩ := h.resolve_left (Nat.succ_ne_zero m)
        refine ⟨.inr ⟨safe, by omega⟩, .inr ⟨safe, ?_⟩⟩
        have more : i.missRun + 1 + m < s.activeLayout.line.missLimit := by omega
        exact more
      have more {m : Nat} (h : (s.withTrack z (ahead ++ i.past (s.activeLayout.eyeFollowing f) 1 ::
          behind)).outlasts (i.past (s.activeLayout.eyeFollowing f) 1) (m + 1)) : s.outlasts i (m + 1 + 1) := by
        obtain ⟨safe, room⟩ := h.resolve_left (Nat.succ_ne_zero m)
        have total : i.missRun + 1 + (m + 1) < s.activeLayout.line.missLimit := room
        exact .inr ⟨safe, by omega⟩
      refine ⟨fun h => ?_, fun before rest e h hl hn => ?_⟩
      · obtain ⟨one, later⟩ := fewer h
        have all := step (missEye_open_makes pool ht he silent one) (lasts later)
        rw [withTrack_withTrack] at all
        refine all.of_eq ?_
        have count : i.missRun + 1 + (s.openFor i eyes).length = i.missRun + ((s.openFor i eyes).length + 1) := by
          omega
        exact congrArg (fun k => s.withTrack z (ahead ++ { i with nextEye := after, missRun := k } :: behind))
          count
      · cases before with
        | nil =>
          obtain ⟨rfl, rfl⟩ := List.cons.inj h
          refine step (missEye_lost_makes pool ht he silent hn) ((makes_refl _).congr fun qs k => ?_)
          exact takeWindowEnds_gone (by rw [noted_findItem]; exact lossOf_gone s i.tag)
        | cons a before =>
          obtain ⟨rfl, tail⟩ := List.cons.inj h
          obtain ⟨one, later⟩ := fewer hl
          exact step (missEye_open_makes pool ht he silent one)
            ((falls before rest e tail later fun hm => hn (more hm)).of_eq (loss 1))

end

end Sys2Proof.Machine
end

section
/-! PROOFS. A pulse that brings one item to the end of a window (R10, R61, R72 to R74):
`WindowEndIsAMissOrASilentPass`. -/

namespace Sys2Proof.Machine

set_option Elab.async false

section
variable {s u w : State} {z y : ZoneId} {ahead behind : List Item} {i : Item} {b c : Crossing} {e : EyeId}
  {rs : List Report} {f : State → State}

theorem Makes.apply (h : Makes f s w rs) (free : w.freeIndex = s.freeIndex) : f s = w.postAll rs := by
  have made : f s = w.noted rs s.freeIndex := h [] s.freeIndex
  rw [made]
  unfold State.noted
  rw [← free, postAll_frame rs w]

/-! ### A transfer that meets its item's return -/

theorem tailPosition_place (pool : PoolLaws s) (y : ZoneId) :
    s.tailPosition y = s.zones[y].track.getLast?.map (s.place y) := by
  unfold State.tailPosition
  cases hl : s.zones[y].track.getLast? with
  | none => rfl
  | some i => exact congrArg some (pool.place_eq (List.mem_of_getLast? hl)).symm

theorem clampAtTail_eq_none {tail : Option Nat} {p : Nat} : clampAtTail tail p = none ↔ tail = some 0 := by
  unfold clampAtTail
  split
  · simp
  · next q => split_ifs <;> simp <;> omega

/-- R188: the model's test of a transfer that meets the item's return. -/
theorem transferMeetsReturn_iff (pool : PoolLaws s) (hz : i.zone = z) :
    s.transferMeetsReturn z i = true ↔ MeetsReturn s z i := by
  have returned : s.justReturned i = true ↔ i.returnedAt = some (s.zones[z].count - 1) := by
    have here : s.zones[i.zone] = s.zones[z] := congrArg (fun z : ZoneId => s.zones[z]) hz
    unfold State.justReturned
    rw [here]
    cases i.returnedAt with
    | none => simp
    | some k =>
      rw [Option.any_some, decide_eq_true_eq, Option.some.injEq, eq_sub_iff_add_eq]
      exact eq_comm
  unfold State.transferMeetsReturn
  rw [Bool.and_eq_true, returned]
  refine and_congr_right fun _ => ?_
  unfold State.transferPlace
  rw [Option.isSome_iff_exists]
  constructor
  · rintro ⟨x, hx⟩
    obtain ⟨y, hy, place⟩ := Option.bind_eq_some_iff.1 hx
    obtain ⟨next, used⟩ := zoneAfter_eq_some.1 hy
    refine ⟨y, next, used, fun h => ?_⟩
    rw [← tailPosition_place pool] at h
    rw [clampAtTail_eq_none.2 h] at place
    cases place
  · rintro ⟨y, next, used, open_⟩
    rw [zoneAfter_eq_some.2 ⟨next, used⟩, Option.bind_some]
    cases hc : clampAtTail (s.tailPosition y) (s.activeLayout.entryOffset y) with
    | none =>
      rw [clampAtTail_eq_none, tailPosition_place pool] at hc
      exact absurd hc open_
    | some place => exact ⟨_, rfl⟩

/-! ### What a pulse owes of the other items -/

theorem others_calm (pool : PoolLaws s) (ht : s.zones[z].track = ahead ++ i :: behind)
    (quiet : QuietFor s z (ahead ++ behind)) (hc : c ∈ (s.pulsed z).pulseOwed z) :
    c.tag ≠ i.tag ∧ Calm (s.pulsed z) c ∨
    c ∈ s.activeLayout.pointsIn i.tag z (((s.pulsed z).position i : Int) - 1) ((s.pulsed z).position i) ∨
    ahead = [] ∧ (s.pulsed z).place z i = s.activeLayout.zoneLength z ∧
      c = ⟨i.tag, (s.pulsed z).position i, .zoneEnd⟩ := by
  obtain ⟨still, span⟩ := quiet
  have pulsed := pulsed_pool pool z
  have track := pulsed_track s z z
  obtain ⟨front, back, -⟩ := pool.apart ht
  have nothing {j : Item} (hj : j ∈ ahead ++ behind) :
      NothingAt (s.pulsed z) z ((s.pulsed z).place z j) j := still j hj
  have other {j : Item} (hj : j ∈ ahead ++ behind) : j.tag ≠ i.tag :=
    (List.mem_append.1 hj).elim (front j) (back j)
  have cases_ {j : Item} (hj : j ∈ (s.pulsed z).zones[z].track) : j = i ∨ j ∈ ahead ++ behind := by
    rw [track, ht] at hj
    simpa [or_left_comm] using hj
  rcases owed_cases hc with ⟨j, head, ends, rfl⟩ | ⟨j, hj, hc⟩ | ⟨-, long⟩
  · have hj := List.mem_of_head? head
    rw [← pulsed.place_eq hj] at ends
    rcases cases_ hj with rfl | hm
    · refine .inr (.inr ⟨?_, ends, rfl⟩)
      rw [track, ht] at head
      cases ahead with
      | nil => rfl
      | cons k ahead => exact absurd (congrArg Item.tag (Option.some.inj head)) (front k (.head _))
    · exact absurd ends (nothing hm).1
  · rcases cases_ hj with rfl | hm
    · exact .inr (.inl hc)
    · exact .inl ⟨by rw [(pointsIn_tag hc).1]; exact other hm, (nothing hm).calm pulsed hj hc⟩
  · exact absurd long (span_short span)

/-! ### The obligation -/

/-- R72: an item that has passed its next eye with `k` misses more passes the points at which it stands. -/
theorem past_calm {k p : Nat} {next : Option EyeId} (pool : PoolLaws s)
    (ht : s.zones[z].track = ahead ++ i :: behind) (hp : s.position i = p)
    (triggers : ∀ v : DiverterId, TriggersAt s.activeLayout z p v → s.passesBy i v)
    (eyes : ∀ f ∈ next, ¬ EyeEndsAt s.activeLayout z p f)
    (hc : c ∈ s.activeLayout.pointsIn i.tag z ((p : Int) - 1) p) :
    (s.withTrack z (ahead ++ i.past next k :: behind)).actsAt c = false := by
  have moved := withTrack_pool pool ht (i.past next k) rfl rfl
  have track := track_withTrack s z (ahead ++ i.past next k :: behind)
  have mem : i.past next k ∈ (s.withTrack z (ahead ++ i.past next k :: behind)).zones[z].track := by
    rw [track]
    simp
  have here : (s.withTrack z (ahead ++ i.past next k :: behind)).place z (i.past next k) = p := by
    have stood := pool.place_eq (i := i) (by rw [ht]; simp)
    have count := congrArg ZoneUnit.count (zone_withTrack s z z (ahead ++ i.past next k :: behind))
    unfold State.place at stood ⊢
    rw [count, ← hp, ← stood]
    rfl
  refine (calm_at moved mem (c := c) (fun f hf at_ _ => ?_) (fun v at_ _ => ?_) ?_).idle
  · rw [here] at at_
    exact absurd at_ (eyes f hf)
  · rw [here] at at_
    exact triggers v at_
  · rw [moved.place_eq mem] at here
    rw [here]
    exact hc

/-- R72, R73: what the end of its next eye's window makes of an item. -/
theorem missEye_outcome (pool : PoolLaws s) (ht : s.zones[z].track = ahead ++ i :: behind)
    (he : i.nextEye = some e) : ∃ w rs, WindowMet s z ahead behind i e w rs ∧
      s.missEye i.tag e = w.postAll rs ∧
      (w = s.lossOf i.tag ∨ ∃ k, w = s.withTrack z
        (ahead ++ i.past (s.activeLayout.eyeFollowing e) k :: behind)) := by
  obtain ⟨w, rs, met, makes⟩ := missEye_makes pool ht he
  refine ⟨w, rs, met, ?_⟩
  obtain ⟨-, silent, misses, gone⟩ := met
  by_cases quiet : i.state = .diverting ∨ s.eyes[e].state = .disabled
  · obtain ⟨rfl, rfl⟩ := silent he quiet
    exact ⟨makes.apply rfl, .inr ⟨0, rfl⟩⟩
  · by_cases lost : i.flags.atRisk = true ∨ s.activeLayout.line.missLimit ≤ i.missRun + 1
    · obtain ⟨rfl, rfl⟩ := gone he quiet lost
      exact ⟨makes.apply rfl, .inl rfl⟩
    · obtain ⟨rfl, rfl⟩ := misses he quiet lost
      exact ⟨makes.apply rfl, .inr ⟨1, rfl⟩⟩

theorem postAll_actsAt (s : State) (rs : List Report) (c : Crossing) :
    (s.postAll rs).actsAt c = s.actsAt c := by
  rw [postAll_frame]
  rfl

theorem postAll_findItem (s : State) (rs : List Report) (tag : Nat) :
    (s.postAll rs).findItem tag = s.findItem tag := by
  rw [postAll_frame]
  rfl

/-- R72: a pulse that brings one item to the end of its next eye's window. -/
theorem pulse_windowEnd (pool : PoolLaws s) (ha : s.resetActive = false) (hm : s.module ≠ .unconfigured)
    (ht : s.zones[z].track = ahead ++ i :: behind) (hz : s.activeLayout.zones[z].isSome = true)
    (quiet : QuietFor s z (ahead ++ behind))
    (triggers : ∀ v : DiverterId, TriggersAt s.activeLayout z ((s.pulsed z).place z i) v → s.passesBy i v)
    (he : i.nextEye = some e) (ends : EyeEndsAt s.activeLayout z ((s.pulsed z).place z i) e)
    (inside : (s.pulsed z).place z i < s.activeLayout.zoneLength z)
    (next : ∀ f ∈ s.activeLayout.eyeFollowing e,
      ¬ EyeEndsAt s.activeLayout z ((s.pulsed z).place z i) f) :
    Leads (.encoderPulse z) s fun t => ∃ (w : State) (rs : List Report),
      WindowMet (s.pulsed z) z ahead behind i e w rs ∧ BringsAway s w t rs := by
  have pulsed := pulsed_pool pool z
  have track : (s.pulsed z).zones[z].track = ahead ++ i :: behind := (pulsed_track s z z).trans ht
  have mem : i ∈ (s.pulsed z).zones[z].track := by rw [track]; simp
  have place := pulsed.place_eq mem
  generalize hp : (s.pulsed z).position i = p at place
  rw [place] at triggers ends inside next
  obtain ⟨w, rs, met, missed, outcome⟩ := missEye_outcome pulsed track he
  have crossed : ((s.pulsed z).cross ⟨i.tag, p, .windowEnd e⟩).1 = w.postAll rs := missed
  have more : ((s.pulsed z).cross ⟨i.tag, p, .windowEnd e⟩).2 = [] := rfl
  have owed : (⟨i.tag, p, .windowEnd e⟩ : Crossing) ∈ (s.pulsed z).pulseOwed z := by
    refine List.mem_append_left _ (List.mem_append_right _ (List.mem_flatMap.2 ⟨i, mem, ?_⟩))
    rw [hp]
    exact windowEnd_mem_pointsIn_at ends inside i.tag
  have own {c : Crossing} (hc : c ∈ (s.pulsed z).pulseOwed z) (tag : c.tag = i.tag) :
      c ∈ s.activeLayout.pointsIn i.tag z ((p : Int) - 1) p := by
    rcases others_calm pool ht quiet hc with ⟨hn, -⟩ | hc | ⟨-, full, -⟩
    · exact absurd tag hn
    · rwa [hp] at hc
    · rw [place] at full
      omega
  have taken : s.pulse z = w.postAll rs := by
    rw [pulse_takes hm hz, ← crossed]
    refine takeAll_one pulsed (pulseOwed_nodup pulsed z) owed
      (pulseOwed_isLowest pulsed mem (span_short quiet.2) rfl place.symm) ?_ nofun (fun c hc hne => ?_)
      nofun fun c hc tag => ?_
    · unfold State.actsAt
      simp only [pulsed.findItem_at track, Option.any_some, he, decide_true]
    · by_cases tag : c.tag = i.tag
      · refine calm_at pulsed mem (fun f hf at_ _ hpt => hne ?_) (fun v at_ _ => ?_)
          (by rw [hp]; exact own hc tag)
        · obtain ⟨ht, hpos, -⟩ := pointsIn_at (own hc tag)
          obtain rfl := Option.some.inj (he.symm.trans hf)
          obtain ⟨ctag, cpos, cpt⟩ := c
          dsimp only at ht hpos hpt
          rw [ht, hpos, hpt]
        · rw [place] at at_
          exact triggers v at_
      · rcases others_calm pool ht quiet hc with ⟨-, calm⟩ | hc | ⟨-, -, rfl⟩
        · exact calm
        · exact absurd (pointsIn_tag hc).1 tag
        · exact absurd rfl tag
    · rw [crossed, postAll_actsAt]
      rcases mem_owedAfter.1 hc with ⟨hm, -, present⟩ | ⟨hm, -⟩
      · rcases outcome with rfl | ⟨k, rfl⟩
        · rw [crossed, postAll_findItem, lossOf_gone] at present
          exact absurd tag (present.resolve_left nofun)
        · exact past_calm pulsed track hp triggers next (own hm tag)
      · rw [more] at hm
        cases hm
  obtain ⟨t, step, brings⟩ := pulse_happens ha taken
  exact ⟨t, step, w, rs, met, brings⟩

/-- R74: the leaving of its zone by an item that is lost at a window still open there. -/
theorem leaveZone_loses {eyes before rest : List EyeId} {after : Option EyeId} (pool : PoolLaws s)
    (ht : s.zones[z].track = i :: behind) (away : ¬ MeetsReturn s z i)
    (due : EyesStillDue s.activeLayout z i.nextEye eyes after)
    (missed : s.openFor i eyes = before ++ e :: rest) (lasts : s.outlasts i before.length)
    (lost : ¬ s.outlasts i (before.length + 1)) (qs : List Report) (k : Nat) :
    (s.noted qs k).leaveZone i.tag z = ((s.lossOf i.tag).noted (qs ++ [lostAt z e i]) k, []) := by
  have track : s.zones[z].track = [] ++ i :: behind := ht
  have zone : i.zone = z := pool.zone z i (by rw [ht]; simp)
  have meets : ((s.noted qs k).findItem i.tag).any ((s.noted qs k).transferMeetsReturn z) = false := by
    have reads : (s.noted qs k).transferMeetsReturn z i = s.transferMeetsReturn z i := by
      rw [noted_frame]
      rfl
    rw [noted_findItem, pool.findItem_at track, Option.any_some, reads]
    exact Bool.eq_false_iff.2 fun h => away ((transferMeetsReturn_iff pool zone).1 h)
  have ends := (takeWindowEnds_makes pool track due (eyesWhile_length due)).2 before rest e missed lasts
    lost qs k
  have gone : ((s.lossOf i.tag).noted (qs ++ [lostAt z e i]) k).findItem i.tag = none := by
    rw [noted_findItem]
    exact lossOf_gone s i.tag
  unfold State.leaveZone
  simp only [meets, Bool.false_eq_true, if_false, ends, gone]

/-- R7, R35: an item that is released as it leaves its zone owes nothing more. -/
theorem owedAfter_released {owed : List Crossing} {t : State} (gone : t.findItem b.tag = none)
    (hc : c ∈ owedAfter owed b (t, [])) : c.tag ≠ b.tag := by
  rcases mem_owedAfter.1 hc with ⟨-, -, present⟩ | ⟨hm, -⟩
  · rw [gone] at present
    exact present.resolve_left nofun
  · cases hm

/-- R8: the head of a zone at the zone's length owes its leaving. -/
theorem zoneEnd_owed (pool : PoolLaws u) (ht : u.zones[z].track = i :: behind)
    (full : u.place z i = u.activeLayout.zoneLength z) :
    (⟨i.tag, u.position i, .zoneEnd⟩ : Crossing) ∈ u.pulseOwed z := by
  have mem : i ∈ u.zones[z].track := by rw [ht]; simp
  rw [pool.place_eq mem] at full
  refine List.mem_append_left _ (List.mem_append_left _ ?_)
  unfold State.zoneEndOwed
  simp only [ht, List.head?_cons, full, if_true, List.mem_singleton]

/-- R10, R74: a pulse that brings the head of a zone to the zone's length takes its leaving first of all that
comes of anything. -/
theorem pulse_leaves (pool : PoolLaws s) (hm : s.module ≠ .unconfigured)
    (ht : s.zones[z].track = i :: behind) (hz : s.activeLayout.zones[z].isSome = true)
    (quiet : QuietFor s z behind)
    (triggers : ∀ v : DiverterId, TriggersAt s.activeLayout z ((s.pulsed z).place z i) v → s.passesBy i v)
    (full : (s.pulsed z).place z i = s.activeLayout.zoneLength z)
    (gone : ((s.pulsed z).leaveZone i.tag z).1.findItem i.tag = none)
    (none : ((s.pulsed z).leaveZone i.tag z).2 = []) :
    s.pulse z = ((s.pulsed z).leaveZone i.tag z).1 := by
  have pulsed := pulsed_pool pool z
  have track : (s.pulsed z).zones[z].track = i :: behind := (pulsed_track s z z).trans ht
  have mem : i ∈ (s.pulsed z).zones[z].track := by rw [track]; simp
  have zone : i.zone = z := pulsed.zone z i mem
  have found : (s.pulsed z).findItem i.tag = some i := pulsed.findItem_at (front := []) track
  have crossed : (s.pulsed z).cross ⟨i.tag, (s.pulsed z).position i, .zoneEnd⟩ =
      (s.pulsed z).leaveZone i.tag z := by
    unfold State.cross
    simp only [found, zone]
  rw [← crossed] at gone none ⊢
  rw [pulse_takes hm hz]
  refine takeAll_one pulsed (pulseOwed_nodup pulsed z) (zoneEnd_owed pulsed track full)
    (pulseOwed_isLowest pulsed mem (span_short quiet.2) rfl (pulsed.place_eq mem).symm) rfl nofun
    (fun c hc hne => ?_) nofun fun c hc tag => ?_
  · rcases others_calm pool (ahead := []) ht quiet hc with ⟨-, calm⟩ | hc | ⟨-, -, rfl⟩
    · exact calm
    · exact calm_at pulsed mem (fun f _ _ inside => absurd full (Nat.ne_of_lt inside))
        (fun v at_ _ => triggers v at_) hc
    · exact absurd rfl hne
  · have pair : (s.pulsed z).cross ⟨i.tag, (s.pulsed z).position i, .zoneEnd⟩ =
        (((s.pulsed z).cross ⟨i.tag, (s.pulsed z).position i, .zoneEnd⟩).1, []) :=
      Prod.ext rfl none
    rw [pair] at hc
    exact absurd tag (owedAfter_released gone hc)

/-- R61: nearest downstream, as positions of zones compare. -/
theorem downstreamOf_false {d c : EyeDef} (h : downstreamOf d.zone d.position c.zone c.position = false) :
    ¬ (d.zone < c.zone ∨ d.zone = c.zone ∧ d.position < c.position) := fun hd => by
  rw [downstreamOf_iff.2 hd] at h
  cases h

/-- Settles O51: the one crossing that acts, and for the eyes the nearest one downstream. -/
theorem windowEndIsAMissOrASilentPass : Obligations.WindowEndIsAMissOrASilentPass := by
  refine ⟨fun s z ahead behind i hr ha hm ht hz => ?_, fun l e d hd => ⟨fun f hf => ?_, ?_⟩⟩
  · have pool := ((recordLaws_iff s).1 hr).booked.pool
    intro l u p quiet triggers
    refine ⟨fun e he ends inside next =>
      pulse_windowEnd pool ha hm ht hz quiet triggers he ends inside next, ?_⟩
    rintro full rfl away eyes after due before rest e missed lasts lost
    have track : u.zones[z].track = i :: behind := (pulsed_track s z z).trans ht
    have leaves : u.leaveZone i.tag z =
        ((u.lossOf i.tag).postAll [lostAt z e i], []) :=
      (leaveZone_loses (pulsed_pool pool z) track away due missed lasts lost [] u.freeIndex).trans
        (congrArg (fun t : State => (t, ([] : List Crossing))) (by
          unfold State.noted
          rfl))
    refine pulse_happens ha (.trans (pulse_leaves pool hm ht hz quiet triggers full ?_ ?_) ?_) <;>
      rw [leaves]
    · dsimp only
      rw [postAll_findItem]
      exact lossOf_gone u i.tag
    · rfl
  · obtain ⟨c, hc, down, near⟩ := eyeFollowing_nearest hd hf
    exact ⟨c, hc, downstreamOf_iff.1 down, fun g b hb hdown =>
      downstreamOf_false (near g b hb (downstreamOf_iff.2 hdown))⟩
  · rw [eyeFollowing_none_iff hd]
    refine ⟨fun h g b hb => downstreamOf_false (h g b hb), fun h g b hb => ?_⟩
    exact Bool.eq_false_iff.2 fun hh => h g b hb (downstreamOf_iff.1 hh)

end

end Sys2Proof.Machine
end

section
/-! PROOFS. The induction of an item (R36, R37, R49, R52 to R56): `InductionMakesTheItem`. -/

namespace Sys2Proof.Machine

set_option Elab.async false

section
variable {b s : State} {e : EyeId} {d : EyeDef} {length k n t : Nat} {overlength : Bool} {item : Item}

/-! ### The tag -/

theorem firstUnused_at (ht : IsAnonymous t) (hk : k < n) (used : ∀ m < k, anonymousFrom t m ∈ s.lineTags)
    (free : anonymousFrom t k ∉ s.lineTags) : s.firstUnused n t = anonymousFrom t k := by
  induction n generalizing t k with
  | zero => exact absurd hk (Nat.not_lt_zero k)
  | succ n ih =>
    unfold State.firstUnused
    cases k with
    | zero =>
      rw [anonymousFrom_zero ht] at free ⊢
      rw [findItem_eq_none.2 free]
      rfl
    | succ k =>
      have first := used 0 (Nat.succ_pos k)
      rw [anonymousFrom_zero ht] at first
      rw [if_pos (findItem_isSome.2 first), ← anonymousFrom_after ht]
      refine ih (anonymousAfter_isAnonymous ht) (Nat.lt_of_succ_lt_succ hk) (fun m hm => ?_) ?_
      · rw [anonymousFrom_after ht]
        exact used (m + 1) (Nat.succ_lt_succ hm)
      · rw [anonymousFrom_after ht]
        exact free

/-- R36: the `k`-th anonymous tag is the first that nothing carries. -/
structure FirstFree (s : State) (k : Nat) : Prop where
  used : ∀ n < k, s.anonymousTag n ∈ s.lineTags
  free : s.anonymousTag k ∉ s.lineTags

theorem allocateTag_at (ht : IsAnonymous s.nextAnonymous) (hl : s.lineTags.length < Config.itemRecords)
    (h : FirstFree s k) : s.allocateTag = s.anonymousTag k := by
  refine firstUnused_at ht ?_ h.used h.free
  by_contra hk
  have distinct : ((List.range Config.itemRecords).map (anonymousFrom s.nextAnonymous)).Nodup := by
    refine List.Nodup.map_on (fun j hj m hm => anonymousFrom_inj ?_ ?_) List.nodup_range
    · exact (List.mem_range.1 hj).trans (by decide)
    · exact (List.mem_range.1 hm).trans (by decide)
  have sub : (List.range Config.itemRecords).map (anonymousFrom s.nextAnonymous) ⊆ s.lineTags := by
    intro x hx
    obtain ⟨j, hj, rfl⟩ := List.mem_map.1 hx
    exact h.used j ((List.mem_range.1 hj).trans_le (Nat.le_of_not_lt hk))
  have := (distinct.subperm sub).length_le
  rw [List.length_map, List.length_range] at this
  omega

theorem anonymousAfter_tag (s : State) (k : Nat) :
    anonymousAfter (s.anonymousTag k) = s.anonymousTag (k + 1) := by
  unfold anonymousAfter State.anonymousTag
  split <;> simp only [Config.firstAnonymousTag, Config.lastTag] at * <;> omega

/-! ### The record -/

theorem lengthMismatch_eq (expected : Option Nat) (length tolerance : Nat) :
    lengthMismatch expected length tolerance =
      expected.any fun x => decide (x + tolerance < length ∨ length + tolerance < x) := by
  cases expected with
  | none => rfl
  | some x =>
    rw [lengthMismatch, Option.any_some, Option.any_some]
    exact decide_eq_decide.2 (by omega)

/-- R53: what an induction makes of the announcements and of the next anonymous tag. -/
def State.takenFrom (b t : State) (k : Nat) : State :=
  { t with
    announcements := b.announcements.tail
    nextAnonymous := if b.announcements.isEmpty then b.anonymousTag (k + 1) else b.nextAnonymous }

/-- R53: an announcement, or the anonymous tag `x` with `y` after it, is taken. -/
theorem pair_of {x y : Nat} (tag : b.takeRecord.allocateTag = x) (next : anonymousAfter x = y) :
    b.takeRecord.pair length overlength (b.activeLayout.eyeFollowing e) =
      ({ b.takeRecord with
         announcements := b.announcements.tail
         nextAnonymous := if b.announcements.isEmpty then y else b.nextAnonymous },
       { b.inductedItem e d length overlength k with
         base := 0, tag := (b.announcements.head?.map Announcement.tag).getD x }) := by
  have layout : b.takeRecord.activeLayout = b.activeLayout := rfl
  have same : b.takeRecord.announcements = b.announcements := rfl
  have counter : b.takeRecord.nextAnonymous = b.nextAnonymous := rfl
  unfold State.pair State.inductedItem
  rw [same, layout, tag, next]
  cases b.announcements with
  | nil => simp [anonymousItem, Flags.none, layout]
  | cons a rest => simp [announcedItem, Flags.none, lengthMismatch_eq, counter, layout]

/-- R53, R55: the record of the oldest announcement, or of the next unused anonymous tag. -/
theorem pair_eq (pool : PoolLaws b) (free : 1 ≤ b.freeRecords) (first : FirstFree b k) :
    b.takeRecord.pair length overlength (b.activeLayout.eyeFollowing e) =
      (b.takenFrom b.takeRecord k, { b.inductedItem e d length overlength k with base := 0 }) := by
  have line : b.takeRecord.lineItems = b.lineItems := lineItems_congr (takeRecord_track b)
  have tags : b.takeRecord.lineTags = b.lineTags := congrArg (List.map Item.tag) line
  have counter : b.takeRecord.nextAnonymous = b.nextAnonymous := rfl
  have numbers (n : Nat) : b.takeRecord.anonymousTag n = b.anonymousTag n := by
    unfold State.anonymousTag
    rw [counter]
  have tag : b.takeRecord.allocateTag = b.anonymousTag k := by
    rw [← numbers]
    refine allocateTag_at (s := b.takeRecord) (k := k) ?_ ?_ ⟨fun n hn => ?_, ?_⟩
    · rw [counter]
      exact pool.anonymous
    · rw [tags]
      have total := pool.free
      omega
    · rw [numbers, tags]
      exact first.used n hn
    · rw [numbers, tags]
      exact first.free
  exact pair_of tag (anonymousAfter_tag b k)

/-! ### The record placed -/

/-- R37, R54: zone 0 with `item` at its tail. -/
def State.tailedZone (b : State) (item : Item) : ZoneUnit :=
  { b.zones[(0 : ZoneId)] with
    reasons := { b.zones[(0 : ZoneId)].reasons with
      poolLow := decide (b.freeRecords - 1 < b.activeLayout.line.poolReserve) }
    track := b.zones[(0 : ZoneId)].track ++ [item] }

/-- R37, R52 to R54: `b` with `item` at the tail of zone 0, before it is assigned. -/
def State.broughtIn (b : State) (item : Item) (k : Nat) : State :=
  { b with
    freeRecords := b.freeRecords - 1
    announcements := b.announcements.tail
    nextAnonymous := if b.announcements.isEmpty then b.anonymousTag (k + 1) else b.nextAnonymous
    zones := b.zones.set 0 (b.tailedZone item) }

theorem takeRecord_zones (hm : b.module ≠ .unconfigured) : b.takeRecord.zones =
    b.zones.set 0 { b.zones[(0 : ZoneId)] with
      reasons := { b.zones[(0 : ZoneId)].reasons with
        poolLow := decide (b.freeRecords - 1 < b.activeLayout.line.poolReserve) } } := by
  have configured : b.configured = true := by simp [State.configured, hm]
  have zones : b.takeRecord.zones =
      b.zones.set 0 { b.zones[(0 : ZoneId)] with
        reasons := { b.zones[(0 : ZoneId)].reasons with
          poolLow := b.configured &&
            decide (b.freeRecords - 1 < b.activeLayout.line.poolReserve) } } := rfl
  rw [zones, configured]
  rfl

theorem placed_eq (hm : b.module ≠ .unconfigured) (asked : Nat) :
    (b.takenFrom b.takeRecord k).appendItem 0 asked { item with base := 0 } =
      b.broughtIn { item with zone := 0, base := b.zones[(0 : ZoneId)].count - BitVec.ofNat 24 asked } k := by
  have same : (b.takenFrom b.takeRecord k).zones = b.takeRecord.zones := rfl
  have zones : ((b.takenFrom b.takeRecord k).appendItem 0 asked { item with base := 0 }).zones =
      (b.broughtIn { item with
        zone := 0, base := b.zones[(0 : ZoneId)].count - BitVec.ofNat 24 asked } k).zones := by
    unfold State.appendItem State.modifyZone State.baseFor State.broughtIn State.tailedZone
    dsimp only
    rw [same, takeRecord_zones hm]
    simp
  exact congrArg (fun zones => { b.takenFrom b.takeRecord k with zones := zones }) zones

theorem broughtIn_zone (b : State) (item : Item) (k : Nat) (z : ZoneId) :
    (b.broughtIn item k).zones[z] = if 0 = z then b.tailedZone item else b.zones[z] :=
  getElem_set_fin b.zones (0 : ZoneId) z (b.tailedZone item)

theorem broughtIn_track (b : State) (item : Item) (k : Nat) (z : ZoneId) :
    (b.broughtIn item k).zones[z].track = b.zones[z].track ++ if z = 0 then [item] else [] := by
  rw [broughtIn_zone]
  by_cases hz : 0 = z
  · subst hz
    rfl
  · rw [if_neg hz, if_neg (Ne.symm hz), List.append_nil]

theorem broughtIn_count (b : State) (item : Item) (k : Nat) (z : ZoneId) :
    (b.broughtIn item k).zones[z].count = b.zones[z].count := by
  rw [broughtIn_zone]
  by_cases hz : 0 = z
  · subst hz
    rfl
  · rw [if_neg hz]

/-- R52 to R54: the state of an induction whose item stands below every other of zone 0. -/
structure Inducing (b : State) (e : EyeId) (d : EyeDef) (length k : Nat) : Prop where
  lawful : Lawful b
  module : b.module ≠ .unconfigured
  eye : b.activeLayout.inductionEye = some e
  defined : b.activeLayout.eyes[e] = some d
  free : 1 ≤ b.freeRecords
  first : FirstFree b k
  below : ∀ i ∈ b.zones[(0 : ZoneId)].track, d.position + length < b.place 0 i
  small : d.position + length < 2 ^ 24

section
variable (h : Inducing b e d length k) (overlength : Bool)
include h

theorem Inducing.taken : Taken (b.takenFrom b.takeRecord k) (b.inductedItem e d length overlength k).tag := by
  have taken := (pair_taken h.lawful (Nat.pos_iff_ne_zero.1 h.free) length overlength
    (b.activeLayout.eyeFollowing e)).1
  rw [pair_eq (d := d) h.lawful.booked.pool h.free h.first] at taken
  exact taken

theorem Inducing.fresh : (b.inductedItem e d length overlength k).tag ∉ b.lineTags := by
  have line : b.takeRecord.lineItems = b.lineItems := lineItems_congr (takeRecord_track b)
  have tags : b.takeRecord.lineTags = b.lineTags := congrArg (List.map Item.tag) line
  have held := (h.taken overlength).fresh
  exact fun hx => held (List.mem_append_right _ (by
    have same : (b.takenFrom b.takeRecord k).lineItems.map Item.tag = b.takeRecord.lineTags := rfl
    rw [same, tags]
    exact hx))

theorem Inducing.pool : PoolLaws (b.broughtIn (b.inductedItem e d length overlength k) k) := by
  have taken := h.taken overlength
  have placed := placed_eq (k := k) (item := b.inductedItem e d length overlength k) h.module
    (d.position + length)
  have appended := PoolLaws.appendItem (s := b.takenFrom b.takeRecord k) taken.lawful.booked.pool
    0 (d.position + length) (i := { b.inductedItem e d length overlength k with base := 0 }) taken.fresh
    taken.positive
  rw [placed] at appended
  exact appended

omit h in
theorem Inducing.track : (b.broughtIn (b.inductedItem e d length overlength k) k).zones[(0 : ZoneId)].track =
    b.zones[(0 : ZoneId)].track ++ b.inductedItem e d length overlength k :: [] := by
  rw [broughtIn_track, if_pos rfl]

/-- R54: the item stands at the eye's position and its length. -/
theorem Inducing.place : (b.broughtIn (b.inductedItem e d length overlength k) k).position
    (b.inductedItem e d length overlength k) = d.position + length := by
  have count := broughtIn_count b (b.inductedItem e d length overlength k) k 0
  have base : (b.inductedItem e d length overlength k).base =
      b.zones[(0 : ZoneId)].count - BitVec.ofNat 24 (d.position + length) := rfl
  have position : (b.broughtIn (b.inductedItem e d length overlength k) k).position
      (b.inductedItem e d length overlength k) =
      ((b.broughtIn (b.inductedItem e d length overlength k) k).zones[(0 : ZoneId)].count -
        (b.inductedItem e d length overlength k).base).toNat := rfl
  rw [position, count, base, sub_sub_cancel, BitVec.toNat_ofNat, Nat.mod_eq_of_lt h.small]

/-- R87: every item that was in line is ahead of it. -/
theorem Inducing.last {x : Nat} (hx : x ∈ b.lineTags) :
    ((b.broughtIn (b.inductedItem e d length overlength k) k).findItem x).any
      ((b.broughtIn (b.inductedItem e d length overlength k) k).precedes
        (b.inductedItem e d length overlength k)) = false := by
  have pool := h.pool overlength
  have place := h.place overlength
  have fresh := h.fresh overlength
  have track := broughtIn_track b (b.inductedItem e d length overlength k) k
  have count := broughtIn_count b (b.inductedItem e d length overlength k) k
  have zone : (b.inductedItem e d length overlength k).zone = 0 := rfl
  generalize hb : b.inductedItem e d length overlength k = item at *
  cases hf : (b.broughtIn item k).findItem x with
  | none => rfl
  | some j =>
    obtain ⟨hj, rfl⟩ := findItem_eq_some hf
    obtain ⟨z, hz⟩ := mem_lineItems.1 hj
    have jzone := pool.zone z j hz
    have old : j ∈ b.zones[z].track := by
      rw [track] at hz
      rcases List.mem_append.1 hz with hz | hz
      · exact hz
      · split at hz
        · obtain rfl := List.mem_singleton.1 hz
          exact absurd hx fresh
        · cases hz
    rw [Option.any_some, State.precedes, place]
    refine Bool.eq_false_iff.2 fun hd => ?_
    rcases downstreamOf_iff.1 hd with hlt | ⟨he, hlt⟩
    · rw [zone] at hlt
      exact absurd hlt (Fin.not_lt_zero _)
    · obtain rfl : z = 0 := jzone.symm.trans (he.trans zone)
      have stood := pool.place_eq hz
      have same : (b.broughtIn item k).place 0 j = b.place 0 j := by
        unfold State.place
        rw [count]
      have above := h.below j old
      rw [← stood, same] at hlt
      omega

/-- R87: the item is put at the end of its claim list. -/
theorem Inducing.lists (new : Option DiverterId) :
    (b.broughtIn (b.inductedItem e d length overlength k) k).claimLists
        (b.inductedItem e d length overlength k) new =
      Vector.ofFn fun v => if new = some v
        then b.claims[v] ++ [(b.inductedItem e d length overlength k).tag] else b.claims[v] := by
  have fresh := h.fresh overlength
  have last {x : Nat} (hx : x ∈ b.lineTags) := h.last overlength hx
  have inLine (v : DiverterId) (x : Nat) (hx : x ∈ b.claims[v]) : x ∈ b.lineTags :=
    ((h.lawful.booked.claims.claimed v x nofun).1 hx).mem_lineTags
  generalize b.inductedItem e d length overlength k = item at *
  have insert (l : List Nat) (hl : ∀ x ∈ l, x ∈ b.lineTags) :
      (b.broughtIn item k).insertClaim item l = l ++ [item.tag] := by
    induction l with
    | nil => rfl
    | cons x l ih =>
      have past := last (hl x (.head _))
      rw [State.insertClaim, if_neg (Bool.eq_false_iff.1 past), ih fun y hy => hl y (.tail _ hy)]
      rfl
  unfold State.claimLists
  refine congrArg Vector.ofFn (funext fun v => ?_)
  have claims : (b.broughtIn item k).claims[v] = b.claims[v] := rfl
  have absent : item.tag ∉ b.claims[v] := fun hx => fresh (inLine v _ hx)
  rw [claims, if_neg absent, insert _ (inLine v)]
  split
  · rfl
  · exact List.filter_eq_self.2 fun x hx => bne_iff_ne.2 fun he => absent (he ▸ hx)

/-- R85, R87: the assignment written to the record, in place, and to the claim lists. -/
theorem Inducing.written (new : Option DiverterId) :
    (b.broughtIn (b.inductedItem e d length overlength k) k).writeClaim
        (b.inductedItem e d length overlength k) new =
      { b.broughtIn { b.inductedItem e d length overlength k with assigned := new } k with
        claims := Vector.ofFn fun v => if new = some v
          then b.claims[v] ++ [(b.inductedItem e d length overlength k).tag] else b.claims[v] } := by
  have lists := h.lists overlength new
  have updated := (h.pool overlength).updateItem_at (Inducing.track overlength) fun j => { j with assigned := new }
  generalize b.inductedItem e d length overlength k = item at *
  have again : (b.broughtIn item k).withTrack 0
      (b.zones[(0 : ZoneId)].track ++ [{ item with assigned := new }]) =
      b.broughtIn { item with assigned := new } k := by
    have zones : ((b.broughtIn item k).withTrack 0
        (b.zones[(0 : ZoneId)].track ++ [{ item with assigned := new }])).zones =
        (b.broughtIn { item with assigned := new } k).zones := by
      unfold State.withTrack State.broughtIn State.tailedZone
      simp
    exact congrArg (fun zones => { b.broughtIn item k with zones := zones }) zones
  unfold State.writeClaim
  rw [lists, updated, again]

omit h in
/-- R85: the assignment reads nothing that the placing has changed. -/
theorem Inducing.assigned :
    (b.broughtIn (b.inductedItem e d length overlength k) k).assignment
        (b.inductedItem e d length overlength k) none =
      b.assignment (b.inductedItem e d length overlength k) none := by
  have count := broughtIn_count b (b.inductedItem e d length overlength k) k 0
  refine assignment_congr (s := b) (t := b.broughtIn (b.inductedItem e d length overlength k) k) rfl rfl ?_
    none
  have position (s : State) : s.position (b.inductedItem e d length overlength k) =
      (s.zones[(0 : ZoneId)].count - (b.inductedItem e d length overlength k).base).toNat := rfl
  rw [position, position, count]

theorem Inducing.closed :
    (b.broughtIn (b.inductedItem e d length overlength k) k).closeInduction
        { b.inductedItem e d length overlength k with base := 0 } =
      (b.withInduction (b.inductedItem e d length overlength k) k).postAll
        [b.inductedReport (b.inductedItem e d length overlength k)] := by
  have found : (b.broughtIn (b.inductedItem e d length overlength k) k).findItem
      (b.inductedItem e d length overlength k).tag = some (b.inductedItem e d length overlength k) :=
    (h.pool overlength).findItem_at (Inducing.track overlength)
  have assigned := Inducing.assigned (b := b) (e := e) (d := d) (length := length) (k := k) overlength
  have written := h.written overlength (b.assignment (b.inductedItem e d length overlength k) none)
  generalize b.inductedItem e d length overlength k = item at *
  have given := reassign_found found none
  rw [assigned, written] at given
  have counted (s : State) (r : Report) : (s.post r).count (fun c => { c with inducted := c.inducted + 1 }) =
      (s.count fun c => { c with inducted := c.inducted + 1 }).post r :=
    countInducted_unheard s [r] s.freeIndex
  unfold State.closeInduction
  dsimp only
  rw [given]
  dsimp only
  rw [counted]
  rfl

theorem Inducing.induct_eq :
    b.induct length overlength =
      (b.withInduction (b.inductedItem e d length overlength k) k).postAll
        [b.inductedReport (b.inductedItem e d length overlength k)] := by
  have closed := h.closed overlength
  have placed := placed_eq (k := k) (item := b.inductedItem e d length overlength k) h.module
    (d.position + length)
  have tail : clampAtTail ((b.takenFrom b.takeRecord k).tailPosition 0) (d.position + length) =
      some (d.position + length, false) := by
    have same : (b.takenFrom b.takeRecord k).tailPosition 0 =
        b.zones[(0 : ZoneId)].track.getLast?.map (b.place 0) := by
      have taken := (h.taken overlength).lawful.booked.pool
      have place := tailPosition_place taken 0
      have zone : ({ b.takenFrom b.takeRecord k with
          freeRecords := (b.takenFrom b.takeRecord k).freeRecords + 1 } : State).zones =
          b.takeRecord.zones := rfl
      have view : ({ b.takenFrom b.takeRecord k with
          freeRecords := (b.takenFrom b.takeRecord k).freeRecords + 1 } : State).tailPosition 0 =
          (b.takenFrom b.takeRecord k).tailPosition 0 := rfl
      rw [← view, place]
      unfold State.place
      rw [zone, takeRecord_track, (takeRecord_keeps b).count]
    rw [same]
    cases hl : b.zones[(0 : ZoneId)].track.getLast? with
    | none => rfl
    | some i =>
      have above := h.below i (List.mem_of_getLast? hl)
      rw [Option.map_some, clampAtTail, if_pos above]
  unfold State.induct
  rw [h.eye]
  dsimp only
  rw [if_neg (Nat.pos_iff_ne_zero.1 h.free), pair_eq (d := d) h.lawful.booked.pool h.free h.first, h.defined]
  dsimp only [Option.map_some, Option.getD_some]
  rw [tail]
  dsimp only
  rw [if_neg Bool.false_ne_true, placed]
  exact closed

end

/-! ### With reports posted and choices made before -/

theorem noted_lineTags (s : State) (qs : List Report) (n : Nat) : (s.noted qs n).lineTags = s.lineTags :=
  congrArg (List.map Item.tag) (noted_lineItems s qs n)

theorem Inducing.noted (h : Inducing b e d length k) (qs : List Report) (n : Nat) :
    Inducing (b.noted qs n) e d length k := by
  have number (m : Nat) : (b.noted qs n).anonymousTag m = b.anonymousTag m := by
    unfold State.anonymousTag
    rw [noted_frame]
  obtain ⟨lawful, module, eye, defined, free, ⟨used, unused⟩, below, small⟩ := h
  refine ⟨?_, ?_, ?_, ?_, ?_, ⟨fun m hm => ?_, ?_⟩, fun i hi => ?_, small⟩
  · rw [noted_frame]
    exact lawful.same (.of_zones rfl rfl)
  · rw [noted_frame]
    exact module
  · rw [noted_activeLayout]
    exact eye
  · rw [noted_activeLayout]
    exact defined
  · rw [noted_frame]
    exact free
  · rw [noted_lineTags, number]
    exact used m hm
  · rw [noted_lineTags, number]
    exact unused
  · have place : (b.noted qs n).place 0 i = b.place 0 i := by
      unfold State.place
      rw [noted_zones]
    rw [noted_zones] at hi
    rw [place]
    exact below i hi

theorem withInduction_unheard (item : Item) (k : Nat) : Unheard fun b => b.withInduction item k :=
  unheard_of (fun _ _ => rfl) fun _ _ => rfl

theorem noted_inductedItem (b : State) (qs : List Report) (n : Nat) :
    (b.noted qs n).inductedItem e d length overlength k = b.inductedItem e d length overlength k := by
  have number (m : Nat) : (b.noted qs n).anonymousTag m = b.anonymousTag m := by
    unfold State.anonymousTag
    rw [noted_frame]
  have queue : (b.noted qs n).announcements = b.announcements := by rw [noted_frame]
  unfold State.inductedItem
  rw [number, noted_activeLayout, noted_zones, queue]

theorem noted_inductedReport (b : State) (qs : List Report) (n : Nat) (item : Item) :
    (b.noted qs n).inductedReport item = b.inductedReport item := by
  unfold State.inductedReport
  rw [noted_assignment]

theorem Inducing.makes (h : Inducing b e d length k) (overlength : Bool) :
    Makes (State.induct length overlength) b
      (b.withInduction (b.inductedItem e d length overlength k) k)
      [b.inductedReport (b.inductedItem e d length overlength k)] := fun qs n => by
  have unheard := withInduction_unheard (b.inductedItem e d length overlength k) k b qs n
  dsimp only at unheard
  rw [(h.noted qs n).induct_eq, noted_inductedItem, noted_inductedReport, unheard]
  exact post_makes (b.withInduction (b.inductedItem e d length overlength k) k)
    (b.inductedReport (b.inductedItem e d length overlength k)) qs n

/-- R52: with no free record the item is not tracked. -/
theorem untracked_makes (he : b.activeLayout.inductionEye = some e) (none : b.freeRecords = 0)
    (length : Nat) (overlength : Bool) : Makes (State.induct length overlength) b b [.untracked e] := by
  refine (post_makes b (.untracked e)).congr fun qs n => ?_
  have free : (b.noted qs n).freeRecords = 0 := by
    rw [noted_frame]
    exact none
  unfold State.induct
  rw [noted_activeLayout, he]
  dsimp only
  rw [if_pos free]

/-! ### The obligation -/

/-- R29: an item of a list stands above a position that its last stands above. -/
theorem above_of_last {p : Nat} {z : ZoneId} (falls : (b.spots z).Pairwise fun x y => y.2 < x.2)
    (last : ∀ q ∈ b.zones[z].track.getLast?.map (b.place z), p < q) :
    ∀ i ∈ b.zones[z].track, p < b.place z i := by
  unfold State.spots at falls
  rw [List.pairwise_map] at falls
  rcases List.eq_nil_or_concat' b.zones[z].track with nil | ⟨init, j, track⟩
  · rw [nil]
    exact fun _ hi => nomatch hi
  · rw [track] at falls last ⊢
    have low : p < b.place z j := last _ (by simp)
    intro i hi
    rcases List.mem_append.1 hi with hi | hi
    · exact low.trans ((List.pairwise_append.1 falls).2.2 i hi j (List.mem_singleton_self j))
    · exact List.mem_singleton.1 hi ▸ low

theorem withInduction_claims (b : State) (item : Item) (k : Nat) (v : DiverterId) :
    (b.withInduction item k).claims[v] =
      if b.assignment item none = some v then b.claims[v] ++ [item.tag] else b.claims[v] := by
  simp [State.withInduction]

/-- R52 to R56: what an induction leaves of the items that were in line. -/
theorem withInduction_apart (b : State) (item : Item) (k : Nat) :
    Apart b (b.withInduction item k) item.tag := by
  refine ⟨fun j hj hn => ?_, fun v x hn hx => ?_⟩
  · obtain ⟨z, hz⟩ := mem_lineItems.1 hj
    have track := broughtIn_track b { item with assigned := b.assignment item none } k z
    have same : (b.withInduction item k).zones =
        (b.broughtIn { item with assigned := b.assignment item none } k).zones := rfl
    rw [same, track] at hz
    rcases List.mem_append.1 hz with hz | hz
    · exact ⟨j, mem_lineItems.2 ⟨z, hz⟩, rfl, rfl, rfl⟩
    · split at hz
      · obtain rfl := List.mem_singleton.1 hz
        exact absurd rfl hn
      · cases hz
  · rw [withInduction_claims] at hx
    split at hx
    · rcases List.mem_append.1 hx with hx | hx
      · exact hx
      · exact absurd (List.mem_singleton.1 hx) hn
    · exact hx

section
variable {u : State}

/-- R49: a pulse that brings about the overlength induction only. -/
theorem pulse_inducts (pool : PoolLaws s) (hm : s.module ≠ .unconfigured)
    (hz : s.activeLayout.zones[(0 : ZoneId)].isSome = true) (hs : s.span = .measuring)
    (count : s.spanCount = s.activeLayout.line.maxLength)
    (quiet : ∀ i ∈ s.zones[(0 : ZoneId)].track, NothingAt s 0 ((s.pulsed 0).place 0 i) i)
    {w : State} {rs : List Report} (inducted : (s.pulsed 0).inductOverlength = w.postAll rs) {tag : Nat}
    (apart : Apart (s.pulsed 0) w tag) (fresh : tag ∉ s.lineTags) : s.pulse 0 = w.postAll rs := by
  have pulsed := pulsed_pool pool 0
  have line : (s.pulsed 0).lineTags = s.lineTags :=
    congrArg (List.map Item.tag) (lineItems_congr (pulsed_track s 0))
  have bound : (s.pulsed 0).spanCount = s.activeLayout.line.maxLength + 1 := by
    have counted : (s.pulsed 0).spanCount = s.spanCount + 1 := if_pos ⟨rfl, hs⟩
    rw [counted, count]
  have nothing {i : Item} (hi : i ∈ (s.pulsed 0).zones[(0 : ZoneId)].track) :
      NothingAt (s.pulsed 0) 0 ((s.pulsed 0).place 0 i) i := quiet i (pulsed_track s 0 0 ▸ hi)
  have calm (c : Crossing) (hc : c ∈ (s.pulsed 0).pulseOwed 0) (hne : c ≠ overlengthCrossing) :
      Calm (s.pulsed 0) c ∧ c.tag ∈ s.lineTags := by
    rcases owed_cases hc with ⟨i, head, ends, -⟩ | ⟨i, hi, hc⟩ | ⟨rfl, -⟩
    · have hi := List.mem_of_head? head
      rw [← pulsed.place_eq hi] at ends
      exact absurd ends (nothing hi).1
    · refine ⟨(nothing hi).calm pulsed hi hc, ?_⟩
      rw [(pointsIn_tag hc).1, ← line]
      exact List.mem_map_of_mem (mem_lineItems.2 ⟨0, hi⟩)
    · exact absurd rfl hne
  have crossed : (s.pulsed 0).cross overlengthCrossing = (w.postAll rs, []) :=
    congrArg (fun t : State => (t, ([] : List Crossing))) inducted
  have owed : overlengthCrossing ∈ (s.pulsed 0).pulseOwed 0 :=
    List.mem_append_right _ (mem_overlengthOwed.2 ⟨rfl, rfl, hs, bound⟩)
  have lowest : isLowest ((s.pulsed 0).pulseOwed 0) overlengthCrossing = true := by
    simp [isLowest, overlengthCrossing]
  have first : ((s.pulsed 0).cross overlengthCrossing).1 = w.postAll rs := congrArg Prod.fst crossed
  rw [pulse_takes hm hz, ← first]
  refine takeAll_single (pulseOwed_nodup pulsed 0) owed lowest (actsAt_of_end (.inr rfl))
    (fun c hc hne => (calm c hc hne).1.idle) fun c hc => ?_
  rcases mem_owedAfter.1 hc with ⟨hm, hne, -⟩ | ⟨hm, -⟩
  · obtain ⟨still, inLine⟩ := calm c hm hne
    have driven (d : DiverterId) := cross_driven (s.pulsed 0) (b := overlengthCrossing) (d := d) nofun
    rw [first] at driven ⊢
    rw [postAll_actsAt]
    refine (still.apart pulsed apart (fun he => fresh (he ▸ inLine)) fun d _ hd => ?_).idle
    have same := driven d
    rw [postAll_frame] at same
    rw [← same]
    exact hd
  · rw [crossed] at hm
    cases hm

end

/-- R63, R47: while a span is measured the induction eye is BLOCKED or JAMMED. -/
theorem shut_of_measuring (he : EyeLaws s) (eye : s.activeLayout.inductionEye = some e)
    (hd : s.activeLayout.eyes[e] = some d) (role : d.role = .induct) (hs : s.span = .measuring) :
    s.eyes[e].state = .blocked ∨ s.eyes[e].state = .jammed := by
  obtain ⟨eyes, spans⟩ := he
  obtain ⟨undefined, opened, -, -, -, disabled⟩ := eyes e
  have blocked : s.eyeBlocked e ≠ false := fun hb => by
    have idle := spans.1 fun f hf => by
      obtain rfl : e = f := Option.some.inj (eye.symm.trans hf)
      exact hb
    rw [hs] at idle
    cases idle
  cases state : s.eyes[e].state with
  | blocked => exact .inl rfl
  | jammed => exact .inr rfl
  | clear => exact absurd (opened (.inl state)) blocked
  | jamHeld => exact absurd (opened (.inr state)) blocked
  | disabled =>
    have confirm := disabled state d hd
    rw [role] at confirm
    cases confirm
  | undefined =>
    have none := undefined.1 state
    rw [hd] at none
    cases none

/-- Settles O55: both ways to an induction lead to `State.induct` in the state `b`. -/
theorem inductionMakesTheItem : Obligations.InductionMakesTheItem := by
  intro s b c e d length k overlength hl hr ht he ha hd role hs line ways asked tail
  have lawful := (recordLaws_iff s).1 hr
  have pool := lawful.booked.pool
  have tracked := (trackLaws_iff pool).1 ht
  have eye := inductionEye_of_induct hl hd role
  have room := induction_room hl hd role
  have module : s.module ≠ .unconfigured := fun hm => by
    obtain ⟨-, -, empty, -⟩ := hl
    rw [empty hm] at hd
    simp [Layout.empty] at hd
  have used : s.activeLayout.zones[(0 : ZoneId)].isSome = true := by
    unfold Layout.zoneLength at room
    cases hz : s.activeLayout.zones[(0 : ZoneId)] with
    | none => rw [hz] at room; exact absurd room (Nat.not_lt_zero _)
    | some _ => rfl
  have narrow := zoneLength_le hl.2.1 0
  -- What the state `b` has of the state found.
  have base : b.activeLayout = s.activeLayout ∧ b.module = s.module ∧ b.freeRecords = s.freeRecords ∧
      b.nextAnonymous = s.nextAnonymous ∧ b.lineItems = s.lineItems ∧ Lawful b ∧
      ((b.spots 0).Pairwise fun x y => y.2 < x.2) ∧ length ≤ line.maxLength + 1 := by
    rcases ways with ⟨-, -, -, rfl, -, rfl⟩ | ⟨-, -, rfl, -, -, rfl⟩
    · exact ⟨rfl, rfl, rfl, rfl, rfl, lawful.same (.of_zones rfl rfl), tracked.falls 0,
        ((tracked.span hs).resolve_right fun hc => nomatch hc).trans (Nat.le_succ _)⟩
    · have raised := pulsed_tracked lawful hl.2.1 tracked 0
      exact ⟨rfl, rfl, rfl, rfl, lineItems_congr (pulsed_track s 0),
        lawful.same ⟨rfl, pulsed_track s 0⟩, raised.falls 0, le_refl _⟩
  obtain ⟨layout, same, records, counter, items, lawful', falls, short⟩ := base
  have tags : b.lineTags = s.lineTags := congrArg (List.map Item.tag) items
  have happens {w : State} {rs : List Report} {tag : Nat} (made : b.induct length overlength = w.postAll rs)
      (apart : Apart b w tag) (fresh : tag ∉ s.lineTags) : Happens c s w rs := by
    rcases ways with ⟨rfl, level, long, rfl, rfl, rfl⟩ | ⟨rfl, count, rfl, rfl, quiet, rfl⟩
    · refine unblockedEdge_happens ha hd level ?_ fun z => ?_
      · have sense : (!(d.sense == .darkOn)) = (d.sense == .lightOn) := by cases d.sense <;> rfl
        rw [unblockedEdge_shut hd (shut_of_measuring he eye hd role hs), State.unblockedAtItems, role, sense,
          ← made]
        exact (if_pos hs).trans (if_neg (Nat.not_lt.2 long))
      · have lamps := lamps_induct { s with
          inputs := { s.inputs with eyes := s.inputs.eyes.set e (d.sense == .lightOn) }
          eyes := s.eyes.set e ⟨if s.eyes[e].state = .blocked then .clear else .jamHeld, 0⟩
          span := .idle, spanCount := 0 } s.spanCount false
        rw [made, lamps_postAll] at lamps
        exact congrFun lamps z
    · have before : Apart (s.pulsed 0) { s.pulsed 0 with span := .passed, spanCount := 0 } tag :=
        (Apart.refl _ tag).of_eq rfl rfl
      exact pulse_happens ha (pulse_inducts pool module used hs count quiet made (before.trans apart) fresh)
  refine ⟨fun none => ?_, fun free taken unused => ?_⟩
  · have eye' : b.activeLayout.inductionEye = some e := by rw [layout]; exact eye
    have untracked := (untracked_makes eye' (records.trans none) length overlength).apply rfl
    refine happens untracked (Apart.refl b 0) fun hx => ?_
    exact absurd (pool.positive 0 hx) (Nat.not_succ_le_zero 0)
  · have number (n : Nat) : b.anonymousTag n = s.anonymousTag n := by
      unfold State.anonymousTag
      rw [counter]
    have inducing : Inducing b e d length k := by
      refine ⟨lawful', same ▸ module, by rw [layout]; exact eye, by rw [layout]; exact hd,
        records ▸ free, ⟨fun n hn => ?_, fun hx => ?_⟩, above_of_last falls tail, ?_⟩
      · obtain ⟨i, hi, tag⟩ := taken n hn
        rw [number, tags, ← tag]
        exact List.mem_map_of_mem hi
      · rw [number, tags] at hx
        obtain ⟨i, hi, tag⟩ := List.mem_map.1 hx
        exact unused i hi tag
      · have bound : length ≤ s.activeLayout.line.maxLength + 1 := short
        have small : d.position + length < 65536 := by omega
        exact small.trans (by decide)
    exact happens (inducing.induct_eq overlength) (withInduction_apart b _ k)
      (tags ▸ inducing.fresh overlength)

end

end Sys2Proof.Machine
end

section
/-! PROOFS. How an item leaves its zone (R8 to R10, R31, R32, R72 to R74, R188). -/

namespace Sys2Proof.Machine

set_option Elab.async false

section
variable {s t w : State} {z y : ZoneId} {behind : List Item} {i j : Item} {e : EyeId}
  {eyes passed : List EyeId} {next after beyond : Option EyeId} {n p : Nat} {rs : List Report}

/-! ### The misses that an item outlasts -/

theorem outlasts_fewer {m : Nat} (h : s.outlasts i n) (hm : m ≤ n) : s.outlasts i m := by
  rcases h with rfl | ⟨safe, room⟩
  · exact .inl (Nat.le_zero.1 hm)
  · exact .inr ⟨safe, by omega⟩

/-- R73: the miss at which an item is lost is one only. -/
theorem outlasts_unique {m : Nat} (hn : s.outlasts i n) (hn' : ¬ s.outlasts i (n + 1))
    (hm : s.outlasts i m) (hm' : ¬ s.outlasts i (m + 1)) : m = n := by
  rcases Nat.lt_trichotomy m n with hlt | he | hlt
  · exact absurd (outlasts_fewer hn hlt) hm'
  · exact he
  · exact absurd (outlasts_fewer hm hlt) hn'

theorem lost_of_not_outlasts (missed : List EyeId) (h : ¬ s.outlasts i missed.length) :
    ∃ before rest e, missed = before ++ e :: rest ∧ s.outlasts i before.length ∧
      ¬ s.outlasts i (before.length + 1) := by
  induction missed using List.reverseRecOn with
  | nil => exact absurd (.inl rfl) h
  | append_singleton missed e ih =>
    by_cases hl : s.outlasts i missed.length
    · rw [List.length_append, List.length_singleton] at h
      exact ⟨missed, [], e, rfl, hl, h⟩
    · obtain ⟨before, rest, f, rfl, lasts, lost⟩ := ih hl
      exact ⟨before, rest ++ [e], f, by simp, lasts, lost⟩

/-! ### The eyes that a transfer passes -/

theorem eyePast_while {l : Layout}
    (h : EyesWhile l (fun d => d.zone = z ∨ d.zone = y ∧ d.position + d.tolerance + 1 ≤ p) next eyes after)
    (hn : eyes.length ≤ n) : l.eyePast z y p n next = after := by
  induction eyes generalizing next n with
  | nil =>
    obtain ⟨rfl, stop⟩ := h
    cases after with
    | none => cases n <;> rfl
    | some e =>
      cases n with
      | zero => rfl
      | succ n =>
        refine if_neg (Bool.eq_false_iff.1 ?_)
        cases hd : l.eyes[e] with
        | none => rfl
        | some d => simpa [EyeDef.missPoint] using stop e rfl d hd
  | cons e eyes ih =>
    obtain ⟨rfl, ⟨d, hd, holds⟩, chain⟩ := h
    obtain ⟨n, rfl⟩ : ∃ m, n = m + 1 := ⟨n - 1, by rw [List.length_cons] at hn; omega⟩
    refine Eq.trans (if_pos ?_) (ih chain (Nat.le_of_succ_le_succ hn))
    rw [Option.mem_def.1 hd, Option.any_some]
    simpa [EyeDef.missPoint] using holds

/-- R61: the eye beyond some eyes of a zone lies in that zone or downstream of it. -/
theorem eyesWhile_zone {l : Layout} {P : EyeDef → Prop} (h : EyesWhile l P next passed beyond)
    (zone : ∀ d, P d → y ≤ d.zone) (some_ : passed ≠ []) :
    ∀ e ∈ beyond, ∀ d ∈ l.eyes[e], y ≤ d.zone := by
  induction passed generalizing next with
  | nil => exact absurd rfl some_
  | cons f passed ih =>
    obtain ⟨rfl, ⟨c, hc, holds⟩, chain⟩ := h
    cases passed with
    | nil =>
      obtain ⟨rfl, -⟩ := chain
      intro e he d hd
      obtain ⟨b, hb, down, -⟩ := eyeFollowing_nearest hc he
      obtain rfl := Option.some.inj (hb.symm.trans hd)
      have here := zone c holds
      rcases downstreamOf_iff.1 down with hlt | ⟨he, -⟩
      · exact here.trans hlt.le
      · exact he ▸ here
    | cons g passed => exact ih chain (by simp)

/-- R72: the eyes of zone `z`, and then those passed in the next zone. -/
theorem eyesWhile_append {l : Layout} (hzy : z < y)
    (h : EyesWhile l (fun d => d.zone = z) next eyes after)
    (k : EyesWhile l (fun d => d.zone = y ∧ d.position + d.tolerance + 1 ≤ p) after passed beyond) :
    EyesWhile l (fun d => d.zone = z ∨ d.zone = y ∧ d.position + d.tolerance + 1 ≤ p) next
      (eyes ++ passed) beyond := by
  induction eyes generalizing next with
  | nil =>
    obtain ⟨rfl, stop⟩ := h
    have last : ∀ e ∈ beyond, ∀ d ∈ l.eyes[e], d.zone ≠ z := by
      intro e he d hd
      by_cases none : passed = []
      · subst none
        obtain ⟨rfl, -⟩ := k
        exact stop e he d hd
      · have there := eyesWhile_zone (y := y) k (fun d hd => hd.1.ge) none e he d hd
        exact fun hz => absurd (hz ▸ there) (not_le.2 hzy)
    clear stop
    induction passed generalizing after with
    | nil =>
      obtain ⟨rfl, stop⟩ := k
      exact ⟨rfl, fun e he d hd hp => hp.elim (last e he d hd) (stop e he d hd)⟩
    | cons f passed ih =>
      obtain ⟨he, ⟨d, hd, holds⟩, chain⟩ := k
      exact ⟨he, ⟨d, hd, .inr holds⟩, ih chain⟩
  | cons f eyes ih =>
    obtain ⟨he, ⟨d, hd, holds⟩, chain⟩ := h
    exact ⟨he, ⟨d, hd, .inl holds⟩, ih chain⟩

/-! ### The lists -/

theorem removeItem_head (pool : PoolLaws s) (ht : s.zones[z].track = i :: behind) :
    s.removeItem i.tag = s.withTrack z behind := by
  obtain ⟨-, back, elsewhere⟩ := pool.apart (front := []) ht
  have zones : (s.removeItem i.tag).zones = (s.withTrack z behind).zones := by
    refine Vector.ext fun k hk => ?_
    have written := zone_withTrack s z ⟨k, hk⟩ behind
    have removed : (s.removeItem i.tag).zones[(⟨k, hk⟩ : ZoneId)] = { s.zones[(⟨k, hk⟩ : ZoneId)] with
        track := s.zones[(⟨k, hk⟩ : ZoneId)].track.filter fun j => j.tag != i.tag } := by
      simp [State.removeItem]
    simp only [Fin.getElem_fin] at written removed
    rw [written, removed]
    by_cases hz : z = ⟨k, hk⟩
    · subst hz
      simp only [Fin.getElem_fin] at ht
      rw [if_pos rfl, ht, List.filter_cons_of_neg (by simp)]
      rw [List.filter_eq_self.2 fun j hj => bne_iff_ne.2 (back j hj)]
    · have others := elsewhere ⟨k, hk⟩ (Ne.symm hz)
      simp only [Fin.getElem_fin] at others
      rw [if_neg hz, List.filter_eq_self.2 fun j hj => bne_iff_ne.2 (others j hj)]
  exact congrArg (fun zones => { s with zones := zones }) zones

theorem appendItem_withTrack (s : State) (y : ZoneId) (p : Nat) (j : Item) : s.appendItem y p j =
    s.withTrack y (s.zones[y].track ++
      [{ j with zone := y, base := s.zones[y].count - BitVec.ofNat 24 p }]) := rfl

/-! ### The three outcomes -/

section
variable (qs : List Report) (k : Nat)

theorem noted_tailPosition (s : State) (y : ZoneId) : (s.noted qs k).tailPosition y = s.tailPosition y := by
  rw [noted_frame]
  rfl

theorem noted_carriedOn (s : State) (i : Item) (y : ZoneId) (p : Nat) :
    (s.noted qs k).carriedOn i y p = s.carriedOn i y p := by
  rw [noted_frame]
  rfl

theorem noted_transferMeetsReturn (s : State) (z : ZoneId) :
    (s.noted qs k).transferMeetsReturn z = s.transferMeetsReturn z := by
  rw [noted_frame]
  rfl

/-- The record of an item carried on to a place, AT_RISK if that is clamped. -/
def State.carriedTo (s : State) (i : Item) (y : ZoneId) (p : Nat) (clamped : Bool) : Item :=
  if clamped then (s.carriedOn i y p).markAtRisk else s.carriedOn i y p

theorem transferItem_placed {clamped : Bool}
    (h : clampAtTail (s.tailPosition y) (s.activeLayout.entryOffset y) = some (p, clamped)) :
    (s.noted qs k).transferItem i y =
      (((s.removeItem i.tag).appendItem y p (s.carriedTo i y p clamped)).noted qs k,
        s.activeLayout.pointsIn i.tag y (-1) p) := by
  unfold State.transferItem
  rw [noted_tailPosition, noted_activeLayout, h]
  dsimp only
  rw [noted_carriedOn, removeItem_unheard, appendItem_unheard]
  rfl

theorem transferItem_lost
    (h : clampAtTail (s.tailPosition y) (s.activeLayout.entryOffset y) = none) :
    (s.noted qs k).transferItem i y =
      ((s.lossOf i.tag).noted (qs ++ [.lost i.tag y none .transfer]) k, []) := by
  unfold State.transferItem
  rw [noted_tailPosition, noted_activeLayout, h]
  dsimp only
  rw [lose_makes s i.tag y none .transfer qs k]
  rfl

/-- R9: the state without an item that has exited. -/
def State.exitOf (s : State) (tag : Nat) : State :=
  { s.without tag with counters := { s.counters with exited := s.counters.exited + 1 } }

theorem exitItem_makes (s : State) (i : Item) : Makes (State.exitItem i) s (s.exitOf i.tag)
    [.exited i.tag i.exitFlags i.reference] :=
  (((post_makes s _).andThen (countExited_unheard.makes s)).andThen
    ((release_unheard i.tag).makes _)).of_eq (by
      rw [release_eq_without]
      rfl)

end

/-- R10, R74: its windows ended, the item is at the head of its zone still. -/
structure Ended (s t : State) (z : ZoneId) (behind : List Item) (i j : Item) : Prop where
  pool : PoolLaws t
  track : t.zones[z].track = j :: behind
  tag : j.tag = i.tag
  made : ∀ (qs : List Report) (k : Nat),
    (if ((s.noted qs k).findItem i.tag).any ((s.noted qs k).transferMeetsReturn z) then s.noted qs k
      else (s.noted qs k).takeWindowEnds i.tag z 12) = t.noted qs k

section
variable (h : Ended s t z behind i j) (qs : List Report) (k : Nat)
include h

theorem Ended.found : (t.noted qs k).findItem i.tag = some j := by
  rw [noted_findItem, ← h.tag]
  exact h.pool.findItem_at (front := []) h.track

theorem Ended.transfers (hy : t.activeLayout.zoneAfter z = some y) :
    (s.noted qs k).leaveZone i.tag z = (t.noted qs k).transferItem j y := by
  unfold State.leaveZone
  dsimp only
  rw [h.made qs k, h.found qs k]
  dsimp only
  rw [noted_activeLayout, hy]

theorem Ended.exits (hy : t.activeLayout.zoneAfter z = none) :
    (s.noted qs k).leaveZone i.tag z = ((t.noted qs k).exitItem j, []) := by
  unfold State.leaveZone
  dsimp only
  rw [h.made qs k, h.found qs k]
  dsimp only
  rw [noted_activeLayout, hy]

end

/-- R188: an item whose transfer meets its return passes its windows silently. -/
theorem ended_of_meets (pool : PoolLaws s) (ht : s.zones[z].track = i :: behind) (meets : MeetsReturn s z i) :
    Ended s s z behind i i := by
  have zone : i.zone = z := pool.zone z i (by rw [ht]; simp)
  refine ⟨pool, ht, rfl, fun qs k => if_pos ?_⟩
  rw [noted_findItem, pool.findItem_at (front := []) ht, Option.any_some, noted_transferMeetsReturn]
  exact (transferMeetsReturn_iff pool zone).2 meets

/-- R72 to R74: an item that outlasts the windows open for it in its zone. -/
theorem ended_of_outlasts (pool : PoolLaws s) (ht : s.zones[z].track = i :: behind)
    (away : ¬ MeetsReturn s z i) (due : EyesStillDue s.activeLayout z i.nextEye eyes after)
    (lasts : s.outlasts i (s.openFor i eyes).length) :
    Ended s (s.withTrack z (i.past after (s.openFor i eyes).length :: behind)) z behind i
      (i.past after (s.openFor i eyes).length) := by
  have zone : i.zone = z := pool.zone z i (by rw [ht]; simp)
  have track : s.zones[z].track = [] ++ i :: behind := ht
  refine ⟨withTrack_pool pool track _ rfl rfl, track_withTrack s z _, rfl, fun qs k => ?_⟩
  rw [if_neg]
  · have ends := (takeWindowEnds_makes pool track due (eyesWhile_length due)).1 lasts qs k
    rw [List.append_nil] at ends
    exact ends
  · rw [noted_findItem, pool.findItem_at track, Option.any_some, noted_transferMeetsReturn]
    exact fun h => away ((transferMeetsReturn_iff pool zone).1 h)

theorem zones_withTrack_other (s : State) (hy : y ≠ z) (l : List Item) :
    (s.withTrack z l).zones[y] = s.zones[y] := by
  rw [zone_withTrack, if_neg (Ne.symm hy)]

/-! ### An item that outlasts its windows -/

/-- R72, R74, R188: the eyes at which item `i` misses as it leaves zone `z`. -/
def State.missedAt (s : State) (z : ZoneId) (i : Item) (eyes : List EyeId) : List EyeId :=
  if MeetsReturn s z i then [] else s.openFor i eyes

/-- R10, R74: item `i`, the head of zone `z`, outlasts the windows still open for it there. -/
structure Lasting (s : State) (z : ZoneId) (behind : List Item) (i : Item) (eyes : List EyeId)
    (after : Option EyeId) : Prop where
  pool : PoolLaws s
  track : s.zones[z].track = i :: behind
  due : EyesStillDue s.activeLayout z i.nextEye eyes after
  lasts : s.outlasts i (s.missedAt z i eyes).length

/-- The record of the item with its windows ended. -/
def State.endedItem (s : State) (z : ZoneId) (i : Item) (eyes : List EyeId) (after : Option EyeId) : Item :=
  if MeetsReturn s z i then i else i.past after (s.openFor i eyes).length

/-- The state with the item's windows ended. -/
def State.endedAt (s : State) (z : ZoneId) (behind : List Item) (i : Item) (eyes : List EyeId)
    (after : Option EyeId) : State :=
  s.withTrack z (s.endedItem z i eyes after :: behind)

theorem endedItem_same (s : State) (z : ZoneId) (i : Item) (eyes : List EyeId) (after : Option EyeId) :
    (s.endedItem z i eyes after).tag = i.tag ∧ (s.endedItem z i eyes after).zone = i.zone ∧
      (s.endedItem z i eyes after).exitFlags = i.exitFlags ∧
      (s.endedItem z i eyes after).reference = i.reference ∧
      (s.endedItem z i eyes after).returnedAt = i.returnedAt := by
  unfold State.endedItem
  split <;> exact ⟨rfl, rfl, rfl, rfl, rfl⟩

section
variable (h : Lasting s z behind i eyes after)
include h

theorem Lasting.zone : i.zone = z := h.pool.zone z i (by rw [h.track]; simp)

theorem Lasting.ended : Ended s (s.endedAt z behind i eyes after) z behind i (s.endedItem z i eyes after) := by
  have lasts := h.lasts
  unfold State.missedAt at lasts
  unfold State.endedAt State.endedItem
  by_cases meets : MeetsReturn s z i
  · rw [if_pos meets, withTrack_self h.track]
    exact ended_of_meets h.pool h.track meets
  · rw [if_neg meets] at lasts ⊢
    exact ended_of_outlasts h.pool h.track meets h.due lasts

theorem Lasting.tail (hy : y.val = z.val + 1) : (s.endedAt z behind i eyes after).tailPosition y =
    s.zones[y].track.getLast?.map (s.place y) := by
  have other : y ≠ z := fun he => by rw [he] at hy; omega
  have zones : (s.endedAt z behind i eyes after).zones[y] = s.zones[y] := zones_withTrack_other s other _
  have pool := h.ended.pool
  rw [tailPosition_place pool]
  unfold State.place
  rw [zones]

/-- R188: an item whose return a transfer meets keeps its windows, and passes them on the way. -/
theorem Lasting.carried (hy : s.activeLayout.zoneAfter z = some y) {clamped : Bool}
    (place : clampAtTail (s.zones[y].track.getLast?.map (s.place y)) (s.activeLayout.entryOffset y) =
      some (p, clamped)) :
    CarriesOn s y p (MeetsReturn s z i) after
      { i with missRun := i.missRun + (s.missedAt z i eyes).length }
      ((s.endedAt z behind i eyes after).carriedOn (s.endedItem z i eyes after) y p) := by
  obtain ⟨next, -⟩ := zoneAfter_eq_some.1 hy
  have other : y ≠ z := fun he => by rw [he] at next; omega
  have ahead : z < y := Fin.lt_def.2 (by omega)
  obtain ⟨-, zone, -, -, returned⟩ := endedItem_same s z i eyes after
  have count (x : ZoneId) : (s.endedAt z behind i eyes after).zones[x].count = s.zones[x].count := by
    unfold State.endedAt
    rw [zone_withTrack]
  have same : (s.endedAt z behind i eyes after).justReturned (s.endedItem z i eyes after) =
      s.justReturned i := by
    have here : (s.endedAt z behind i eyes after).zones[(s.endedItem z i eyes after).zone] =
        (s.endedAt z behind i eyes after).zones[i.zone] :=
      congrArg (fun x : ZoneId => (s.endedAt z behind i eyes after).zones[x]) zone
    unfold State.justReturned
    rw [here, returned, count]
  have room : (s.transferPlace z).isSome = true := by
    unfold State.transferPlace
    rw [hy, Option.bind_some, tailPosition_place h.pool, place]
    rfl
  have meets : s.justReturned i = true ↔ MeetsReturn s z i := by
    rw [← transferMeetsReturn_iff h.pool h.zone, State.transferMeetsReturn, room, Bool.and_true]
  rcases carriedOn_cases (s.endedAt z behind i eyes after) (s.endedItem z i eyes after) y p with
    ⟨just, carried⟩ | ⟨just, carried⟩ <;> rw [same] at just
  · have met := meets.1 just
    refine ⟨fun away => absurd met away, fun _ => ?_⟩
    obtain ⟨passed, beyond, chain, -⟩ := eyesWhile_exists s.activeLayout
      (fun d => d.zone = y ∧ d.position + d.tolerance + 1 ≤ p) after
    have whole := eyesWhile_append ahead h.due chain
    have past := eyePast_while whole (eyesWhile_length whole)
    refine ⟨passed, beyond, chain, ?_⟩
    have item : s.endedItem z i eyes after = i := if_pos met
    have missed : s.missedAt z i eyes = [] := if_pos met
    have layout : (s.endedAt z behind i eyes after).activeLayout = s.activeLayout := rfl
    rw [carried, count, item, missed, layout, h.zone, past]
    rfl
  · have away : ¬ MeetsReturn s z i := fun met => by
      rw [meets.2 met] at just
      cases just
    refine ⟨fun _ => ?_, fun met => absurd met away⟩
    have item : s.endedItem z i eyes after = i.past after (s.openFor i eyes).length := if_neg away
    have missed : s.missedAt z i eyes = s.openFor i eyes := if_neg away
    rw [carried, item, missed]
    rfl

/-- R8, R31: the state with the item at the tail of the next zone. -/
def State.joined (s : State) (z y : ZoneId) (behind : List Item) (j : Item) (q : Nat) : State :=
  (s.withTrack z behind).withTrack y (s.zones[y].track ++
    [{ j with zone := y, base := s.zones[y].count - BitVec.ofNat 24 q }])

/-- R8, R31: the item joins the tail of the next zone, and comes to the points up to there. -/
theorem Lasting.joins (hy : s.activeLayout.zoneAfter z = some y) {clamped : Bool}
    (place : clampAtTail (s.zones[y].track.getLast?.map (s.place y)) (s.activeLayout.entryOffset y) =
      some (p, clamped)) (qs : List Report) (k : Nat) :
    (s.noted qs k).leaveZone i.tag z =
      ((s.joined z y behind ((s.endedAt z behind i eyes after).carriedTo (s.endedItem z i eyes after) y p
          clamped) p).noted qs k, s.activeLayout.pointsIn i.tag y (-1) p) := by
  obtain ⟨next, -⟩ := zoneAfter_eq_some.1 hy
  have other : y ≠ z := fun he => by rw [he] at next; omega
  obtain ⟨tag, -⟩ := endedItem_same s z i eyes after
  have ended := h.ended
  have removed : (s.endedAt z behind i eyes after).removeItem i.tag = s.withTrack z behind := by
    rw [← tag, removeItem_head ended.pool ended.track]
    exact withTrack_withTrack s z _ _
  rw [ended.transfers qs k hy, transferItem_placed (p := p) (clamped := clamped) qs k (by
    rw [h.tail next]; exact place), tag, removed, appendItem_withTrack, zones_withTrack_other s other]
  rfl

/-- R32: the next zone leaves no room. -/
theorem Lasting.lost (hy : s.activeLayout.zoneAfter z = some y)
    (full : s.zones[y].track.getLast?.map (s.place y) = some 0) (qs : List Report) (k : Nat) :
    (s.noted qs k).leaveZone i.tag z =
      ((s.lossOf i.tag).noted (qs ++ [.lost i.tag y none .transfer]) k, []) := by
  obtain ⟨next, -⟩ := zoneAfter_eq_some.1 hy
  obtain ⟨tag, zone, -⟩ := endedItem_same s z i eyes after
  have without : (s.endedAt z behind i eyes after).lossOf i.tag = s.lossOf i.tag :=
    congrArg (fun t : State => { t with counters := { s.counters with lost := s.counters.lost + 1 } })
      (withTrack_without h.pool (ahead := []) h.track (s.endedItem z i eyes after) tag)
  rw [h.ended.transfers qs k hy, transferItem_lost qs k (by
    rw [h.tail next, full]; exact clampAtTail_eq_none.2 rfl), tag, without]

/-- R9: off the last zone the item exits. -/
theorem Lasting.exits (hy : s.activeLayout.zoneAfter z = none) (qs : List Report) (k : Nat) :
    (s.noted qs k).leaveZone i.tag z =
      ((s.exitOf i.tag).noted (qs ++ [.exited i.tag i.exitFlags i.reference]) k, []) := by
  obtain ⟨tag, zone, flags, reference, -⟩ := endedItem_same s z i eyes after
  have without : (s.endedAt z behind i eyes after).exitOf i.tag = s.exitOf i.tag :=
    congrArg (fun t : State => { t with counters := { s.counters with exited := s.counters.exited + 1 } })
      (withTrack_without h.pool (ahead := []) h.track (s.endedItem z i eyes after) tag)
  rw [h.ended.exits qs k hy, exitItem_makes _ _ qs k, tag, without, flags, reference]

end

/-- AT_RISK changes nothing of how an item is carried on. -/
theorem carriesOn_markAtRisk {meets : Prop} {k m : Item} (h : CarriesOn s y p meets after k m) :
    CarriesOn s y p meets after k.markAtRisk m.markAtRisk := by
  obtain ⟨away, met⟩ := h
  refine ⟨fun hn => ?_, fun hm => ?_⟩
  · rw [away hn]
    rfl
  · obtain ⟨passed, beyond, chain, rfl⟩ := met hm
    exact ⟨passed, beyond, chain, rfl⟩

/-- R8, R31: the place at the tail of the next zone, if the line goes on there and leaves room. -/
def State.nextPlace (s : State) (z : ZoneId) : Option (ZoneId × Nat × Bool) :=
  (s.activeLayout.zoneAfter z).bind fun y =>
    (clampAtTail (s.zones[y].track.getLast?.map (s.place y)) (s.activeLayout.entryOffset y)).map fun place =>
      (y, place)

theorem nextPlace_eq_some {clamped : Bool} : s.nextPlace z = some (y, p, clamped) ↔
    s.activeLayout.zoneAfter z = some y ∧
      clampAtTail (s.zones[y].track.getLast?.map (s.place y)) (s.activeLayout.entryOffset y) =
        some (p, clamped) := by
  unfold State.nextPlace
  simp only [Option.bind_eq_some_iff, Option.map_eq_some_iff, Prod.mk.injEq, Prod.exists]
  constructor
  · rintro ⟨x, hx, q, b, place, rfl, rfl, rfl⟩
    exact ⟨hx, place⟩
  · rintro ⟨hy, place⟩
    exact ⟨y, hy, p, clamped, place, rfl, rfl, rfl⟩

/-- R7, R8: the points to which a transfer from zone `z` leads the item of a tag. -/
def State.entered (s : State) (z : ZoneId) (tag : Nat) : List Crossing :=
  match s.nextPlace z with
  | some (y, p, _) => s.activeLayout.pointsIn tag y (-1) p
  | none => []

theorem entered_of_some {clamped : Bool} (h : s.nextPlace z = some (y, p, clamped)) (tag : Nat) :
    s.entered z tag = s.activeLayout.pointsIn tag y (-1) p := by
  unfold State.entered
  rw [h]

/-- R8 to R10, R31, R32, R72 to R74, R188: the head of a zone leaves it. It is released, or it stands in the
next zone and comes to the points there. -/
theorem leaveZone_makes (pool : PoolLaws s) (ht : s.zones[z].track = i :: behind) :
    ∃ w rs more, LeavesZone s z behind i w rs ∧
      (∀ qs k, (s.noted qs k).leaveZone i.tag z = (w.noted (qs ++ rs) k, more)) ∧
      (w.findItem i.tag = none ∧ more = [] ∨ more = s.entered z i.tag ∧
        ∃ y p clamped m, s.nextPlace z = some (y, p, clamped) ∧ m.tag = i.tag ∧
          w = s.joined z y behind m p) := by
  obtain ⟨eyes, after, due, -⟩ := eyesWhile_exists s.activeLayout (fun d => d.zone = z) i.nextEye
  have short {missed before rest : List EyeId} {e : EyeId} (lasts : s.outlasts i missed.length)
      (split : missed = before ++ e :: rest) : s.outlasts i (before.length + 1) := by
    refine outlasts_fewer lasts ?_
    rw [split, List.length_append, List.length_cons]
    omega
  by_cases lasts : s.outlasts i (s.missedAt z i eyes).length
  · have lasting : Lasting s z behind i eyes after := ⟨pool, ht, due, lasts⟩
    have windows {w : State} {rs : List Report} (outcome : s.outlasts i (s.missedAt z i eyes).length →
        ((∀ y : ZoneId, y.val = z.val + 1 → s.activeLayout.zones[y] = none) →
          rs = [.exited i.tag i.exitFlags i.reference] ∧ w = s.exitOf i.tag) ∧
        ∀ (y : ZoneId) (def_ : ZoneDef), y.val = z.val + 1 → s.activeLayout.zones[y] = some def_ →
          let joins : Nat → Item → Prop := fun q k => ∃ m : Item,
            CarriesOn s y q (MeetsReturn s z i) after k m ∧ rs = [] ∧ w = s.joined z y behind m q
          let j : Item := { i with missRun := i.missRun + (s.missedAt z i eyes).length }
          let tail := s.zones[y].track.getLast?.map (s.place y)
          ((∀ q ∈ tail, def_.entryOffset < q) → joins def_.entryOffset j) ∧
          (∀ q ∈ tail, 1 ≤ q → q ≤ def_.entryOffset → joins (q - 1) j.markAtRisk) ∧
          (tail = some 0 → rs = [.lost i.tag y none .transfer] ∧ w = s.lossOf i.tag)) :
        LeavesZone s z behind i w rs :=
      ⟨eyes, after, due, fun before rest e split _ lost => absurd (short lasts split) lost, outcome⟩
    cases hy : s.activeLayout.zoneAfter z with
    | none =>
      refine ⟨s.exitOf i.tag, _, [], windows fun _ => ⟨fun _ => ⟨rfl, rfl⟩, fun y v next used => ?_⟩,
        lasting.exits hy, .inl ⟨lossOf_gone s i.tag, rfl⟩⟩
      have some_ := zoneAfter_eq_some.2 ⟨next, by rw [used]; rfl⟩
      rw [hy] at some_
      cases some_
    | some y =>
      obtain ⟨next, used⟩ := zoneAfter_eq_some.1 hy
      have only {x : ZoneId} (hx : x.val = z.val + 1) : x = y := Fin.ext (hx.trans next.symm)
      have goesOn (h : ∀ y : ZoneId, y.val = z.val + 1 → s.activeLayout.zones[y] = none) : False := by
        rw [h y next] at used
        cases used
      have offset {v : ZoneDef} (hv : s.activeLayout.zones[y] = some v) :
          s.activeLayout.entryOffset y = v.entryOffset := by
        unfold Layout.entryOffset
        rw [hv]
        rfl
      cases place : clampAtTail (s.zones[y].track.getLast?.map (s.place y)) (s.activeLayout.entryOffset y) with
      | none =>
        have full := clampAtTail_eq_none.1 place
        refine ⟨s.lossOf i.tag, _, [], windows fun _ => ⟨fun h => (goesOn h).elim, fun x v hx hv => ?_⟩,
          lasting.lost hy full, .inl ⟨lossOf_gone s i.tag, rfl⟩⟩
        obtain rfl := only hx
        dsimp only
        rw [full]
        refine ⟨fun h => absurd (h 0 rfl) (Nat.not_lt_zero _), fun q hq one => ?_, fun _ => ⟨rfl, rfl⟩⟩
        obtain rfl := Option.some.inj hq
        exact absurd one (by decide)
      | some place_ =>
        obtain ⟨p, clamped⟩ := place_
        have carried := lasting.carried hy place
        refine ⟨_, [], _, windows fun _ => ⟨fun h => (goesOn h).elim, fun x v hx hv => ?_⟩,
          fun qs k => by rw [List.append_nil]; exact lasting.joins hy place qs k,
          .inr ⟨(entered_of_some (nextPlace_eq_some.2 ⟨hy, place⟩) i.tag).symm, y, p, clamped, _,
            nextPlace_eq_some.2 ⟨hy, place⟩, ?_, rfl⟩⟩
        · obtain rfl := only hx
          dsimp only
          have at_ := offset hv
          rw [at_] at place
          unfold clampAtTail at place
          refine ⟨fun h => ?_, fun q hq one low => ?_, fun h => ?_⟩
          · have free : p = v.entryOffset ∧ clamped = false := by
              split at place
              · exact ⟨(congrArg Prod.fst (Option.some.inj place)).symm,
                  (congrArg Prod.snd (Option.some.inj place)).symm⟩
              · next q hq =>
                rw [if_pos (h q hq)] at place
                exact ⟨(congrArg Prod.fst (Option.some.inj place)).symm,
                  (congrArg Prod.snd (Option.some.inj place)).symm⟩
            obtain ⟨rfl, rfl⟩ := free
            exact ⟨_, carried, rfl, rfl⟩
          · rw [Option.mem_def.1 hq] at place
            dsimp only at place
            rw [if_neg (Nat.not_lt.2 low), if_pos one] at place
            obtain ⟨rfl, rfl⟩ := Prod.mk.inj (Option.some.inj place)
            exact ⟨_, carriesOn_markAtRisk carried, rfl, rfl⟩
          · rw [h] at place
            dsimp only at place
            rw [if_neg (Nat.not_lt_zero _), if_neg (by decide)] at place
            cases place
        · obtain ⟨tag, -⟩ := endedItem_same s z i eyes after
          unfold State.carriedTo
          rcases carriedOn_cases (s.endedAt z behind i eyes after) (s.endedItem z i eyes after) y p with
            ⟨-, hc⟩ | ⟨-, hc⟩ <;> rw [hc] <;> cases clamped <;> exact tag
  · have away : ¬ MeetsReturn s z i := fun meets => lasts (.inl (by
      unfold State.missedAt
      rw [if_pos meets]
      rfl))
    have open_ : s.missedAt z i eyes = s.openFor i eyes := if_neg away
    rw [open_] at lasts
    obtain ⟨before, rest, e, split, held, lost⟩ := lost_of_not_outlasts _ lasts
    refine ⟨s.lossOf i.tag, [lostAt z e i], [], ⟨eyes, after, due, fun front back f other hl hn => ?_,
      fun hl => absurd (open_ ▸ hl) lasts⟩, leaveZone_loses pool ht away due split held lost,
      .inl ⟨lossOf_gone s i.tag, rfl⟩⟩
    have same := outlasts_unique hl hn held lost
    have parts : before ++ e :: rest = front ++ f :: back := by
      rw [← split, ← open_]
      exact other
    obtain ⟨-, tails⟩ := List.append_inj parts same
    obtain ⟨rfl, -⟩ := List.cons.inj tails
    exact ⟨rfl, rfl⟩

end

end Sys2Proof.Machine
end

section
/-! PROOFS. What each crossing makes of the state, as a thing met (R6, R7, R35). -/

namespace Sys2Proof.Machine

set_option Elab.async false

section
variable {l : Layout} {home z y : ZoneId} {s u w m t : State} {b c : Crossing} {rs qs : List Report}
  {k p : Nat} {d : DiverterId} {e : EyeId}

/-! ### Things met in turn -/

theorem metInTurn_append {cs ds : List Met} (h : MetInTurn cs s m rs) (j : MetInTurn ds m w qs) :
    MetInTurn (cs ++ ds) s w (rs ++ qs) := by
  induction cs generalizing s rs with
  | nil =>
    obtain ⟨rfl, rfl⟩ := h
    exact j
  | cons c cs ih =>
    obtain ⟨x, first, later, rfl, met, rest⟩ := h
    exact ⟨x, first, later ++ qs, List.append_assoc _ _ _, met, ih rest⟩

theorem metInTurn_one {c : Met} (h : MetOnce s c w rs) : MetInTurn [c] s w rs :=
  ⟨w, rs, [], (List.append_nil rs).symm, h, rfl, rfl⟩

theorem metInTurn_idle {cs : List Met} (h : ∀ c ∈ cs, MetOnce s c s []) : MetInTurn cs s s [] := by
  induction cs with
  | nil => exact ⟨rfl, rfl⟩
  | cons c cs ih => exact ⟨s, [], [], rfl, h c (.head _), ih fun c hc => h c (.tail _ hc)⟩

/-! ### Crossings as things met -/

/-- R60, R97: the zone in which the point of a crossing lies. -/
def Crossing.zoneIn (l : Layout) (home : ZoneId) (c : Crossing) : ZoneId :=
  match c.point with
  | .trigger d => (l.diverters[d].map DiverterDef.zone).getD home
  | .windowEnd e => (l.eyes[e].map EyeDef.zone).getD home
  | _ => home

/-- R6, R7: a crossing as a thing met, in a happening at zone `home`. -/
def Crossing.met (l : Layout) (home : ZoneId) (c : Crossing) : Met :=
  match c.point with
  | .trigger d => .point (c.zoneIn l home) c.tag (.trigger d)
  | .windowEnd e => .point (c.zoneIn l home) c.tag (.windowEnd e)
  | .zoneEnd => .zoneEnd home c.tag
  | .overlength => .overlength

theorem met_trigger (h : c.point = .trigger d) :
    c.met l home = .point (c.zoneIn l home) c.tag (.trigger d) := by
  unfold Crossing.met
  rw [h]

theorem met_windowEnd (h : c.point = .windowEnd e) :
    c.met l home = .point (c.zoneIn l home) c.tag (.windowEnd e) := by
  unfold Crossing.met
  rw [h]

theorem met_zoneEnd (h : c.point = .zoneEnd) : c.met l home = .zoneEnd home c.tag := by
  unfold Crossing.met
  rw [h]

theorem met_overlength (h : c.point = .overlength) : c.met l home = .overlength := by
  unfold Crossing.met
  rw [h]

theorem met_of_overlength (hp : b.point = .overlength) (h : OverlengthMet s w rs) :
    MetOnce s (b.met l home) w rs := by
  rw [met_overlength hp]
  exact h

theorem zoneIn_of_pointsIn {tag : Nat} {low high : Int} (h : c ∈ l.pointsIn tag z low high) :
    c.zoneIn l home = z := by
  rcases List.mem_append.1 h with h | h
  · obtain ⟨d, v, hd, hz, -, -, rfl⟩ := triggersIn_points h
    unfold Crossing.zoneIn
    dsimp only
    rw [hd]
    exact hz
  · obtain ⟨d, v, hd, hz, -, -, -, rfl⟩ := windowEndsIn_points h
    unfold Crossing.zoneIn
    dsimp only
    rw [hd]
    exact hz

/-- Nothing comes of a point that does not act. -/
theorem met_idle (pool : PoolLaws w) (hz : c.point ≠ .zoneEnd) (hv : c.point ≠ .overlength)
    (idle : w.actsAt c = false) : MetOnce w (c.met l home) w [] := by
  have found {i : Item} {z : ZoneId} {ahead behind : List Item} (ht : w.zones[z].track = ahead ++ i :: behind)
      (tag : i.tag = c.tag) : w.findItem c.tag = some i := tag ▸ pool.findItem_at ht
  unfold State.actsAt at idle
  cases hp : c.point with
  | zoneEnd => exact absurd hp hz
  | overlength => exact absurd hp hv
  | windowEnd e =>
    rw [met_windowEnd hp]
    rw [hp] at idle
    refine ⟨fun ahead behind i ht tag => ?_, fun _ => ⟨rfl, rfl⟩⟩
    rw [found ht tag] at idle
    have away : i.nextEye ≠ some e := of_decide_eq_false idle
    exact ⟨fun _ => ⟨rfl, rfl⟩, fun he => absurd he away, fun he => absurd he away,
      fun he => absurd he away⟩
  | trigger d =>
    rw [met_trigger hp]
    rw [hp] at idle
    refine ⟨fun ahead behind i ht tag v _ => ?_, fun _ => ⟨rfl, rfl⟩⟩
    rw [found ht tag] at idle
    exact triggerMet_idle idle

/-- R35: an item that has been released comes to nothing more. -/
theorem met_gone (hv : c.point ≠ .overlength) (gone : c.tag ∉ w.lineTags) :
    MetOnce w (c.met l home) w [] := by
  have absent {z : ZoneId} {i : Item} (hi : i ∈ w.zones[z].track) : i.tag ≠ c.tag := fun he =>
    gone (he ▸ List.mem_map_of_mem (mem_lineItems.2 ⟨z, hi⟩))
  have present {z : ZoneId} {ahead behind : List Item} {i : Item}
      (ht : w.zones[z].track = ahead ++ i :: behind) : i ∈ w.zones[z].track := by rw [ht]; simp
  cases hp : c.point with
  | overlength => exact absurd hp hv
  | zoneEnd =>
    rw [met_zoneEnd hp]
    exact ⟨fun behind i ht tag => absurd tag (absent (present (ahead := []) ht)), fun _ => ⟨rfl, rfl⟩⟩
  | windowEnd e =>
    rw [met_windowEnd hp]
    exact ⟨fun ahead behind i ht tag => absurd tag (absent (present ht)), fun _ => ⟨rfl, rfl⟩⟩
  | trigger d =>
    rw [met_trigger hp]
    exact ⟨fun ahead behind i ht tag => absurd tag (absent (present ht)), fun _ => ⟨rfl, rfl⟩⟩

/-- What a crossing makes of the state `s`, whatever has been posted and chosen. -/
def Crosses (b : Crossing) (s w : State) (rs : List Report) (more : List Crossing) : Prop :=
  ∀ (qs : List Report) (k : Nat), (s.noted qs k).cross b = (w.noted (qs ++ rs) k, more)

theorem Crosses.now {more : List Crossing} (h : Crosses b s w rs more) :
    s.cross b = (w.noted rs s.freeIndex, more) := h [] s.freeIndex

theorem makes_crosses {f : State → State} (h : Makes f s w rs)
    (cross : ∀ u : State, u.cross b = (f u, [])) : Crosses b s w rs [] := fun qs k => by
  rw [cross, h qs k]

/-- An item of a zone, where it stands in the list. -/
theorem split_track (pool : PoolLaws s) {tag : Nat} (hx : (tag, p) ∈ s.spots z) :
    ∃ ahead behind i, s.zones[z].track = ahead ++ i :: behind ∧ i.tag = tag ∧
      s.findItem tag = some i := by
  obtain ⟨i, hi, ht, -⟩ := mem_spots.1 hx
  obtain rfl : i.tag = tag := ht
  obtain ⟨ahead, behind, track⟩ := List.append_of_mem hi
  exact ⟨ahead, behind, i, track, rfl, pool.findItem_at track⟩

/-- R28: a zone's list holds an item of a tag once. -/
theorem split_unique (pool : PoolLaws s) {ahead behind front back : List Item} {i j : Item}
    (hi : s.zones[z].track = ahead ++ i :: behind) (hj : s.zones[z].track = front ++ j :: back)
    (tag : i.tag = j.tag) : ahead = front ∧ i = j ∧ behind = back := by
  have same : i = j := pool.eq_of_tag (mem_lineItems.2 ⟨z, by rw [hi]; simp⟩)
    (mem_lineItems.2 ⟨z, by rw [hj]; simp⟩) tag
  subst same
  obtain ⟨before, -, -⟩ := pool.apart hi
  obtain ⟨front_, -, -⟩ := pool.apart hj
  have first {l m : List Item} (h : ∀ j ∈ l, j.tag ≠ i.tag) :
      (l ++ i :: m).takeWhile (fun j => j.tag != i.tag) = l := by
    rw [List.takeWhile_append_of_pos fun j hj => bne_iff_ne.2 (h j hj), List.takeWhile_cons_of_neg (by simp),
      List.append_nil]
  have whole : ahead ++ i :: behind = front ++ i :: back := hi.symm.trans hj
  have heads : ahead = front := by
    rw [← first (m := behind) before, ← first (m := back) front_, whole]
  subst heads
  exact ⟨rfl, rfl, (List.cons.inj (List.append_cancel_left whole)).2⟩

/-- R72, R73: the end of an item's next eye's window, where it acts. -/
theorem windowEnd_crosses (pool : PoolLaws s) (hp : b.point = .windowEnd e) (acts : s.actsAt b = true)
    (here : ∃ p, (b.tag, p) ∈ s.spots (b.zoneIn l home)) :
    ∃ w rs, MetOnce s (b.met l home) w rs ∧ Crosses b s w rs [] := by
  obtain ⟨p, here⟩ := here
  obtain ⟨ahead, behind, i, ht, tag, found⟩ := split_track pool here
  have next : i.nextEye = some e := by
    unfold State.actsAt at acts
    rw [hp, found] at acts
    exact of_decide_eq_true acts
  obtain ⟨w, rs, met, makes⟩ := missEye_makes pool ht next
  refine ⟨w, rs, ?_, makes_crosses makes fun u => ?_⟩
  · rw [met_windowEnd hp]
    refine ⟨fun front back j hj same => ?_, fun away => ?_⟩
    · obtain ⟨rfl, rfl, rfl⟩ := split_unique pool ht hj (tag.trans same.symm)
      exact met
    · exact absurd tag (away i (by rw [ht]; simp))
  · unfold State.cross
    rw [hp, tag]

/-- R98, R110 to R114: a trigger point, where it acts. -/
theorem trigger_crosses (pool : PoolLaws s) (hp : b.point = .trigger d) (acts : s.actsAt b = true)
    {v : DiverterDef} (hv : s.activeLayout.diverters[d] = some v)
    (here : ∃ p, (b.tag, p) ∈ s.spots (b.zoneIn l home)) :
    ∃ w rs, MetOnce s (b.met l home) w rs ∧ Crosses b s w rs [] := by
  obtain ⟨p, here⟩ := here
  obtain ⟨ahead, behind, i, ht, tag, found⟩ := split_track pool here
  have meets : (s.meetsDecision d i || s.isShadowed d i) = true := by
    unfold State.actsAt at acts
    rw [hp, found] at acts
    exact acts
  obtain ⟨w, rs, met, makes⟩ := reachTrigger_makes pool ht hv meets
  refine ⟨w, rs, ?_, makes_crosses makes fun u => ?_⟩
  · rw [met_trigger hp]
    refine ⟨fun front back j hj same x hx => ?_, fun away => ?_⟩
    · obtain ⟨rfl, rfl, rfl⟩ := split_unique pool ht hj (tag.trans same.symm)
      obtain rfl := Option.mem_unique hv hx
      exact met
    · exact absurd tag (away i (by rw [ht]; simp))
  · unfold State.cross
    rw [hp, tag]

/-- R8 to R10: the leaving of its zone by the head. -/
theorem zoneEnd_crosses (pool : PoolLaws s) (hp : b.point = .zoneEnd)
    (head : ∃ p rest, s.spots home = (b.tag, p) :: rest) :
    ∃ w rs more, MetOnce s (b.met l home) w rs ∧ Crosses b s w rs more ∧
      (b.tag ∉ w.lineTags ∧ more = [] ∨ more = s.entered home b.tag ∧
        ∃ y p clamped behind i j, s.nextPlace home = some (y, p, clamped) ∧
          s.zones[home].track = i :: behind ∧ i.tag = b.tag ∧ j.tag = b.tag ∧
          w = s.joined home y behind j p) := by
  obtain ⟨p, rest, spots⟩ := head
  obtain ⟨i, behind, ht, tag⟩ : ∃ i behind, s.zones[home].track = i :: behind ∧ i.tag = b.tag := by
    unfold State.spots at spots
    cases ht : s.zones[home].track with
    | nil => rw [ht] at spots; cases spots
    | cons i behind =>
      rw [ht] at spots
      exact ⟨i, behind, rfl, (Prod.mk.inj (List.cons.inj spots).1).1⟩
  have zone : i.zone = home := pool.zone home i (by rw [ht]; simp)
  obtain ⟨w, rs, more, leaves, made, outcome⟩ := leaveZone_makes pool ht
  refine ⟨w, rs, more, ?_, fun qs k => ?_, ?_⟩
  · rw [met_zoneEnd hp]
    refine ⟨fun back j hj same => ?_, fun away => ?_⟩
    · obtain ⟨rfl, rfl⟩ := List.cons.inj (ht.symm.trans hj)
      exact leaves
    · exact absurd tag (away i (by rw [ht]; rfl))
  · have found : (s.noted qs k).findItem b.tag = some i := by
      rw [noted_findItem, ← tag]
      exact pool.findItem_at (front := []) ht
    unfold State.cross
    rw [hp]
    simp only [found, zone]
    rw [← tag, made]
  · rw [← tag]
    refine outcome.imp (fun ⟨gone, nothing⟩ => ⟨findItem_eq_none.1 gone, nothing⟩) fun ⟨points, place⟩ => ⟨points, ?_⟩
    obtain ⟨y, p, clamped, m, next, same, joined⟩ := place
    exact ⟨y, p, clamped, behind, i, m, next, ht, rfl, same, joined⟩

/-! ### The overlength induction -/

/-- R49, R54: a state in which the overlength induction takes the position that it asks for. -/
structure LongReady (s : State) : Prop where
  module : s.module ≠ .unconfigured
  ready : ∃ e d, s.activeLayout.inductionEye = some e ∧ s.activeLayout.eyes[e] = some d ∧
    d.role = .induct ∧ d.position + (s.activeLayout.line.maxLength + 1) < 2 ^ 24 ∧
    ∀ x ∈ s.spots 0, d.position + (s.activeLayout.line.maxLength + 1) < x.2

theorem exists_firstFree (pool : PoolLaws s) (free : 1 ≤ s.freeRecords) : ∃ k, FirstFree s k := by
  classical
  have some_ : ∃ k, s.anonymousTag k ∉ s.lineTags := by
    by_contra all
    push Not at all
    have distinct : ((List.range Config.itemRecords).map (anonymousFrom s.nextAnonymous)).Nodup := by
      refine List.Nodup.map_on (fun j hj m hm => anonymousFrom_inj ?_ ?_) List.nodup_range
      · exact (List.mem_range.1 hj).trans (by decide)
      · exact (List.mem_range.1 hm).trans (by decide)
    have sub : (List.range Config.itemRecords).map (anonymousFrom s.nextAnonymous) ⊆ s.lineTags := by
      intro x hx
      obtain ⟨j, -, rfl⟩ := List.mem_map.1 hx
      exact all j
    have le := (distinct.subperm sub).length_le
    have total := pool.free
    rw [List.length_map, List.length_range] at le
    omega
  exact ⟨Nat.find some_, fun n hn => not_not.1 (Nat.find_min some_ hn), Nat.find_spec some_⟩

/-- R54: an induction puts the item at the tail of zone 0, at the eye's position and its length. -/
theorem withInduction_spots {b : State} {e : EyeId} {d : EyeDef} {length k : Nat} (overlength : Bool)
    (small : d.position + length < 2 ^ 24) :
    (b.withInduction (b.inductedItem e d length overlength k) k).spots = fun z => b.spots z ++
      if z = 0 then [((b.inductedItem e d length overlength k).tag, d.position + length)] else [] := by
  have base : (b.inductedItem e d length overlength k).base =
      b.zones[(0 : ZoneId)].count - BitVec.ofNat 24 (d.position + length) := rfl
  generalize b.inductedItem e d length overlength k = item at base ⊢
  funext z
  have zones : (b.withInduction item k).zones =
      (b.broughtIn { item with assigned := b.assignment item none } k).zones := rfl
  unfold State.spots State.place
  rw [zones, broughtIn_track, broughtIn_count, List.map_append]
  by_cases hz : z = 0
  · subst hz
    rw [if_pos rfl, if_pos rfl, List.map_singleton, base, sub_sub_cancel, BitVec.toNat_ofNat,
      Nat.mod_eq_of_lt small]
  · rw [if_neg hz, if_neg hz, List.map_nil]

/-- R49, R52 to R56: the overlength induction puts at most one item, of a fresh tag, at the tail of zone 0. -/
theorem overlength_crosses (lawful : Lawful s) (hp : b.point = .overlength) (ready : LongReady s) :
    ∃ w rs, MetOnce s (b.met l home) w rs ∧ Crosses b s w rs [] ∧
      (w.spots = s.spots ∨ ∃ x : Nat × Nat, x.1 ∉ s.lineTags ∧
        w.spots = fun z => s.spots z ++ if z = 0 then [x] else []) := by
  obtain ⟨module, e, d, eye, defined, role, small, below⟩ := ready
  have base : Lawful { s with span := .passed, spanCount := 0 } := lawful.same (.of_zones rfl rfl)
  have cross (u : State) : u.cross b = (u.inductOverlength, []) := by
    unfold State.cross
    rw [hp]
  have pushed (qs : List Report) (k : Nat) : (s.noted qs k).inductOverlength =
      (({ s with span := .passed, spanCount := 0 } : State).noted qs k).induct
        (s.activeLayout.line.maxLength + 1) true := by
    unfold State.inductOverlength
    rw [noted_activeLayout, noted_frame, noted_frame]
    have same := postAll_congr (rs := qs) (s := s) (t := { s with span := .passed, spanCount := 0 }) rfl rfl
    rw [same, postAll_frame qs s]
  by_cases empty : s.freeRecords = 0
  · refine ⟨{ s with span := .passed, spanCount := 0 }, [.untracked e], ?_, fun qs k => ?_, .inl rfl⟩
    · exact met_of_overlength hp
        ⟨e, d, defined, role, fun _ => ⟨rfl, rfl⟩, fun free => absurd empty (by omega)⟩
    · rw [cross, pushed, untracked_makes (b := { s with span := .passed, spanCount := 0 }) eye empty _ true
        qs k]
  · obtain ⟨k, first⟩ := exists_firstFree lawful.booked.pool (Nat.pos_of_ne_zero empty)
    have inducing : Inducing { s with span := .passed, spanCount := 0 } e d
        (s.activeLayout.line.maxLength + 1) k :=
      ⟨base, module, eye, defined, Nat.pos_of_ne_zero empty, ⟨first.used, first.free⟩,
        fun i hi => below (i.tag, s.place 0 i) (mem_spots.2 ⟨i, hi, rfl, rfl⟩), small⟩
    have spots := withInduction_spots (b := { s with span := .passed, spanCount := 0 }) (e := e) (k := k)
      true small
    have made := inducing.makes true
    have fresh := inducing.fresh true
    have met : OverlengthMet s
        (State.withInduction { s with span := .passed, spanCount := 0 }
          (State.inductedItem { s with span := .passed, spanCount := 0 } e d
            (s.activeLayout.line.maxLength + 1) true k) k)
        [State.inductedReport { s with span := .passed, spanCount := 0 }
          (State.inductedItem { s with span := .passed, spanCount := 0 } e d
            (s.activeLayout.line.maxLength + 1) true k)] :=
        ⟨e, d, defined, role, fun h => absurd h empty,
          fun _ => ⟨k, fun n hn => List.mem_map.1 (first.used n hn),
        fun i hi he => first.free (he ▸ List.mem_map_of_mem hi), rfl, rfl⟩⟩
    refine ⟨_, _, met_of_overlength hp met, fun qs n => ?_, .inr ⟨_, fresh, spots⟩⟩
    · rw [cross, pushed, made qs n]

end

end Sys2Proof.Machine
end

section
/-! PROOFS. The crossings of a happening, one after another, as things met in turn (R6, R7, R35). -/

namespace Sys2Proof.Machine

set_option Elab.async false

/-! ### What is still to be taken -/

/-- A crossing of one of the tags `mine` that is owed, or that the leaving of a zone, still owed, will lead
to. -/
def Due (mine : Nat → Bool) (entered owed : List Crossing) (c : Crossing) : Prop :=
  c ∈ owed ∧ mine c.tag = true ∨ c ∈ entered ∧ ∃ z ∈ owed, z.point = .zoneEnd

/-- R7: of one item's crossings, `b` is not to be taken before `a`. -/
def Precedes (a b : Crossing) : Prop :=
  a.tag = b.tag → b.point ≠ .zoneEnd ∧ (a.point = .zoneEnd ∨ a.position ≤ b.position)

theorem exists_sorted {P : Crossing → Prop} (bound : List Crossing) (h : ∀ c, P c → c ∈ bound) :
    ∃ g : List Crossing, g.Nodup ∧ (∀ c, c ∈ g ↔ P c) ∧ g.Pairwise fun a b => a.position ≤ b.position := by
  classical
  have perm := List.mergeSort_perm (bound.dedup.filter fun c => P c)
    fun a b => decide (a.position ≤ b.position)
  refine ⟨_, perm.nodup_iff.2 ((List.nodup_dedup bound).filter _), fun c => ?_, ?_⟩
  · rw [perm.mem_iff, List.mem_filter, List.mem_dedup, decide_eq_true_eq]
    exact ⟨fun h => h.2, fun hp => ⟨h c hp, hp⟩⟩
  · refine (List.pairwise_mergeSort (fun a b c hab hbc => ?_) (fun a b => ?_) _).imp of_decide_eq_true
    · exact decide_eq_true ((of_decide_eq_true hab).trans (of_decide_eq_true hbc))
    · rw [Bool.or_eq_true, decide_eq_true_eq, decide_eq_true_eq]
      exact le_total _ _

section
variable {l : Layout} {home : ZoneId} {mine : Nat → Bool} {entered owed left : List Crossing}
  {s t u w : State} {b c : Crossing} {rs qs : List Report} {k : Nat}

/-! ### What holds while crossings are owed -/

/-- R8: the head of zone `home` owes its leaving, and nothing else; what is owed of the other items lies in
the zone. -/
structure Leaving (l : Layout) (home : ZoneId) (mine : Nat → Bool) (entered : List Crossing) (w : State)
    (owed : List Crossing) (c : Crossing) : Prop where
  head : ∃ p rest, w.spots home = (c.tag, p) :: rest
  entered : w.entered home c.tag = entered
  own : mine c.tag = true
  alone : ∀ b ∈ owed, b.tag = c.tag ∨ b.point = .zoneEnd → b = c
  near : ∀ b ∈ owed, b.point ≠ .overlength → b.zoneIn l home = home
  range : LayoutInRange l

/-- The crossings owed are of items that stand where they owe them. Nothing comes of those that are not of the
tags `mine`. -/
structure Underway (l : Layout) (home : ZoneId) (mine : Nat → Bool) (entered : List Crossing) (w : State)
    (owed : List Crossing) : Prop where
  lawful : Lawful w
  layout : w.activeLayout = l
  nodup : owed.Nodup
  present : ∀ c ∈ owed, c.point ≠ .overlength → ∃ p, (c.tag, p) ∈ w.spots (c.zoneIn l home)
  known : ∀ c ∈ owed, ∀ d, c.point = .trigger d → ∃ v, l.diverters[d] = some v
  leaving : ∀ c ∈ owed, c.point = .zoneEnd → Leaving l home mine entered w owed c
  long : ∀ c ∈ owed, c.point = .overlength → c = overlengthCrossing ∧ LongReady w ∧ mine 0 = true
  quiet : ∀ c ∈ owed, mine c.tag = false → Calm w c ∧ ∀ b ∈ owed, mine b.tag = true →
    b.point ≠ .zoneEnd ∧ b.point ≠ .overlength ∧ ∀ d, c.point = .trigger d → b.point ≠ .trigger d

/-! ### The notes are no part of it -/

theorem noted_spots (s : State) (rs : List Report) (k : Nat) : (s.noted rs k).spots = s.spots :=
  spots_of_zones_eq (noted_zones s rs k)

theorem noted_same (s : State) (rs : List Report) (k : Nat) : SameRecords (s.noted rs k) s := by
  rw [noted_frame]
  exact .of_zones rfl rfl

theorem nextPlace_spots (s : State) (z : ZoneId) : s.nextPlace z =
    (s.activeLayout.zoneAfter z).bind fun y =>
      (clampAtTail ((s.spots y).getLast?.map Prod.snd) (s.activeLayout.entryOffset y)).map fun place =>
        (y, place) := by
  unfold State.nextPlace State.spots
  simp only [List.getLast?_map, Option.map_map]
  rfl

theorem entered_congr {tag : Nat} (hl : t.activeLayout = s.activeLayout)
    (hs : ∀ y : ZoneId, y.val = home.val + 1 → t.spots y = s.spots y) :
    t.entered home tag = s.entered home tag := by
  have place : t.nextPlace home = s.nextPlace home := by
    rw [nextPlace_spots, nextPlace_spots, hl]
    refine Option.bind_congr fun y hy => ?_
    rw [hs y (zoneAfter_eq_some.1 hy).1]
  unfold State.entered
  rw [place, hl]

theorem LongReady.of_eq (h : LongReady s) (hm : t.module = s.module) (hl : t.activeLayout = s.activeLayout)
    (hs : ∀ x ∈ t.spots 0, x ∈ s.spots 0) : LongReady t := by
  obtain ⟨module, e, d, ready⟩ := h
  refine ⟨hm ▸ module, e, d, ?_⟩
  rw [hl]
  obtain ⟨eye, defined, role, small, below⟩ := ready
  exact ⟨eye, defined, role, small, fun x hx => below x (hs x hx)⟩

theorem Underway.of_noted (h : Underway l home mine entered (w.noted rs k) owed) :
    Underway l home mine entered w owed := by
  have layout := noted_activeLayout w rs k
  have spots := noted_spots w rs k
  have module : w.module = (w.noted rs k).module := by rw [noted_frame]
  refine ⟨h.lawful.same (noted_same w rs k), layout ▸ h.layout, h.nodup, spots ▸ h.present, h.known,
    fun c hc hp => ?_, fun c hc hp => ?_, fun c hc hm => ?_⟩
  · obtain ⟨head, ent, own, alone, near, range⟩ := h.leaving c hc hp
    refine ⟨spots ▸ head, ?_, own, alone, near, range⟩
    rw [← ent]
    exact entered_congr layout.symm fun y _ => congrFun spots.symm y
  · obtain ⟨same, ready, own⟩ := h.long c hc hp
    exact ⟨same, ready.of_eq module layout.symm fun x hx => spots ▸ hx, own⟩
  · obtain ⟨calm, apart⟩ := h.quiet c hc hm
    refine ⟨⟨calm.inside, fun i d hi hp => ?_, fun i e hi hp => ?_⟩, apart⟩
    · have passes := calm.trigger i d (by rw [noted_findItem]; exact hi) hp
      rw [noted_frame] at passes
      exact passes
    · exact calm.window i e (by rw [noted_findItem]; exact hi) hp

/-! ### Items that go, and crossings that are taken -/

/-- Fewer crossings are owed of items that stand where they stood. -/
theorem Underway.thin (h : Underway l home mine entered w owed) (sub : ∀ c ∈ left, c ∈ owed)
    (nodup : left.Nodup) (lawful : Lawful t) (layout : t.activeLayout = w.activeLayout)
    (present : ∀ c ∈ left, c.point ≠ .overlength → ∀ z p, (c.tag, p) ∈ w.spots z → (c.tag, p) ∈ t.spots z)
    (head : ∀ c ∈ left, c.point = .zoneEnd → (∃ p rest, t.spots home = (c.tag, p) :: rest) ∧
      ∀ y : ZoneId, y.val = home.val + 1 → t.spots y = w.spots y)
    (long : ∀ c ∈ left, c.point = .overlength → LongReady t)
    (quiet : ∀ c ∈ left, mine c.tag = false → Calm t c) : Underway l home mine entered t left := by
  refine ⟨lawful, layout.trans h.layout, nodup, fun c hc hp => ?_, fun c hc => h.known c (sub c hc),
    fun c hc hp => ?_, fun c hc hp => ?_, fun c hc hm => ⟨quiet c hc hm, ?_⟩⟩
  · obtain ⟨p, hx⟩ := h.present c (sub c hc) hp
    exact ⟨p, present c hc hp _ p hx⟩
  · obtain ⟨-, ent, own, alone, near, range⟩ := h.leaving c (sub c hc) hp
    obtain ⟨first, same⟩ := head c hc hp
    exact ⟨first, (entered_congr layout same).trans ent, own, fun b hb => alone b (sub b hb),
      fun b hb => near b (sub b hb), range⟩
  · obtain ⟨same, -, own⟩ := h.long c (sub c hc) hp
    exact ⟨same, long c hc hp, own⟩
  · exact fun b hb => (h.quiet c (sub c hc) hm).2 b (sub b hb)

/-- Crossings passed over. -/
theorem Underway.skip (h : Underway l home mine entered w owed) (sub : left.Sublist owed) :
    Underway l home mine entered w left :=
  h.thin (fun _ hc => sub.subset hc) (h.nodup.sublist sub) h.lawful rfl (fun _ _ _ _ _ hx => hx)
    (fun c hc hp => ⟨(h.leaving c (sub.subset hc) hp).head, fun _ _ => rfl⟩)
    (fun c hc hp => (h.long c (sub.subset hc) hp).2.1) fun c hc hm => (h.quiet c (sub.subset hc) hm).1

theorem Underway.positive (h : Underway l home mine entered w owed) (hc : c ∈ owed)
    (hp : c.point ≠ .overlength) : 1 ≤ c.tag := by
  obtain ⟨p, hx⟩ := h.present c hc hp
  exact h.lawful.booked.pool.positive _ (mem_lineTags_iff.2 ⟨_, p, hx⟩)

theorem owedAfter_nodup {v : State × List Crossing} (h : owed.Nodup) (more : v.2.Nodup)
    (apart : ∀ c ∈ v.2, c ∉ owed) : (owedAfter owed b v).Nodup := by
  unfold owedAfter
  split
  · exact List.nodup_append.2 ⟨h.filter _, more, fun c hc d hd he =>
      apart d hd (he ▸ (List.mem_filter.1 hc).1)⟩
  · exact (h.filter _).filter _

theorem cross_spots_point (w : State) (hz : b.point ≠ .zoneEnd) (hv : b.point ≠ .overlength) :
    (w.cross b).1.spots = w.spots ∨ (w.cross b).1.spots = spotsWithout w.spots b.tag := by
  unfold State.cross
  split
  · next hp => exact absurd hp hz
  · next e _ => exact (missEye_line w b.tag e).imp StaysPut.spots Gone.spots
  · next d _ => exact .inl (reachTrigger_spots w b.tag d)
  · next hp => exact absurd hp hv

theorem module_of_still (h : t.still = s.still) : t.module = s.module := congrArg Prod.fst h

/-- What is quiet stays so. -/
theorem Underway.calm (h : Underway l home mine entered w owed) (hb : b ∈ owed) (hm : mine b.tag = true)
    (hc : c ∈ owed) (hq : mine c.tag = false) : Calm (w.cross b).1 c := by
  obtain ⟨calm, apart⟩ := h.quiet c hc hq
  obtain ⟨-, hv, other⟩ := apart b hb hm
  refine calm.apart h.lawful.booked.pool (cross_apart w hv) (fun he => ?_) fun d hd driven => ?_
  · rw [he, hm] at hq
    cases hq
  · rwa [cross_driven w (other d hd)] at driven

theorem Underway.cross_point (h : Underway l home mine entered w owed) (hb : b ∈ owed)
    (hm : mine b.tag = true) (hz : b.point ≠ .zoneEnd) (hv : b.point ≠ .overlength) :
    Underway l home mine entered (w.cross b).1 (owedAfter owed b (w.cross b)) := by
  have more := (cross_more_length w b).2.2 hz
  have still := cross_still w b
  have sublist := cross_sublist w b hz hv
  have tagged {c : Crossing} (hc : c ∈ owedAfter owed b (w.cross b))
      (gone : (w.cross b).1.spots = spotsWithout w.spots b.tag) : c.tag ≠ b.tag := by
    obtain ⟨-, -, there⟩ := mem_owed_of_after hz hc
    refine there.resolve_left fun hf => hf (findItem_eq_none.2 ?_)
    rw [lineTags_without gone]
    simp
  refine h.thin (fun c hc => (mem_owed_of_after hz hc).1)
    (owedAfter_nodup h.nodup (more ▸ List.nodup_nil) (more ▸ nofun)) (cross_lawful h.lawful b)
    (activeLayout_of_still still) (fun c hc hp z p hx => ?_) (fun c hc hp => ?_) (fun c hc hp => ?_)
    fun c hc => h.calm hb hm (mem_owed_of_after hz hc).1
  · rcases cross_spots_point w hz hv with hs | hs <;> rw [hs]
    exacts [hx, List.mem_filter.2 ⟨hx, bne_iff_ne.2 (tagged hc hs)⟩]
  · obtain ⟨hm, hne, -⟩ := mem_owed_of_after hz hc
    obtain ⟨⟨p, rest, first⟩, -, -, alone, near, -⟩ := h.leaving c hm hp
    have other : c.tag ≠ b.tag := fun he => hne (alone b hb (.inl he.symm)).symm
    obtain ⟨q, hq⟩ := h.present b hb hv
    rw [near b hb hv] at hq
    rcases cross_spots_point w hz hv with hs | hs <;> rw [hs]
    · exact ⟨⟨p, rest, first⟩, fun _ _ => rfl⟩
    · refine ⟨⟨p, rest.filter fun x => x.1 != b.tag, ?_⟩, fun y hy => ?_⟩
      · unfold spotsWithout
        rw [first]
        exact List.filter_cons_of_pos (bne_iff_ne.2 other)
      · refine List.filter_eq_self.2 fun x hx => bne_iff_ne.2 fun he => ?_
        have place : (b.tag, x.2) ∈ w.spots y := he ▸ hx
        obtain ⟨rfl, -⟩ := h.lawful.booked.pool.spot_unique hq place
        omega
  · exact (h.long c (mem_owed_of_after hz hc).1 hp).2.1.of_eq (module_of_still still)
      (activeLayout_of_still still) fun x hx => (sublist 0).subset hx

theorem Underway.cross_overlength (h : Underway l home mine entered w owed) (hb : b ∈ owed)
    (hv : b.point = .overlength) :
    Underway l home mine entered (w.cross b).1 (owedAfter owed b (w.cross b)) := by
  have hz : b.point ≠ .zoneEnd := by rw [hv]; nofun
  obtain ⟨same, ready, own⟩ := h.long b hb hv
  have more := (cross_more_length w b).2.2 hz
  have still := cross_still w b
  obtain ⟨t, rs, -, crosses, spots⟩ := overlength_crosses (l := l) (home := home) h.lawful hv ready
  have after : (w.cross b).1.spots = t.spots := by rw [crosses.now, noted_spots]
  have mem {c : Crossing} (hc : c ∈ owedAfter owed b (w.cross b)) := mem_owed_of_after hz hc
  have grown (z : ZoneId) : ∃ new, (w.cross b).1.spots z = w.spots z ++ new ∧ (z ≠ 0 → new = []) := by
    rcases spots with hs | ⟨x, -, hs⟩ <;> rw [after, hs]
    · exact ⟨[], (List.append_nil _).symm, fun _ => rfl⟩
    · exact ⟨_, rfl, fun hz => if_neg hz⟩
  refine h.thin (fun c hc => (mem hc).1) (owedAfter_nodup h.nodup (more ▸ List.nodup_nil) (more ▸ nofun))
    (cross_lawful h.lawful b) (activeLayout_of_still still) (fun c hc hp z p hx => ?_) (fun c hc hp => ?_)
    (fun c hc hp => ?_) fun c hc hq => ?_
  · obtain ⟨new, hs, -⟩ := grown z
    rw [hs]
    exact List.mem_append_left _ hx
  · obtain ⟨p, rest, first⟩ := (h.leaving c (mem hc).1 hp).head
    refine ⟨?_, fun y hy => ?_⟩
    · obtain ⟨new, hs, -⟩ := grown home
      exact ⟨p, rest ++ new, by rw [hs, first]; rfl⟩
    · obtain ⟨new, hs, none_⟩ := grown y
      rw [hs, none_ (fun h0 => by subst h0; exact absurd hy (by simp)), List.append_nil]
  · exact absurd ((h.long c (mem hc).1 hp).1.trans same.symm) (mem hc).2.1
  · have tag : b.tag = 0 := congrArg Crossing.tag same
    exact absurd hv ((h.quiet c (mem hc).1 hq).2 b hb (tag ▸ own)).2.1

/-- R8: the head of the zone found there. -/
theorem Leaving.found (h : Leaving l home mine entered w owed c) (pool : PoolLaws w) :
    ∃ i, w.findItem c.tag = some i ∧ i.zone = home := by
  obtain ⟨p, rest, first⟩ := h.head
  obtain ⟨i, hi, tag, -⟩ := mem_spots.1 (first ▸ List.mem_cons_self : (c.tag, p) ∈ w.spots home)
  have tag : i.tag = c.tag := tag
  exact ⟨i, tag ▸ pool.findItem_of_mem (mem_lineItems.2 ⟨home, hi⟩), pool.zone home i hi⟩

theorem Underway.cross_zoneEnd (h : Underway l home mine entered w owed) (hb : b ∈ owed)
    (hz : b.point = .zoneEnd) :
    Underway l home mine entered (w.cross b).1 (owedAfter owed b (w.cross b)) := by
  have hv : b.point ≠ .overlength := by rw [hz]; nofun
  have leaving := h.leaving b hb hz
  have pool := h.lawful.booked.pool
  have still := cross_still w b
  have layout := activeLayout_of_still still
  obtain ⟨i, found, zone⟩ := leaving.found pool
  have crossed : w.cross b = w.leaveZone b.tag home := by simp only [State.cross, hz, found, zone]
  have rest {c : Crossing} (hc : c ∈ owed) (hne : c ≠ b) : c.tag ≠ b.tag ∧ c.point ≠ .zoneEnd :=
    ⟨fun he => hne (leaving.alone c hc (.inl he)), fun he => hne (leaving.alone c hc (.inr he))⟩
  have loud {c : Crossing} (hc : c ∈ owed) (hq : mine c.tag = false) : False :=
    ((h.quiet c hc hq).2 b hb leaving.own).1 hz
  rcases leaveZone_line h.lawful (z := home) found (h.layout ▸ leaving.range) with
    ⟨gone, more⟩ | ⟨y, p, clamped, after, place, spots, -, more⟩
  · rw [← crossed] at gone more
    have mem {c : Crossing} (hc : c ∈ owedAfter owed b (w.cross b)) : c ∈ owed ∧ c ≠ b := by
      rcases mem_owedAfter.1 hc with ⟨hm, hne, -⟩ | ⟨hm, -⟩
      · exact ⟨hm, hne⟩
      · rw [more] at hm
        cases hm
    refine h.thin (fun c hc => (mem hc).1) (owedAfter_nodup h.nodup (more ▸ List.nodup_nil) (more ▸ nofun))
      (cross_lawful h.lawful b) layout (fun c hc _ z p hx => ?_) (fun c hc hp => ?_) (fun c hc hp => ?_)
      fun c hc hq => (loud (mem hc).1 hq).elim
    · rw [gone.spots]
      exact List.mem_filter.2 ⟨hx, bne_iff_ne.2 (rest (mem hc).1 (mem hc).2).1⟩
    · exact absurd hp (rest (mem hc).1 (mem hc).2).2
    · exact (h.long c (mem hc).1 hp).2.1.of_eq (module_of_still still) layout
        fun x hx => (gone.sublist 0).subset hx
  · rw [← crossed] at spots more
    rw [h.layout] at more after
    have next := (zoneAfter_eq_some.1 after).1
    have mem {c : Crossing} (hc : c ∈ owedAfter owed b (w.cross b)) :
        (c ∈ owed ∧ c ≠ b) ∨ c ∈ l.pointsIn b.tag y (-1) p := by
      rcases mem_owedAfter.1 hc with ⟨hm, hne, -⟩ | ⟨hm, -⟩
      · exact .inl ⟨hm, hne⟩
      · exact .inr (more ▸ hm)
    refine ⟨cross_lawful h.lawful b, layout.trans h.layout,
      owedAfter_nodup h.nodup (more ▸ pointsIn_nodup ..) (fun c hc hm => ?_), fun c hc hp => ?_,
      fun c hc d hp => ?_, fun c hc hp => ?_, fun c hc hp => ?_, fun c hc hq => ?_⟩
    · rw [more] at hc
      obtain ⟨tag, inside, -⟩ := pointsIn_tag hc
      exact inside (leaving.alone c hm (.inl tag) ▸ hz)
    · rw [spots]
      rcases mem hc with ⟨hm, hne⟩ | hm
      · obtain ⟨q, hx⟩ := h.present c hm hp
        exact ⟨q, List.mem_append_left _
          (List.mem_filter.2 ⟨hx, bne_iff_ne.2 (rest hm hne).1⟩)⟩
      · rw [zoneIn_of_pointsIn hm, (pointsIn_tag hm).1]
        exact ⟨p, List.mem_append_right _ (by rw [if_pos rfl]; exact List.mem_singleton_self _)⟩
    · rcases mem hc with ⟨hm, -⟩ | hm
      · exact h.known c hm d hp
      · rcases List.mem_append.1 hm with hm | hm
        · obtain ⟨e, v, he, -, -, -, rfl⟩ := triggersIn_points hm
          obtain rfl := Point.trigger.inj hp
          exact ⟨v, he⟩
        · obtain ⟨e, v, -, -, -, -, -, rfl⟩ := windowEndsIn_points hm
          cases hp
    · rcases mem hc with ⟨hm, hne⟩ | hm
      exacts [absurd hp (rest hm hne).2, absurd hp (pointsIn_tag hm).2.1]
    · rcases mem hc with ⟨hm, -⟩ | hm
      · obtain ⟨same, ready, own⟩ := h.long c hm hp
        refine ⟨same, ready.of_eq (module_of_still still) layout fun x hx => ?_, own⟩
        rw [spots] at hx
        rcases List.mem_append.1 hx with hx | hx
        · exact (List.mem_filter.1 hx).1
        · rw [if_neg (fun h0 => by subst h0; exact absurd next (by simp))] at hx
          cases hx
      · exact absurd hp (pointsIn_tag hm).2.2
    · rcases mem hc with ⟨hm, -⟩ | hm
      · exact (loud hm hq).elim
      · rw [(pointsIn_tag hm).1, leaving.own] at hq
        cases hq

/-- What acts is of the tags `mine`. -/
theorem Underway.own (h : Underway l home mine entered w owed) (hb : b ∈ owed) (acts : w.actsAt b = true) :
    mine b.tag = true := by
  cases hq : mine b.tag with
  | true => rfl
  | false =>
    rw [(h.quiet b hb hq).1.idle] at acts
    cases acts

theorem Underway.cross (h : Underway l home mine entered w owed) (hb : b ∈ owed)
    (acts : w.actsAt b = true) :
    Underway l home mine entered (w.cross b).1 (owedAfter owed b (w.cross b)) := by
  by_cases hz : b.point = .zoneEnd
  · exact h.cross_zoneEnd hb hz
  by_cases hv : b.point = .overlength
  · exact h.cross_overlength hb hv
  exact h.cross_point hb (h.own hb acts) hz hv

/-- What a crossing that acts makes of the state, as a thing met. -/
theorem Underway.meets (h : Underway l home mine entered w owed) (hb : b ∈ owed)
    (acts : w.actsAt b = true) :
    ∃ t rs more, MetOnce w (b.met l home) t rs ∧ Crosses b w t rs more ∧
      (b.point ≠ .zoneEnd → more = []) ∧
      (b.point = .zoneEnd → b.tag ∉ t.lineTags ∧ more = [] ∨ more = entered) := by
  have pool := h.lawful.booked.pool
  cases hp : b.point with
  | zoneEnd =>
    obtain ⟨t, rs, more, met, crosses, outcome⟩ := zoneEnd_crosses (l := l) pool hp (h.leaving b hb hp).head
    refine ⟨t, rs, more, met, crosses, fun hn => absurd rfl hn, fun _ => outcome.imp_right fun he => ?_⟩
    exact he.1.trans (h.leaving b hb hp).entered
  | overlength =>
    obtain ⟨-, ready, -⟩ := h.long b hb hp
    obtain ⟨t, rs, met, crosses, -⟩ := overlength_crosses (l := l) (home := home) h.lawful hp ready
    exact ⟨t, rs, [], met, crosses, fun _ => rfl, nofun⟩
  | windowEnd e =>
    obtain ⟨t, rs, met, crosses⟩ := windowEnd_crosses (l := l) (home := home) pool hp acts
      (h.present b hb (by rw [hp]; nofun))
    exact ⟨t, rs, [], met, crosses, fun _ => rfl, nofun⟩
  | trigger d =>
    obtain ⟨v, hv⟩ := h.known b hb d hp
    obtain ⟨t, rs, met, crosses⟩ := trigger_crosses (l := l) (home := home) pool hp acts (h.layout ▸ hv)
      (h.present b hb (by rw [hp]; nofun))
    exact ⟨t, rs, [], met, crosses, fun _ => rfl, nofun⟩

/-! ### What has been met -/

/-- The crossings `done`, in their order, have made the state `s` of `u`, and with those that are due they are
`all`. -/
def Trace (l : Layout) (home : ZoneId) (mine : Nat → Bool) (entered : List Crossing) (u : State)
    (all : Crossing → Prop) (s : State) (owed : List Crossing) : Prop :=
  ∃ (done : List Crossing) (w : State) (rs : List Report) (k : Nat), s = w.noted rs k ∧
    MetInTurn (done.map fun c => c.met l home) u w rs ∧ Underway l home mine entered w owed ∧
    done.Nodup ∧ (∀ c, all c ↔ c ∈ done ∨ Due mine entered owed c) ∧
    (∀ c ∈ done, ¬ Due mine entered owed c) ∧ done.Pairwise Precedes ∧
    ∀ a ∈ done, ∀ c, Due mine entered owed c → Precedes a c

variable {all : Crossing → Prop}

/-- More crossings are done with. -/
theorem Trace.advance {done more : List Crossing}
    (met : MetInTurn (done.map fun c => c.met l home) u w rs) (nodup : done.Nodup)
    (whole : ∀ c, all c ↔ c ∈ done ∨ Due mine entered owed c)
    (fresh : ∀ c ∈ done, ¬ Due mine entered owed c) (order : done.Pairwise Precedes)
    (before : ∀ a ∈ done, ∀ c, Due mine entered owed c → Precedes a c)
    (then_ : MetInTurn (more.map fun c => c.met l home) w t qs)
    (under : Underway l home mine entered t left) (distinct : more.Nodup)
    (due : ∀ c, Due mine entered owed c ↔ c ∈ more ∨ Due mine entered left c)
    (gone : ∀ c ∈ more, ¬ Due mine entered left c) (sorted : more.Pairwise Precedes)
    (first : ∀ a ∈ more, ∀ c, Due mine entered left c → Precedes a c) :
    Trace l home mine entered u all (t.noted (rs ++ qs) k) left := by
  have was {c : Crossing} (hc : c ∈ more) : Due mine entered owed c := (due c).2 (.inl hc)
  refine ⟨done ++ more, t, rs ++ qs, k, rfl, ?_, under, ?_, fun c => ?_, fun c hc => ?_, ?_,
    fun a ha c hc => ?_⟩
  · rw [List.map_append]
    exact metInTurn_append met then_
  · exact List.nodup_append.2 ⟨nodup, distinct, fun a ha b hb he => fresh a ha (he ▸ was hb)⟩
  · rw [whole, due, List.mem_append, or_assoc]
  · rcases List.mem_append.1 hc with hd | hm
    · exact fun h => fresh c hd ((due c).2 (.inr h))
    · exact gone c hm
  · exact List.pairwise_append.2 ⟨order, sorted, fun a ha b hb => before a ha b (was hb)⟩
  · rcases List.mem_append.1 ha with hd | hm
    · exact before a hd c ((due c).2 (.inr hc))
    · exact first a hm c hc

theorem Trace.free (h : Trace l home mine entered u all s owed) (k : Nat) :
    Trace l home mine entered u all { s with freeIndex := k } owed := by
  obtain ⟨done, w, rs, j, rfl, rest⟩ := h
  exact ⟨done, w, rs, k, rfl, rest⟩

/-- What the points entered are. -/
theorem Underway.entered_points (h : Underway l home mine entered w owed)
    (hz : ∃ z ∈ owed, z.point = .zoneEnd) : ∃ z ∈ owed, z.point = .zoneEnd ∧
      ∀ c ∈ entered, c.tag = z.tag ∧ c.point ≠ .zoneEnd ∧ c.point ≠ .overlength := by
  obtain ⟨z, hz, hp⟩ := hz
  refine ⟨z, hz, hp, fun c hc => ?_⟩
  rw [← (h.leaving z hz hp).entered] at hc
  unfold State.entered at hc
  split at hc
  exacts [pointsIn_tag hc, nomatch hc]

/-- A lowest crossing comes before what is due beside it. -/
theorem Underway.precedes (h : Underway l home mine entered w owed) (hb : b ∈ owed)
    (low : isLowest owed b = true) (hc : Due mine entered owed c) (hne : c ≠ b) : Precedes b c := by
  intro tag
  rcases hc with ⟨hc, -⟩ | ⟨hc, ends⟩
  · refine ⟨fun hz => hne ((h.leaving c hc hz).alone b hb (.inl tag)).symm, .inr ?_⟩
    simp only [isLowest, List.all_eq_true, Bool.or_eq_true, decide_eq_true_eq] at low
    exact (low c hc).resolve_left fun hn => bne_iff_ne.1 hn tag.symm
  · obtain ⟨z, hz, hp, points⟩ := h.entered_points ends
    obtain ⟨same, inside, -⟩ := points c hc
    obtain rfl := (h.leaving z hz hp).alone b hb (.inl (tag.trans same))
    exact ⟨inside, .inl hp⟩

theorem Trace.skip {ready : List Crossing} (h : Trace l home mine entered u all s owed)
    (idle : ∀ c ∈ ready, c ∈ owed ∧ isLowest owed c = true ∧ s.actsAt c = false) :
    Trace l home mine entered u all s (owed.filter fun b => !ready.contains b) := by
  obtain ⟨done, w, rs, k, rfl, met, under, nodup, whole, fresh, order, before⟩ := h
  have idle {c : Crossing} (hc : c ∈ ready) : c ∈ owed ∧ isLowest owed c = true ∧ w.actsAt c = false := by
    obtain ⟨mem, low, acts⟩ := idle c hc
    exact ⟨mem, low, by rwa [noted_actsAt] at acts⟩
  have inner {c : Crossing} (hc : c ∈ ready) : c.point ≠ .zoneEnd ∧ c.point ≠ .overlength := by
    refine ⟨fun hp => ?_, fun hp => ?_⟩ <;> have acts := (idle hc).2.2
    · rw [actsAt_of_end (.inl hp)] at acts
      cases acts
    · rw [actsAt_of_end (.inr hp)] at acts
      cases acts
  have kept {c : Crossing} : c ∈ owed.filter (fun b => !ready.contains b) ↔ c ∈ owed ∧ c ∉ ready := by
    simp
  have ends : (∃ z ∈ owed.filter fun b => !ready.contains b, z.point = .zoneEnd) ↔
      ∃ z ∈ owed, z.point = .zoneEnd := by
    constructor
    · rintro ⟨z, hz, hp⟩
      exact ⟨z, (kept.1 hz).1, hp⟩
    · rintro ⟨z, hz, hp⟩
      exact ⟨z, kept.2 ⟨hz, fun hr => (inner hr).1 hp⟩, hp⟩
  have apart {c : Crossing} (hr : c ∈ ready) : ¬ (c ∈ entered ∧ ∃ z ∈ owed, z.point = .zoneEnd) := by
    rintro ⟨he, hz⟩
    obtain ⟨z, hz, hp, points⟩ := under.entered_points hz
    obtain rfl := (under.leaving z hz hp).alone c (idle hr).1 (.inl (points c he).1)
    exact (inner hr).1 hp
  have due (c : Crossing) : Due mine entered (owed.filter fun b => !ready.contains b) c ↔
      Due mine entered owed c ∧ c ∉ ready := by
    unfold Due
    rw [kept, ends]
    constructor
    · rintro (⟨⟨hc, hr⟩, hm⟩ | he)
      · exact ⟨.inl ⟨hc, hm⟩, hr⟩
      · exact ⟨.inr he, fun hr => apart hr he⟩
    · rintro ⟨⟨hc, hm⟩ | he, hr⟩
      · exact .inl ⟨⟨hc, hr⟩, hm⟩
      · exact .inr he
  obtain ⟨more, distinct, mem, sorted⟩ := exists_sorted (P := fun c => Due mine entered owed c ∧ c ∈ ready)
    ready fun c hc => hc.2
  have advanced := Trace.advance (k := k) (t := w) (qs := []) met nodup whole fresh order before (more := more)
    (left := owed.filter fun b => !ready.contains b) ?_ (under.skip List.filter_sublist) distinct
    (fun c => ?_) (fun c hc h => ?_) ?_ fun a ha c hc => ?_
  · rwa [List.append_nil] at advanced
  · refine metInTurn_idle fun m hm => ?_
    obtain ⟨c, hc, rfl⟩ := List.mem_map.1 hm
    have hr := ((mem c).1 hc).2
    exact met_idle under.lawful.booked.pool (inner hr).1 (inner hr).2 (idle hr).2.2
  · rw [mem, due]
    by_cases hr : c ∈ ready <;> simp [hr]
  · exact ((due c).1 h).2 ((mem c).1 hc).2
  · refine sorted.imp_of_mem fun {a b} ha hb hab _ => ⟨(inner ((mem b).1 hb).2).1, .inr hab⟩
  · obtain ⟨-, hr⟩ := (mem a).1 ha
    obtain ⟨hd, hn⟩ := (due c).1 hc
    exact under.precedes (idle hr).1 (idle hr).2.1 hd fun he => hn (he ▸ hr)

/-- What is due after a crossing: all that was, but for the crossing, and what its item owed if it is released. -/
theorem Underway.due_after {v : State × List Crossing} (h : Underway l home mine entered w owed)
    (hb : b ∈ owed) (own : mine b.tag = true) (inner : b.point ≠ .zoneEnd → v.2 = [])
    (outer : b.point = .zoneEnd → b.tag ∉ v.1.lineTags ∧ v.2 = [] ∨ v.2 = entered) :
    Due mine entered (owedAfter owed b v) c ↔
      Due mine entered owed c ∧ c ≠ b ∧ (b.tag ∈ v.1.lineTags ∨ c.tag ≠ b.tag) := by
  have mem {c : Crossing} : c ∈ owedAfter owed b v ↔
      c ∈ owed ∧ c ≠ b ∧ (b.tag ∈ v.1.lineTags ∨ c.tag ≠ b.tag) ∨ c ∈ v.2 ∧ b.tag ∈ v.1.lineTags := by
    rw [mem_owedAfter, findItem_isSome]
  unfold Due
  rw [mem]
  by_cases hz : b.point = .zoneEnd
  · have leaving := h.leaving b hb hz
    have tagged {c : Crossing} (hc : c ∈ entered) : c.tag = b.tag ∧ c ≠ b ∧ c.point ≠ .zoneEnd := by
      obtain ⟨z, hm, hp, points⟩ := h.entered_points ⟨b, hb, hz⟩
      obtain rfl := leaving.alone z hm (.inr hp)
      obtain ⟨tag, inside, -⟩ := points c hc
      exact ⟨tag, fun he => inside (he ▸ hz), inside⟩
    have joins (there : b.tag ∈ v.1.lineTags) : v.2 = entered :=
      (outer hz).resolve_left fun gone => gone.1 there
    have last : ¬ ∃ z ∈ owedAfter owed b v, z.point = .zoneEnd := by
      rintro ⟨z, hm, hp⟩
      rcases mem.1 hm with ⟨hm, hne, -⟩ | ⟨hm, there⟩
      · exact hne (leaving.alone z hm (.inr hp))
      · exact (tagged (joins there ▸ hm)).2.2 hp
    constructor
    · rintro (⟨⟨hc, hne, there⟩ | ⟨hc, there⟩, hm⟩ | ⟨-, hz⟩)
      · exact ⟨.inl ⟨hc, hm⟩, hne, there⟩
      · have hc : c ∈ entered := joins there ▸ hc
        exact ⟨.inr ⟨hc, b, hb, hz⟩, (tagged hc).2.1, .inl there⟩
      · exact absurd hz last
    · rintro ⟨⟨hc, hm⟩ | ⟨hc, -⟩, hne, there⟩
      · exact .inl ⟨.inl ⟨hc, hne, there⟩, hm⟩
      · have there := there.resolve_right fun hn => hn (tagged hc).1
        exact .inl ⟨.inr ⟨joins there ▸ hc, there⟩, (tagged hc).1 ▸ own⟩
  · have nothing := inner hz
    have other {z : Crossing} (hm : z ∈ owed) (hp : z.point = .zoneEnd) : z.tag ≠ b.tag ∧ z ≠ b := by
      have hne : z ≠ b := fun he => hz (he ▸ hp)
      exact ⟨fun he => hne ((h.leaving z hm hp).alone b hb (.inl he.symm)).symm, hne⟩
    have ends : (∃ z ∈ owedAfter owed b v, z.point = .zoneEnd) ↔ ∃ z ∈ owed, z.point = .zoneEnd := by
      constructor
      · rintro ⟨z, hm, hp⟩
        rcases mem.1 hm with ⟨hm, -⟩ | ⟨hm, -⟩
        · exact ⟨z, hm, hp⟩
        · rw [nothing] at hm
          cases hm
      · rintro ⟨z, hm, hp⟩
        exact ⟨z, mem.2 (.inl ⟨hm, (other hm hp).2, .inr (other hm hp).1⟩), hp⟩
    have tagged (he : c ∈ entered) (hz : ∃ z ∈ owed, z.point = .zoneEnd) : c.tag ≠ b.tag := by
      obtain ⟨z, hm, hp, points⟩ := h.entered_points hz
      rw [(points c he).1]
      exact (other hm hp).1
    rw [ends, nothing]
    constructor
    · rintro (⟨⟨hc, hne, there⟩ | ⟨hc, -⟩, hm⟩ | ⟨hc, hz⟩)
      · exact ⟨.inl ⟨hc, hm⟩, hne, there⟩
      · cases hc
      · exact ⟨.inr ⟨hc, hz⟩, fun he => tagged hc hz (he ▸ rfl), .inr (tagged hc hz)⟩
    · rintro ⟨⟨hc, hm⟩ | he, hne, there⟩
      · exact .inl ⟨.inl ⟨hc, hne, there⟩, hm⟩
      · exact .inr he

/-- R35: what a released item would still owe, lowest first. -/
theorem Underway.released (h : Underway l home mine entered w owed) (hb : b ∈ owed)
    (low : isLowest owed b = true) (t : State) :
    ∃ gone : List Crossing, gone.Nodup ∧ (∀ c, c ∈ gone ↔ Due mine entered owed c ∧ c ≠ b ∧
        b.tag ∉ t.lineTags ∧ c.tag = b.tag) ∧ gone.Pairwise Precedes ∧ (∀ c ∈ gone, Precedes b c) ∧
      MetInTurn (gone.map fun c => c.met l home) t t [] := by
  obtain ⟨gone, distinct, mem, sorted⟩ := exists_sorted
    (P := fun c => Due mine entered owed c ∧ c ≠ b ∧ b.tag ∉ t.lineTags ∧ c.tag = b.tag) (owed ++ entered)
    fun c hc => List.mem_append.2 (hc.1.imp And.left And.left)
  have first {c : Crossing} (hc : c ∈ gone) : Precedes b c := by
    obtain ⟨hd, hne, -⟩ := (mem c).1 hc
    exact h.precedes hb low hd hne
  refine ⟨gone, distinct, mem, sorted.imp_of_mem fun {a c} ha hc hac tag => ⟨?_, .inr hac⟩,
    fun c hc => first hc, metInTurn_idle fun m hm => ?_⟩
  · exact (first hc ((mem c).1 hc).2.2.2.symm).1
  · obtain ⟨c, hc, rfl⟩ := List.mem_map.1 hm
    obtain ⟨hd, hne, away, tag⟩ := (mem c).1 hc
    refine met_gone (fun hv => ?_) (tag ▸ away)
    rcases hd with ⟨hm, -⟩ | ⟨hm, hz⟩
    · obtain ⟨same, -, -⟩ := h.long c hm hv
      by_cases hl : b.point = .overlength
      · exact hne (same.trans (h.long b hb hl).1.symm)
      · have positive := h.positive hb hl
        rw [← tag, same] at positive
        exact Nat.not_succ_le_zero 0 positive
    · obtain ⟨z, -, -, points⟩ := h.entered_points hz
      exact (points c hm).2.2 hv

theorem Trace.take (h : Trace l home mine entered u all s owed) (hb : b ∈ owed)
    (low : isLowest owed b = true) (acts : s.actsAt b = true) :
    Trace l home mine entered u all (s.cross b).1 (owedAfter owed b (s.cross b)) := by
  obtain ⟨done, w, rs, k, rfl, met, under, nodup, whole, fresh, order, before⟩ := h
  rw [noted_actsAt] at acts
  obtain ⟨t, qs, added, once, crosses, inner, outer⟩ := under.meets hb acts
  have own := under.own hb acts
  have after (n : Nat) (ps : List Report) :
      owedAfter owed b (t.noted ps n, added) = owedAfter owed b (t, added) := by
    unfold owedAfter
    rw [noted_findItem]
  have under_ : Underway l home mine entered t (owedAfter owed b (t, added)) := by
    have crossed := under.cross hb acts
    rw [crosses.now, after] at crossed
    exact crossed.of_noted
  have due {c : Crossing} := under.due_after (c := c) (v := (t, added)) hb own inner outer
  obtain ⟨gone, distinct, mem, sorted, first, idle⟩ := under.released hb low t
  rw [crosses rs k, after]
  refine Trace.advance (more := b :: gone) met nodup whole fresh order before ?_ under_
    (List.nodup_cons.2 ⟨fun hc => ((mem b).1 hc).2.1 rfl, distinct⟩) (fun c => ?_) (fun c hc h => ?_)
    (List.pairwise_cons.2 ⟨first, sorted⟩) fun a ha c hc => ?_
  · have turn := metInTurn_append (metInTurn_one once) idle
    rw [List.append_nil] at turn
    exact turn
  · rw [due, List.mem_cons, mem]
    by_cases he : c = b
    · subst he
      exact iff_of_true (.inl ⟨hb, own⟩) (.inl (.inl rfl))
    · by_cases ht : b.tag ∈ t.lineTags ∨ c.tag ≠ b.tag
      · exact ⟨fun h => .inr ⟨h, he, ht⟩, fun h => h.elim
          (fun h => h.elim (fun h => absurd h he) And.left) And.left⟩
      · have away := ht
        rw [not_or, not_not] at away
        exact ⟨fun h => .inl (.inr ⟨h, he, away⟩), fun h => h.elim
          (fun h => h.elim (fun h => absurd h he) And.left) And.left⟩
  · obtain ⟨-, hne, there⟩ := due.1 h
    rcases List.mem_cons.1 hc with he | hm
    · exact hne he
    · obtain ⟨-, -, away, tag⟩ := (mem c).1 hm
      exact there.elim away fun hn => hn tag
  · obtain ⟨hd, hne, there⟩ := due.1 hc
    rcases List.mem_cons.1 ha with rfl | hm
    · exact under.precedes hb low hd hne
    · obtain ⟨-, -, away, tag⟩ := (mem a).1 hm
      exact fun same => absurd (same.symm.trans tag) (there.resolve_left away)

/-- R6, R7: the crossings of a happening make the state that they make when met one after another, in some
order in which each item comes to its points lowest first. -/
theorem takeCrossings_trace {n : Nat} (under : Underway l home mine entered u owed)
    (bound : owedWeight owed ≤ n) (j : Nat) :
    ∃ (order : List Crossing) (w : State) (rs : List Report) (k : Nat),
      State.takeCrossings n owed { u with freeIndex := j } = w.noted rs k ∧
      MetInTurn (order.map fun c => c.met l home) u w rs ∧ order.Nodup ∧
      (∀ c, c ∈ order ↔ Due mine entered owed c) ∧ order.Pairwise Precedes := by
  have start : Trace l home mine entered u (Due mine entered owed) { u with freeIndex := j } owed :=
    ⟨[], u, [], j, rfl, ⟨rfl, rfl⟩, under, List.nodup_nil, fun c => by simp, nofun, List.Pairwise.nil, nofun⟩
  obtain ⟨left, trace, ended⟩ := takeCrossings_induction (P := Trace l home mine entered u _)
    (fun k h => h.free k) (fun h idle => h.skip idle) (fun h hb low acts => h.take hb low acts) n start
  obtain rfl := ended bound
  obtain ⟨order, w, rs, k, same, met, -, nodup, whole, -, sorted, -⟩ := trace
  refine ⟨order, w, rs, k, same, met, nodup, fun c => ?_, sorted⟩
  rw [whole]
  simp [Due]

end

end Sys2Proof.Machine
end

section
/-! PROOFS. The points that one item comes to in turn, and the match of a blocked edge (R7, R33, R63, R68 to
R70): `ConfirmationEyeMatchesItsBlockedEdge`. -/

namespace Sys2Proof.Machine

set_option Elab.async false

section
variable {l : Layout} {home z : ZoneId} {s u w : State} {b c : Crossing} {order : List Crossing}
  {tag : Nat} {low high : Int} {rs : List Report} {k : Nat}

/-! ### Crossings as points passed -/

/-- The point of a crossing, as an item passes it. -/
def Crossing.passed (c : Crossing) : PassedPoint :=
  match c.point with
  | .trigger d => .trigger d
  | .windowEnd e => .windowEnd e
  | _ => .windowEnd 0

/-- R6, R60, R97: a crossing stands where its point does. -/
theorem pointIn_passed (h : c ∈ l.pointsIn tag z low high) (hl : -1 ≤ low) :
    pointIn l z c.passed = some (c.position : Int) := by
  rcases List.mem_append.1 h with h | h
  · obtain ⟨d, v, hd, hz, above, -, rfl⟩ := triggersIn_points h
    unfold DiverterDef.triggerPoint at above
    simp only [pointIn, Crossing.passed, hd, hz, DiverterDef.triggerPoint, Option.filter_some,
      decide_true, if_true, Option.map_some, Option.some.injEq]
    omega
  · obtain ⟨e, v, he, hz, -, -, inside, rfl⟩ := windowEndsIn_points h
    unfold EyeDef.missPoint at inside
    simp [pointIn, Crossing.passed, he, hz, EyeDef.missPoint, inside]

theorem passed_injective (hb : b ∈ l.pointsIn tag z low high) (hc : c ∈ l.pointsIn tag z low high)
    (h : b.passed = c.passed) : b = c := by
  rcases List.mem_append.1 hb with hb | hb <;> rcases List.mem_append.1 hc with hc | hc
  · obtain ⟨d, v, hd, -, -, -, rfl⟩ := triggersIn_points hb
    obtain ⟨e, w, he, -, -, -, rfl⟩ := triggersIn_points hc
    obtain rfl := PassedPoint.trigger.inj h
    obtain rfl := Option.some.inj (hd.symm.trans he)
    rfl
  · obtain ⟨d, v, -, -, -, -, rfl⟩ := triggersIn_points hb
    obtain ⟨e, w, -, -, -, -, -, rfl⟩ := windowEndsIn_points hc
    cases h
  · obtain ⟨e, w, -, -, -, -, -, rfl⟩ := windowEndsIn_points hb
    obtain ⟨d, v, -, -, -, -, rfl⟩ := triggersIn_points hc
    cases h
  · obtain ⟨d, v, hd, -, -, -, -, rfl⟩ := windowEndsIn_points hb
    obtain ⟨e, w, he, -, -, -, -, rfl⟩ := windowEndsIn_points hc
    obtain rfl := PassedPoint.windowEnd.inj h
    obtain rfl := Option.some.inj (hd.symm.trans he)
    rfl

theorem windowEnd_passed {e : EyeId} (hl : -1 ≤ low) :
    (∃ c ∈ l.pointsIn tag z low high, c.passed = .windowEnd e) ↔
      ∃ q ∈ pointIn l z (.windowEnd e), low < q ∧ q ≤ high := by
  constructor
  · rintro ⟨c, hc, hp⟩
    have at_ := pointIn_passed hc hl
    rcases List.mem_append.1 hc with hc | hc
    · obtain ⟨d, v, -, -, -, -, rfl⟩ := triggersIn_points hc
      cases hp
    · obtain ⟨d, v, -, -, above, below, -, rfl⟩ := windowEndsIn_points hc
      obtain rfl := PassedPoint.windowEnd.inj hp
      exact ⟨_, at_, above, below⟩
  · rintro ⟨q, hq, above, below⟩
    obtain ⟨v, hv, rfl⟩ := Option.map_eq_some_iff.1 hq
    obtain ⟨hv, inside⟩ := Option.filter_eq_some_iff.1 hv
    obtain ⟨hz, inside⟩ := of_decide_eq_true inside
    refine ⟨⟨tag, v.missPoint, .windowEnd e⟩, List.mem_append_right _ ?_, rfl⟩
    refine List.mem_filterMap.2 ⟨e, List.mem_finRange e, Option.bind_eq_some_iff.2 ⟨v, hv, if_pos ?_⟩⟩
    unfold EyeDef.missPoint
    exact ⟨hz, by omega, by omega, inside⟩

theorem trigger_passed {d : DiverterId} (hl : -1 ≤ low) :
    (∃ c ∈ l.pointsIn tag z low high, c.passed = .trigger d) ↔
      ∃ q ∈ pointIn l z (.trigger d), low < q ∧ q ≤ high := by
  constructor
  · rintro ⟨c, hc, hp⟩
    have at_ := pointIn_passed hc hl
    rcases List.mem_append.1 hc with hc | hc
    · obtain ⟨e, v, -, -, above, below, rfl⟩ := triggersIn_points hc
      obtain rfl := PassedPoint.trigger.inj hp
      refine ⟨_, at_, ?_, ?_⟩ <;> dsimp only <;> omega
    · obtain ⟨e, v, -, -, -, -, -, rfl⟩ := windowEndsIn_points hc
      cases hp
  · rintro ⟨q, hq, above, below⟩
    obtain ⟨v, hv, rfl⟩ := Option.map_eq_some_iff.1 hq
    obtain ⟨defined, inside⟩ := Option.filter_eq_some_iff.1 hv
    obtain rfl := of_decide_eq_true inside
    exact ⟨_, trigger_mem_pointsIn defined tag above below, rfl⟩

/-- R7: the crossings of one item's points, lowest first, are the points that it comes to. -/
theorem pointsBetween_of_order (hl : -1 ≤ low) (nodup : order.Nodup)
    (mem : ∀ c, c ∈ order ↔ c ∈ l.pointsIn tag z low high) (sorted : order.Pairwise Precedes) :
    PointsBetween l z low high (order.map Crossing.passed) := by
  refine ⟨List.Nodup.map_on (fun b hb c hc => passed_injective ((mem b).1 hb) ((mem c).1 hc)) nodup,
    fun e => ?_, fun d => ?_, ?_⟩
  · rw [← windowEnd_passed (tag := tag) hl, List.mem_map]
    simp only [mem]
  · rw [← trigger_passed (tag := tag) hl, List.mem_map]
    simp only [mem]
  · refine List.pairwise_map.2 (sorted.imp_of_mem fun {b c} hb hc hbc p hp q hq => ?_)
    have first := (mem b).1 hb
    have second := (mem c).1 hc
    rw [pointIn_passed first hl] at hp
    rw [pointIn_passed second hl] at hq
    obtain rfl := Option.some.inj hp
    obtain rfl := Option.some.inj hq
    have tags := (pointsIn_tag first).1.trans (pointsIn_tag second).1.symm
    have le := (hbc tags).2.resolve_left (pointsIn_tag first).2.1
    exact Int.ofNat_le.2 le

theorem met_passed (h : c ∈ l.pointsIn tag z low high) : c.met l home = .point z tag c.passed := by
  have zone := zoneIn_of_pointsIn (home := home) h
  rcases List.mem_append.1 h with h | h
  · obtain ⟨d, v, -, -, -, -, rfl⟩ := triggersIn_points h
    rw [met_trigger rfl, zone]
    rfl
  · obtain ⟨e, v, -, -, -, -, -, rfl⟩ := windowEndsIn_points h
    rw [met_windowEnd rfl, zone]
    rfl

/-- What is known of an item's points. -/
theorem pointsIn_known (h : c ∈ l.pointsIn tag z low high) {d : DiverterId} (hp : c.point = .trigger d) :
    ∃ v, l.diverters[d] = some v := by
  rcases List.mem_append.1 h with h | h
  · obtain ⟨e, v, he, -, -, -, rfl⟩ := triggersIn_points h
    obtain rfl := Point.trigger.inj hp
    exact ⟨v, he⟩
  · obtain ⟨e, v, -, -, -, -, -, rfl⟩ := windowEndsIn_points h
    cases hp

/-- R7: an item carried to a place comes to the points up to there. -/
theorem takeAll_carried (lawful : Lawful u) (hl : -1 ≤ low) {p : Nat} (here : (tag, p) ∈ u.spots z) :
    ∃ pts w rs k, PointsBetween u.activeLayout z low high pts ∧
      MetInTurn (pts.map fun pt => .point z tag pt) u w rs ∧
      u.takeAll (u.activeLayout.pointsIn tag z low high) = w.noted rs k := by
  have under : Underway u.activeLayout z (fun _ => true) [] u
      (u.activeLayout.pointsIn tag z low high) := by
    refine ⟨lawful, rfl, pointsIn_nodup .., fun c hc _ => ⟨p, ?_⟩, fun c hc d => pointsIn_known hc,
      fun c hc hp => absurd hp (pointsIn_tag hc).2.1, fun c hc hp => absurd hp (pointsIn_tag hc).2.2,
      fun c _ => nofun⟩
    rw [zoneIn_of_pointsIn hc, (pointsIn_tag hc).1]
    exact here
  have none_ : (u.activeLayout.pointsIn tag z low high).countP (fun c => c.point = .zoneEnd) = 0 := by
    rw [List.countP_eq_zero]
    intro c hc
    simpa using (pointsIn_tag hc).2.1
  obtain ⟨order, w, rs, k, made, met, nodup, mem, sorted⟩ := takeCrossings_trace
    (n := (u.activeLayout.pointsIn tag z low high).length + 28) under (by
      unfold owedWeight
      rw [none_]
      omega) u.freeIndex
  have mem (c : Crossing) : c ∈ order ↔ c ∈ u.activeLayout.pointsIn tag z low high := by
    rw [mem]
    simp [Due]
  refine ⟨order.map Crossing.passed, w, rs, k, pointsBetween_of_order hl nodup mem sorted, ?_, made⟩
  rw [List.map_map]
  have same : (order.map fun c => c.met u.activeLayout z) =
      order.map ((fun pt => .point z tag pt) ∘ Crossing.passed) :=
    List.map_congr_left fun c hc => met_passed ((mem c).1 hc)
  rw [← same]
  exact met

/-! ### The match -/

section
variable {e : EyeId} {d : EyeDef} {i : Item} {ahead_ behind_ : List Item}

/-- R68: an item of the eye's zone that is due there within the window. -/
abbrev State.dueAt (s : State) (e : EyeId) (d : EyeDef) (j : Item) : Prop :=
  j.state = .tracked ∧ j.nextEye = some e ∧ d.position ≤ s.place d.zone j + d.tolerance ∧
    s.place d.zone j ≤ d.position + d.tolerance

theorem isCandidate_iff (pool : PoolLaws s) {j : Item} (hj : j ∈ s.zones[d.zone].track) :
    s.isCandidate e d j = true ↔ s.dueAt e d j := by
  unfold State.isCandidate EyeDef.inWindow State.dueAt
  simp only [Bool.and_eq_true, decide_eq_true_eq, and_assoc, pool.place_eq hj]

theorem candidate_eq_none (pool : PoolLaws s) (h : ∀ j ∈ s.zones[d.zone].track, ¬ s.dueAt e d j) :
    s.candidate e d = none :=
  List.find?_eq_none.2 fun j hj hc => h j hj ((isCandidate_iff pool hj).1 hc)

/-- R68: the most downstream item due is the one matched. -/
theorem candidate_eq_some (pool : PoolLaws s) (ht : s.zones[d.zone].track = ahead_ ++ i :: behind_)
    (due : s.dueAt e d i) (first : ∀ j ∈ ahead_, ¬ s.dueAt e d j) : s.candidate e d = some i := by
  have mem {j : Item} (hj : j ∈ ahead_ ++ i :: behind_) : j ∈ s.zones[d.zone].track := ht ▸ hj
  refine List.find?_eq_some_iff_append.2 ⟨(isCandidate_iff pool (mem (by simp))).2 due, ahead_, behind_, ht,
    fun j hj => ?_⟩
  have undue := first j hj
  rw [← isCandidate_iff pool (mem (List.mem_append_left _ hj))] at undue
  simpa using undue

/-- R33: the place of a matched item, bounded by its neighbours. -/
theorem resyncPosition_place (pool : PoolLaws s) (ht : s.zones[z].track = ahead_ ++ i :: behind_) (p : Nat) :
    s.resyncPosition i p =
      if (ahead_.getLast?.map (s.place z)).any (fun q => q ≤ p) then
        (ahead_.getLast?.map (s.place z)).getD 0 - 1
      else if (behind_.head?.map (s.place z)).any (fun q => p ≤ q) then
        (behind_.head?.map (s.place z)).getD 0 + 1
      else p := by
  obtain ⟨front, back, -⟩ := pool.apart ht
  have zone : i.zone = z := pool.zone z i (by rw [ht]; simp)
  have here : s.zones[i.zone] = s.zones[z] := congrArg (fun z : ZoneId => s.zones[z]) zone
  have same {l : Option Item} (hl : ∀ j ∈ l, j ∈ s.zones[z].track) : l.map s.position = l.map (s.place z) :=
    Option.map_congr fun j hj => (pool.place_eq (hl j hj)).symm
  unfold State.resyncPosition
  rw [here, ht, ahead_at front back, behind_at front,
    same fun j hj => by rw [ht]; simp [List.mem_of_getLast? hj],
    same fun j hj => by rw [ht]; simp [List.mem_of_head? hj]]
  unfold boundBetween
  cases ahead_.getLast?.map (s.place z) <;> cases behind_.head?.map (s.place z) <;> simp

theorem matchItem_withTrack (pool : PoolLaws s) (ht : s.zones[z].track = ahead_ ++ i :: behind_)
    (e : EyeId) (p : Nat) : s.matchItem e i p = s.withTrack z (ahead_ ++
      { i with
        nextEye := s.activeLayout.eyeFollowing e, missRun := 0, returnedAt := none
        flags := { i.flags with atRisk := false }
        base := s.zones[z].count - BitVec.ofNat 24 p } :: behind_) := by
  have zone : i.zone = z := pool.zone z i (by rw [ht]; simp)
  have here : s.zones[i.zone].count = s.zones[z].count :=
    congrArg (fun z : ZoneId => s.zones[z].count) zone
  unfold State.matchItem State.baseFor
  rw [pool.updateItem_at ht, here]
  rfl

/-- R70: a phantom. -/
theorem phantom_eq (s : State) (e : EyeId) (z : ZoneId) : s.phantom e z =
    State.postAll [.phantom e z]
      { s with counters := { s.counters with phantom := s.counters.phantom + 1 } } := rfl

/-- R69: a matched item comes to the points that it has been carried past. -/
theorem matchEdge_makes (lawful : Lawful s) (ht : s.zones[d.zone].track = ahead_ ++ i :: behind_)
    (due : s.dueAt e d i) (first : ∀ j ∈ ahead_, ¬ s.dueAt e d j) {p : Nat}
    (hp : s.resyncPosition i d.position = p) :
    ∃ pts w rs k, PointsBetween s.activeLayout d.zone (s.place d.zone i) p pts ∧
      MetInTurn (pts.map fun pt => .point d.zone i.tag pt) (s.withTrack d.zone (ahead_ ++
        { i with
          nextEye := s.activeLayout.eyeFollowing e, missRun := 0, returnedAt := none
          flags := { i.flags with atRisk := false }
          base := s.zones[d.zone].count - BitVec.ofNat 24 p } :: behind_)) w rs ∧
      s.matchEdge e d = w.noted rs k := by
  have pool := lawful.booked.pool
  have mem : i ∈ s.zones[d.zone].track := by rw [ht]; simp
  have zone : i.zone = d.zone := pool.zone d.zone i mem
  have matched := matchItem_withTrack pool ht e p
  have placed := matchItem_lawful lawful e i p
  have taken : s.matchEdge e d = (s.matchItem e i p).takeAll
      ((s.matchItem e i p).activeLayout.pointsIn i.tag d.zone (s.place d.zone i) p) := by
    unfold State.matchEdge State.resyncPoints
    rw [candidate_eq_some pool ht due first]
    dsimp only
    rw [hp, zone, pool.place_eq mem]
    rfl
  rw [taken]
  rw [matched] at placed ⊢
  have here (track : List Item) (j : Item) (hj : j ∈ track) :
      (j.tag, s.place d.zone j) ∈ (s.withTrack d.zone track).spots d.zone := by
    rw [spots_withTrack]
    dsimp only
    rw [if_pos rfl]
    exact List.mem_map_of_mem (f := fun j : Item => (j.tag, s.place d.zone j)) hj
  exact takeAll_carried placed (by omega) (here _
    { i with
      nextEye := s.activeLayout.eyeFollowing e, missRun := 0, returnedAt := none
      flags := { i.flags with atRisk := false }
      base := s.zones[d.zone].count - BitVec.ofNat 24 p } (by simp))

theorem lamps_matchEdge (s : State) (e : EyeId) (d : EyeDef) : (s.matchEdge e d).lamps = s.lamps := by
  unfold State.matchEdge
  split
  exacts [rfl, (lamps_takeAll _ _).trans (lamps_updateItem _ _ _)]

/-- A blocked edge that makes the state `w` and posts `rs`, whatever choices were free. -/
theorem blockedEdge_leads (ha : s.resetActive = false) (hd : s.activeLayout.eyes[e] = some d)
    (hi : s.inputs.eyes[e] = !(d.sense == .darkOn)) (he : s.blockedEdge e = w.noted rs k)
    (lamps : (s.blockedEdge e).lamps = s.lamps) :
    Leads (.blockedEdge e) s fun t => BringsAway s { w with freeIndex := t.freeIndex } t rs := by
  have effect : s.blockedEdge e = State.postAll rs { w with freeIndex := k } := by
    rw [he]
    unfold State.noted
    rw [postAll_frame rs { w with freeIndex := k }, postAll_frame rs w,
      postAll_congr (s := w) (t := { w with freeIndex := k }) rfl rfl]
  rw [effect, lamps_postAll] at lamps
  obtain ⟨t, step, brings⟩ := blockedEdge_happens ha hd hi effect (congrFun lamps)
  obtain rfl : t.freeIndex = k := congrArg State.freeIndex brings.1.1
  exact ⟨t, step, brings⟩

end

end

/-- Settles O53: an open eye matches its edge to the first item due, which is then carried past points; a
DISABLED one follows its input. -/
theorem confirmationEyeMatchesItsBlockedEdge : Obligations.ConfirmationEyeMatchesItsBlockedEdge := by
  unfold Obligations.ConfirmationEyeMatchesItsBlockedEdge
  intro s e hr ha level c
  have lawful := (recordLaws_iff s).1 hr
  have pool := lawful.booked.pool
  refine ⟨fun hd => ⟨fun hi => ?_, fun hi => ?_⟩, fun d hd role => ?_⟩
  · refine happening_brings s _ [] (State.blockedEdge e) (!s.eyeBlocked e) ha ?_ ?_ fun _ => rfl
    · unfold State.eyeBlocked
      rw [hd]
      simp [hi]
    · unfold State.blockedEdge State.setEyeBlocked
      rw [hd]
      rfl
  · refine happening_brings s _ [] (State.unblockedEdge e) (s.eyeBlocked e) ha ?_ ?_ fun _ => rfl
    · unfold State.eyeBlocked
      rw [hd]
      simp [hi]
    · unfold State.unblockedEdge State.setEyeBlocked
      rw [hd]
      rfl
  · intro active became blocked due
    have hd := Option.mem_def.1 hd
    refine ⟨fun hi => ⟨fun off => ?_, fun open_ => ?_⟩, fun hi => ⟨fun state => ?_, fun state => ?_,
      fun off => ?_⟩⟩
    · refine blockedEdge_happens ha hd hi ?_ fun _ => rfl
      unfold State.blockedEdge
      rw [setEyeBlocked_eq hd, hd, off]
      dsimp only
      rw [role]
      rfl
    · have opened : s.blockedEdge e = State.matchEdge e d blocked := by
        rw [blockedEdge_open hd open_, State.blockedAtItems, role]
      have same : Lawful blocked := lawful.same (.of_zones rfl rfl)
      refine ⟨fun none_ => ?_, fun ahead_ behind_ i ht here first => ?_⟩
      · refine blockedEdge_happens ha hd hi ?_ fun _ => rfl
        rw [opened, State.matchEdge, candidate_eq_none same.booked.pool none_]
        exact phantom_eq blocked e d.zone
      · intro above below bounded
        have place : State.resyncPosition blocked i d.position = bounded :=
          resyncPosition_place same.booked.pool ht d.position
        obtain ⟨pts, w, rs, k, between, met, made⟩ := matchEdge_makes same ht here first place
        obtain ⟨t, step, brings⟩ := blockedEdge_leads ha hd hi (opened.trans made)
          (by rw [opened, lamps_matchEdge]; rfl)
        exact ⟨t, step, pts, w, rs, between, met, brings⟩
    · refine unblockedEdge_happens ha hd hi ?_ fun _ => rfl
      rw [unblockedEdge_shut hd (.inl state), State.unblockedAtItems, role, if_pos state]
      rfl
    · refine unblockedEdge_happens ha hd hi ?_ fun _ => rfl
      rw [unblockedEdge_shut hd (.inr state), State.unblockedAtItems, role, state]
      rfl
    · refine unblockedEdge_happens ha hd hi ?_ fun _ => rfl
      unfold State.unblockedEdge
      rw [setEyeBlocked_eq hd, hd, off]
      dsimp only
      rw [State.unblockedAtItems, role]
      rfl

end Sys2Proof.Machine
end

section
/-! PROOFS. What a pulse brings about, in some order, and a pulse that brings one item to a trigger point (R6 to
R10, R49, R98, R110 to R115): `TriggerPointIsDecidedOrShadowed`. -/

namespace Sys2Proof.Machine

set_option Elab.async false

section
variable {s u w : State} {z y : ZoneId} {i j : Item} {b c : Crossing} {rs : List Report}
  {ahead_ behind_ : List Item} {order : List Crossing}

/-! ### The points at which the items stand -/

/-- The points that a pulse owes, as items and points. -/
def State.reachedPoints (u : State) (z : ZoneId) : List (Nat × PassedPoint) :=
  (u.pointsOwed z).map fun c => (c.tag, c.passed)

theorem reachedPoints_met (u : State) (z : ZoneId) :
    ((u.reachedPoints z).map fun r => Met.point z r.1 r.2) =
      (u.pointsOwed z).map fun c => c.met u.activeLayout z := by
  unfold State.reachedPoints
  rw [List.map_map]
  refine List.map_congr_left fun c hc => ?_
  obtain ⟨i, -, hi⟩ := List.mem_flatMap.1 hc
  rw [met_passed hi, Function.comp_apply, (pointsIn_tag hi).1]

theorem pointsOwed_nodup (pool : PoolLaws u) (z : ZoneId) : (u.pointsOwed z).Nodup :=
  (pulseOwed_nodup pool z).sublist
    ((List.sublist_append_right _ _).trans (List.sublist_append_left _ _))

/-- R6: the points at which the items of the zone stand, each once. -/
theorem pointsReached (pool : PoolLaws u) (z : ZoneId) : PointsReached u z (u.reachedPoints z) := by
  have low (i : Item) : -1 ≤ (u.position i : Int) - 1 := by omega
  have reached {i : Item} (hi : i ∈ u.zones[z].track) {c : Crossing}
      (hc : c ∈ u.activeLayout.pointsIn i.tag z ((u.position i : Int) - 1) (u.position i)) :
      (i.tag, c.passed) ∈ u.reachedPoints z :=
    List.mem_map.2 ⟨c, List.mem_flatMap.2 ⟨i, hi, hc⟩, by rw [(pointsIn_tag hc).1]⟩
  refine ⟨List.Nodup.map_on (fun b hb c hc he => ?_) (pointsOwed_nodup pool z), fun r hr => ?_,
    fun i hi => ⟨fun e at_ => ?_, fun d at_ => ?_⟩⟩
  · obtain ⟨i, hi, hb⟩ := List.mem_flatMap.1 hb
    obtain ⟨j, hj, hc⟩ := List.mem_flatMap.1 hc
    obtain ⟨tag, passed⟩ := Prod.mk.inj he
    rw [(pointsIn_tag hb).1, (pointsIn_tag hc).1] at tag
    obtain rfl := pool.eq_of_tag (mem_lineItems.2 ⟨z, hi⟩) (mem_lineItems.2 ⟨z, hj⟩) tag
    exact passed_injective hb hc passed
  · obtain ⟨c, hc, rfl⟩ := List.mem_map.1 hr
    obtain ⟨i, hi, hc⟩ := List.mem_flatMap.1 hc
    refine ⟨i, hi, (pointsIn_tag hc).1.symm, ?_⟩
    have position := (pointsIn_at hc).2.1
    dsimp only
    rw [pointIn_passed hc (low i), position, pool.place_eq hi]
  · dsimp only at at_
    rw [pool.place_eq hi] at at_
    obtain ⟨v, hv, point⟩ := Option.map_eq_some_iff.1 at_
    obtain ⟨defined, inside⟩ := Option.filter_eq_some_iff.1 hv
    obtain ⟨zone, inside⟩ := of_decide_eq_true inside
    refine reached hi (windowEnd_mem_pointsIn_at (e := e) ⟨v, defined, zone, by omega⟩ (by omega) i.tag)
  · dsimp only at at_
    rw [pool.place_eq hi] at at_
    obtain ⟨v, hv, point⟩ := Option.map_eq_some_iff.1 at_
    obtain ⟨defined, zone⟩ := Option.filter_eq_some_iff.1 hv
    refine reached hi (trigger_mem_pointsIn_at (d := d) ⟨v, defined, of_decide_eq_true zone, by omega⟩ i.tag)

theorem overlengthOwed_met (u : State) (z : ZoneId) :
    ((u.overlengthOwed z).map fun c => c.met u.activeLayout z) =
      if z = 0 ∧ u.span = .measuring ∧ u.spanCount = u.activeLayout.line.maxLength + 1 then [.overlength]
      else [] := by
  unfold State.overlengthOwed State.spanOverlength
  by_cases h : z = 0 ∧ u.span = .measuring ∧ u.spanCount = u.activeLayout.line.maxLength + 1
  · rw [if_pos h, if_pos (by simpa using h)]
    rfl
  · rw [if_neg h, if_neg (by simpa using h)]
    rfl

/-! ### The points that a transfer leads to -/

/-- R8, R31: the points of the next zone that a transfer leads to. -/
theorem pointsEntered (h : order.Nodup) {tag : Nat} (mem : ∀ c, c ∈ order ↔ c ∈ u.entered z tag)
    (sorted : order.Pairwise Precedes) : ∃ y, PointsEntered u z y (order.map Crossing.passed) ∧
      (z.val < 3 → y.val = z.val + 1) ∧
      ∀ home, (order.map fun c => c.met u.activeLayout home) =
        (order.map Crossing.passed).map fun pt => .point y tag pt := by
  have empty (none_ : u.nextPlace z = none) : order = [] := by
    refine List.eq_nil_iff_forall_not_mem.2 fun c hc => ?_
    have hc := (mem c).1 hc
    unfold State.entered at hc
    rw [none_] at hc
    cases hc
  cases place : u.nextPlace z with
  | none =>
    obtain rfl := empty place
    obtain ⟨y, next⟩ : ∃ y : ZoneId, z.val < 3 → y.val = z.val + 1 := by
      by_cases hz : z.val + 1 < 4
      · exact ⟨⟨z.val + 1, hz⟩, fun _ => rfl⟩
      · exact ⟨0, fun h => absurd (Nat.succ_lt_succ h) hz⟩
    refine ⟨y, ?_, next, fun _ => rfl⟩
    unfold PointsEntered
    dsimp only
    rw [if_neg]
    · rfl
    · rintro ⟨after, used, room⟩
      unfold State.nextPlace at place
      rw [zoneAfter_eq_some.2 ⟨after, used⟩, Option.bind_some, Option.map_eq_none_iff] at place
      exact room (clampAtTail_eq_none.1 place)
  | some found =>
    obtain ⟨y, p, clamped⟩ := found
    obtain ⟨after, at_⟩ := nextPlace_eq_some.1 place
    obtain ⟨next, used⟩ := zoneAfter_eq_some.1 after
    have mem (c : Crossing) : c ∈ order ↔ c ∈ u.activeLayout.pointsIn tag y (-1) p := by
      rw [mem, entered_of_some place]
    refine ⟨y, ?_, fun _ => next, fun home => ?_⟩
    · have between := pointsBetween_of_order (le_refl _) h mem sorted
      have room : u.zones[y].track.getLast?.map (u.place y) ≠ some 0 := fun full => by
        rw [full, clampAtTail_eq_none.2 rfl] at at_
        cases at_
      unfold PointsEntered
      dsimp only
      rw [if_pos ⟨next, used, room⟩]
      have offset : u.activeLayout.entryOffset y =
          (u.activeLayout.zones[y].map ZoneDef.entryOffset).getD 0 := by
        unfold Layout.entryOffset
        cases u.activeLayout.zones[y] <;> rfl
      rw [← offset]
      have top : (if (u.zones[y].track.getLast?.map (u.place y)).any
            (fun q => decide (q ≤ u.activeLayout.entryOffset y)) then
          (((u.zones[y].track.getLast?.map (u.place y)).getD 0 : Nat) : Int) - 1
          else (u.activeLayout.entryOffset y : Int)) = p := by
        unfold clampAtTail at at_
        cases tail : u.zones[y].track.getLast?.map (u.place y) with
        | none =>
          rw [tail] at at_
          exact congrArg (fun x : Nat × Bool => (x.1 : Int)) (Option.some.inj at_)
        | some q =>
          rw [tail] at at_
          dsimp only at at_
          rw [Option.any_some, Option.getD_some]
          split at at_
          · next hq =>
            rw [if_neg (by simpa using hq)]
            exact congrArg (fun x : Nat × Bool => (x.1 : Int)) (Option.some.inj at_)
          · next hq =>
            rw [if_pos (by simpa using hq)]
            split at at_
            · have same := congrArg Prod.fst (Option.some.inj at_)
              dsimp only at same
              omega
            · cases at_
      rw [top]
      exact between
    · rw [List.map_map]
      exact List.map_congr_left fun c hc => met_passed ((mem c).1 hc)

/-! ### A pulse -/

/-- R49, R54: a span at its bound is inducted below every item of zone 0. -/
theorem pulsed_longReady (hl : LayoutLaws s) (hm : s.module ≠ .unconfigured)
    (falls : ((s.pulsed 0).spots 0).Pairwise fun x y => y.2 < x.2)
    (room : ∀ e : EyeId, ∀ d ∈ s.activeLayout.eyes[e], d.role = .induct →
      ∀ q ∈ (s.pulsed 0).zones[(0 : ZoneId)].track.getLast?.map ((s.pulsed 0).place 0),
        d.position + s.activeLayout.line.maxLength + 1 < q) : LongReady (s.pulsed 0) := by
  obtain ⟨e, ⟨d, hd, role⟩, -, -⟩ := (validate_none_iff s.activeLayout).1 (hl.2.2.2 hm) 3 (by decide) (by decide)
  have eye := inductionEye_of_induct hl hd role
  have inside := induction_room hl hd role
  have narrow := zoneLength_le hl.2.1 0
  have small : d.position + (s.activeLayout.line.maxLength + 1) < 2 ^ 24 := by omega
  refine ⟨hm, e, d, eye, hd, role, small, fun x hx => ?_⟩
  obtain ⟨i, hi, -, place⟩ := mem_spots.1 hx
  rw [← place]
  exact above_of_last falls (room e d hd role) i hi

/-- R8: the head of the zone at its end owes its leaving, and nothing else. -/
theorem leaving_alone (hl : LayoutLaws u) (pool : PoolLaws u) {home : ZoneId}
    (head : u.zones[z].track.head? = some i) (full : u.position i = u.activeLayout.zoneLength z)
    (hb : b ∈ u.pulseOwed z) (ht : b.tag = i.tag ∨ b.point = .zoneEnd) :
    b = ⟨i.tag, u.position i, .zoneEnd⟩ := by
  have hi := List.mem_of_head? head
  rcases owed_cases hb with ⟨j, other, -, rfl⟩ | ⟨j, hj, hb⟩ | ⟨rfl, -⟩
  · obtain rfl := Option.some.inj (head.symm.trans other)
    rfl
  · obtain ⟨tag, points⟩ := pointsIn_at hb
    have same := ht.resolve_right (pointsIn_tag hb).2.1
    obtain rfl := pool.eq_of_tag (mem_lineItems.2 ⟨z, hj⟩) (mem_lineItems.2 ⟨z, hi⟩) (tag.symm.trans same)
    rcases points with ⟨-, ⟨d, -, v, hv, rfl, at_⟩ | ⟨e, -, -, inside⟩⟩
    · obtain ⟨inside, -⟩ := diverter_inside hl hv
      omega
    · omega
  · rcases ht with ht | ht
    · have positive := pool.positive _ (List.mem_map_of_mem (mem_lineItems.2 ⟨z, hi⟩))
      rw [← ht] at positive
      exact absurd positive (by decide)
    · cases ht

/-- R6: what a pulse owes is owed by the items that stand there. -/
theorem pulse_underway (hl : LayoutLaws u) (lawful : Lawful u)
    (ready : overlengthCrossing ∈ u.pulseOwed z → LongReady u) :
    Underway u.activeLayout z (fun _ => true)
      ((u.zones[z].track.head?).elim [] fun i => u.entered z i.tag) u (u.pulseOwed z) := by
  have pool := lawful.booked.pool
  refine ⟨lawful, rfl, pulseOwed_nodup pool z, fun c hc hp => ?_, fun c hc d hp => ?_, fun c hc hp => ?_,
    fun c hc hp => ?_, fun _ _ => nofun⟩
  · rcases owed_cases hc with ⟨i, head, -, rfl⟩ | ⟨i, hi, hc⟩ | ⟨rfl, -⟩
    · exact ⟨_, mem_spots.2 ⟨i, List.mem_of_head? head, rfl, rfl⟩⟩
    · rw [zoneIn_of_pointsIn hc, (pointsIn_tag hc).1]
      exact ⟨_, mem_spots.2 ⟨i, hi, rfl, rfl⟩⟩
    · exact absurd rfl hp
  · rcases owed_cases hc with ⟨i, -, -, rfl⟩ | ⟨i, hi, hc⟩ | ⟨rfl, -⟩
    · cases hp
    · exact pointsIn_known hc hp
    · cases hp
  · rcases owed_cases hc with ⟨i, head, full, rfl⟩ | ⟨i, hi, hc⟩ | ⟨rfl, -⟩
    · refine ⟨?_, by rw [head]; rfl, rfl, fun b hb ht => leaving_alone hl pool (home := z) head full hb ht,
        fun b hb hv => ?_, hl.2.1⟩
      · obtain ⟨rest, track⟩ := List.head?_eq_some_iff.1 head
        refine ⟨u.place z i, rest.map fun j => (j.tag, u.place z j), ?_⟩
        unfold State.spots
        rw [track]
        rfl
      · rcases owed_cases hb with ⟨j, -, -, rfl⟩ | ⟨j, -, hb⟩ | ⟨rfl, -⟩
        exacts [rfl, zoneIn_of_pointsIn hb, absurd rfl hv]
    · exact absurd hp (pointsIn_tag hc).2.1
    · cases hp
  · rcases owed_cases hc with ⟨i, -, -, rfl⟩ | ⟨i, hi, hc'⟩ | ⟨rfl, -⟩
    · cases hp
    · exact absurd hp (pointsIn_tag hc').2.2
    · exact ⟨rfl, ready hc, rfl⟩

/-- R7: an item that leaves its zone does so before it comes to its other points. -/
theorem first_sublist (hc : c ∈ order) (hp : c.point = .zoneEnd) (sorted : order.Pairwise Precedes)
    (nodup : order.Nodup) :
    (c :: order.filter fun b => decide (b.tag = c.tag ∧ b ≠ c)).Sublist order := by
  obtain ⟨front, back, rfl⟩ := List.append_of_mem hc
  obtain ⟨-, -, before⟩ := List.pairwise_append.1 sorted
  have none_ : front.filter (fun b => decide (b.tag = c.tag ∧ b ≠ c)) = [] :=
    List.filter_eq_nil_iff.2 fun b hb h =>
      (before b hb c List.mem_cons_self (of_decide_eq_true h).1).1 hp
  rw [List.filter_append, none_, List.nil_append, List.filter_cons_of_neg (by simp)]
  exact (List.Sublist.cons_cons c List.filter_sublist).trans (List.sublist_append_right _ _)

theorem zoneEndOwed_of (head : u.zones[z].track.head? = some i)
    (full : u.position i = u.activeLayout.zoneLength z) :
    u.zoneEndOwed z = [⟨i.tag, u.position i, .zoneEnd⟩] := by
  unfold State.zoneEndOwed
  rw [head]
  exact if_pos full

theorem zoneEndOwed_nil
    (none_ : ∀ i, u.zones[z].track.head? = some i → u.position i ≠ u.activeLayout.zoneLength z) :
    u.zoneEndOwed z = [] := by
  unfold State.zoneEndOwed
  split
  · next i head => exact if_neg (none_ i head)
  · rfl

/-- R6, R7, R49: the crossings that a pulse owes, in an order in which each item comes to its points lowest
first, are what a pulse brings about. -/
theorem pulse_meets (hl : LayoutLaws u) (pool : PoolLaws u) (nodup : order.Nodup)
    (mem : ∀ c, c ∈ order ↔ Due (fun _ => true)
      ((u.zones[z].track.head?).elim [] fun i => u.entered z i.tag) (u.pulseOwed z) c)
    (sorted : order.Pairwise Precedes) :
    PulseMeets u z (order.map fun c => c.met u.activeLayout z) := by
  have others : (u.pointsOwed z ++ u.overlengthOwed z).Nodup := by
    refine (pulseOwed_nodup pool z).sublist ?_
    unfold State.pulseOwed
    rw [List.append_assoc]
    exact List.sublist_append_right _ _
  have split_ : u.pulseOwed z = u.zoneEndOwed z ++ (u.pointsOwed z ++ u.overlengthOwed z) :=
    List.append_assoc _ _ _
  have perm {leaving : List Crossing} (h : order.Perm (leaving ++ (u.pointsOwed z ++ u.overlengthOwed z))) :
      (order.map fun c => c.met u.activeLayout z).Perm ((leaving.map fun c => c.met u.activeLayout z) ++
        ((u.reachedPoints z).map fun r => .point z r.1 r.2) ++
        if z = 0 ∧ u.span = .measuring ∧ u.spanCount = u.activeLayout.line.maxLength + 1 then [.overlength]
        else []) := by
    rw [reachedPoints_met, ← overlengthOwed_met, List.append_assoc, ← List.map_append, ← List.map_append]
    exact h.map _
  by_cases ends : ∃ i, u.zones[z].track.head? = some i ∧ u.position i = u.activeLayout.zoneLength z
  · obtain ⟨i, head, full⟩ := ends
    have place := pool.place_eq (List.mem_of_head? head)
    have owed := zoneEndOwed_of head full
    have alone {b : Crossing} (hb : b ∈ u.pulseOwed z) := leaving_alone hl pool (home := z) head full hb
    generalize hc : (⟨i.tag, u.position i, .zoneEnd⟩ : Crossing) = c at owed alone
    have tag : c.tag = i.tag := hc ▸ rfl
    have point : c.point = .zoneEnd := hc ▸ rfl
    have mine : c ∈ u.pulseOwed z := by rw [split_, owed]; exact List.mem_cons_self
    rw [head] at mem
    have mem (b : Crossing) : b ∈ order ↔ b ∈ u.pulseOwed z ∨ b ∈ u.entered z i.tag := by
      rw [mem]
      constructor
      · exact fun h => h.imp And.left And.left
      · exact fun h => h.imp (fun h => ⟨h, rfl⟩) fun h => ⟨h, c, mine, point⟩
    have entered_ {b : Crossing} (hb : b ∈ u.entered z i.tag) : b.tag = i.tag ∧ b.point ≠ .zoneEnd := by
      unfold State.entered at hb
      split at hb
      exacts [⟨(pointsIn_tag hb).1, (pointsIn_tag hb).2.1⟩, nomatch hb]
    have after (b : Crossing) : b ∈ order.filter (fun b => decide (b.tag = c.tag ∧ b ≠ c)) ↔
        b ∈ u.entered z i.tag := by
      rw [List.mem_filter, mem, decide_eq_true_eq, tag]
      constructor
      · rintro ⟨hb | hb, ht, hne⟩
        exacts [absurd (alone hb (.inl ht)) hne, hb]
      · exact fun hb => ⟨.inr hb, (entered_ hb).1, fun he => (entered_ hb).2 (he ▸ point)⟩
    obtain ⟨y, entered, next, passed⟩ := pointsEntered (nodup.filter _) after
      (sorted.sublist List.filter_sublist)
    have leaves := first_sublist ((mem c).2 (.inl mine)) point sorted nodup
    refine ⟨u.reachedPoints z, (c :: order.filter fun b => decide (b.tag = c.tag ∧ b ≠ c)).map
      fun c => c.met u.activeLayout z, pointsReached pool z, fun j hj _ => ⟨y, _, entered, next, ?_⟩,
      fun h => absurd (place.trans full) (h i head), leaves.map _, perm ?_⟩
    · obtain rfl := Option.some.inj (head.symm.trans hj)
      rw [List.map_cons, passed, met_zoneEnd point, tag]
    · have first {b : Crossing} (hb : b ∈ c :: order.filter fun b => decide (b.tag = c.tag ∧ b ≠ c)) :
          b.tag = i.tag := by
        rcases List.mem_cons.1 hb with rfl | hb
        exacts [tag, (entered_ ((after b).1 hb)).1]
      have apart {b : Crossing} (hb : b ∈ u.pointsOwed z ++ u.overlengthOwed z) : b.tag ≠ i.tag := by
        intro ht
        obtain rfl := alone (split_ ▸ List.mem_append_right _ hb) (.inl ht)
        have whole := pulseOwed_nodup pool z
        rw [split_, owed] at whole
        exact (List.nodup_cons.1 whole).1 hb
      refine (List.perm_ext_iff_of_nodup nodup (List.nodup_append.2 ⟨nodup.sublist leaves, others,
        fun b hb d hd he => apart (he ▸ hd) (first hb)⟩)).2 fun b => ?_
      simp only [mem, split_, owed, List.mem_append, List.mem_cons, after, List.not_mem_nil, or_false]
      exact or_right_comm
  · have owed := zoneEndOwed_nil fun i head full => ends ⟨i, head, full⟩
    refine ⟨u.reachedPoints z, [], pointsReached pool z, fun i head full => ?_, fun _ => rfl,
      List.nil_sublist _, perm (leaving := []) ?_⟩
    · rw [pool.place_eq (List.mem_of_head? head)] at full
      exact absurd ⟨i, head, full⟩ ends
    · rw [List.nil_append]
      refine (List.perm_ext_iff_of_nodup nodup others).2 fun b => ?_
      rw [mem, split_, owed, List.nil_append]
      constructor
      · rintro (⟨hb, -⟩ | ⟨-, c, hc, hp⟩)
        · exact hb
        · rw [← List.nil_append (u.pointsOwed z ++ u.overlengthOwed z), ← owed, ← split_] at hc
          rcases owed_cases hc with ⟨i, head, full, -⟩ | ⟨i, -, hi⟩ | ⟨rfl, -⟩
          exacts [absurd ⟨i, head, full⟩ ends, absurd hp (pointsIn_tag hi).2.1, nomatch hp]
      · exact fun hb => .inl ⟨hb, rfl⟩

/-- R6, R7: a pulse takes what it owes whole, one after another, in some order. -/
theorem pulse_in_turn (hl : LayoutLaws s) (hw : Lawful s) (track : Tracked s []) (ha : s.resetActive = false)
    (hm : s.module ≠ .unconfigured) (hz : s.activeLayout.zones[z].isSome = true)
    (room : z = 0 → s.span = .measuring → s.spanCount = s.activeLayout.line.maxLength →
      ∀ e : EyeId, ∀ d ∈ s.activeLayout.eyes[e], d.role = .induct →
      ∀ q ∈ (s.pulsed z).zones[(0 : ZoneId)].track.getLast?.map ((s.pulsed z).place 0),
        d.position + s.activeLayout.line.maxLength + 1 < q) :
    Leads (.encoderPulse z) s fun t => ∃ (order : List Met) (w : State) (rs : List Report),
      PulseMeets (s.pulsed z) z order ∧ MetInTurn order (s.pulsed z) w rs ∧
      BringsAway s { w with freeIndex := t.freeIndex } t rs := by
  have onTrack := pulsed_onTrack hl hw track z
  have ready (long : overlengthCrossing ∈ (s.pulsed z).pulseOwed z) : LongReady (s.pulsed z) := by
    rcases owed_cases long with ⟨i, -, -, he⟩ | ⟨i, -, hi⟩ | ⟨-, rfl, measuring, bound⟩
    · exact nomatch congrArg Crossing.point he
    · exact absurd rfl (pointsIn_tag hi).2.2
    · have count : (s.pulsed 0).spanCount = s.spanCount + 1 := if_pos ⟨rfl, measuring⟩
      rw [count] at bound
      exact pulsed_longReady hl hm (onTrack.tracked.falls 0)
        (room rfl measuring (Nat.succ.inj bound))
  have under := pulse_underway onTrack.layout onTrack.lawful ready
  obtain ⟨order, w, rs, k, made, met, nodup, mem, sorted⟩ := takeCrossings_trace
    (n := ((s.pulsed z).pulseOwed z).length + 28) under
    (Nat.add_le_add_left (Nat.mul_le_mul_left 28 (zoneEndOwed_count (s.pulsed z) z)) _) (s.pulsed z).freeIndex
  obtain ⟨t, step, brings⟩ := pulse_leads ha ((pulse_takes hm hz).trans made)
  exact ⟨t, step, _, w, rs, pulse_meets onTrack.layout onTrack.lawful.booked.pool nodup mem sorted, met,
    brings⟩

/-! ### One item at one trigger point -/

section
variable {d : DiverterId} {v : DiverterDef}

/-- R113: an item is claimed afresh by no diverter whose trigger point it stands at. -/
theorem assignment_not_at (pool : PoolLaws u) (hi : i ∈ u.zones[z].track) {f : DiverterId}
    (at_ : TriggersAt u.activeLayout z (u.place z i) f) (excluded : Option DiverterId) :
    u.assignment i excluded ≠ some f := by
  intro assigned
  have takes := (assignment_claimable assigned).2
  have zone := pool.zone z i hi
  obtain ⟨v, hv, rfl, at_⟩ := at_
  unfold State.claimable DiverterDef.triggerPoint at takes
  rw [Option.mem_def.1 hv, ← pool.place_eq hi, zone] at takes
  simp only [Bool.and_eq_true, Bool.or_eq_true, decide_eq_true_eq, lt_irrefl, false_or, true_and] at takes
  omega

/-- R110 to R114: the item of a trigger point stays in line, no more bound than before to another diverter. -/
theorem triggerMet_own (pool : PoolLaws u) (ht : u.zones[z].track = ahead_ ++ i :: behind_)
    (acts : (u.meetsDecision d i || u.isShadowed d i) = true)
    (met : TriggerMet u z ahead_ behind_ i d v w rs) :
    w.freeIndex = u.freeIndex ∧ ∃ front back j, w.zones[z].track = front ++ j :: back ∧ j.tag = i.tag ∧
      j.nextEye = i.nextEye ∧ (j.state = .diverting ∨ j.state = i.state ∧ ∀ f : DiverterId, f ≠ d →
        TriggersAt u.activeLayout z (u.place z i) f →
        (i.tag ∈ w.claims[f] → i.tag ∈ u.claims[f]) ∧ w.diverters[f] = u.diverters[f]) := by
  have mem : i ∈ u.zones[z].track := by rw [ht]; simp
  obtain ⟨fire, miss, shadow, -⟩ := met
  by_cases head : i.state = .tracked ∧ u.claims[d].head? = some i.tag
  · by_cases fires : u.module = .tracking ∧ u.inputs.estop = false ∧ u.diverters[d].state = .idle ∧
        ¬ ∃ j ∈ behind_.head?, (u.place z i : Int) - i.length - u.place z j < (v.minimumGap : Int)
    · obtain ⟨-, hw⟩ := fire head fires
      have track : w.zones[z].track = _ :=
        (congrArg (fun w : State => w.zones[z].track) hw :).trans (track_withTrack u z _)
      exact ⟨(congrArg State.freeIndex hw :), _, _, _, track, rfl, rfl, .inl rfl⟩
    · obtain ⟨-, hw, lists⟩ := miss head fires
      have track : w.zones[z].track = _ :=
        (congrArg (fun w : State => w.zones[z].track) hw :).trans (track_withTrack u z _)
      refine ⟨(congrArg State.freeIndex hw :), _, _, _, track, ?_, ?_, .inr ⟨?_, fun f _ at_ => ⟨fun hx => ?_,
        (congrArg (fun w : State => w.diverters[f]) hw :)⟩⟩⟩
      · dsimp only
        split_ifs <;> rfl
      · dsimp only
        split_ifs <;> rfl
      · dsimp only
        split_ifs <;> rfl
      · obtain ⟨off, -, -⟩ := lists f
        rw [off (assignment_not_at pool mem at_ (some d))] at hx
        simp at hx
  · have unmet : u.meetsDecision d i = false := Bool.eq_false_iff.2 fun h => head (meetsDecision_iff.1 h)
    rw [unmet, Bool.false_or] at acts
    obtain ⟨tracked, absent, driven⟩ := isShadowed_iff.1 acts
    obtain ⟨-, rfl⟩ := shadow tracked absent driven
    exact ⟨rfl, _, _, _, track_withTrack u z _, rfl, rfl, .inr ⟨rfl, fun f _ _ => ⟨id, rfl⟩⟩⟩

/-- Table 6-2: what was calm of the item of a trigger point is calm after it. -/
theorem triggerMet_calm (pool : PoolLaws u) (lawful : PoolLaws w)
    (ht : u.zones[z].track = ahead_ ++ i :: behind_)
    (acts : (u.meetsDecision d i || u.isShadowed d i) = true)
    (met : TriggerMet u z ahead_ behind_ i d v w rs) (calm : Calm u c) (other : c.point ≠ .trigger d)
    (hc : c ∈ u.activeLayout.pointsIn i.tag z ((u.position i : Int) - 1) (u.position i)) : Calm w c := by
  obtain ⟨-, front, back, j, track, tag, eye, kept⟩ := triggerMet_own pool ht acts met
  have mem : i ∈ u.zones[z].track := by rw [ht]; simp
  obtain ⟨same, -, points⟩ := pointsIn_at hc
  have found : w.findItem c.tag = some j := by
    rw [same, ← tag]
    exact lawful.findItem_at track
  have before : u.findItem c.tag = some i := by
    rw [same]
    exact pool.findItem_at ht
  refine ⟨calm.inside, fun k f hk hp => ?_, fun k f hk hp => ?_⟩ <;>
    obtain rfl := Option.some.inj (found.symm.trans hk)
  · refine kept.imp_right fun ⟨state, kept⟩ => ?_
    have at_ : TriggersAt u.activeLayout z (u.place z i) f := by
      rcases points with ⟨g, hg, at_⟩ | ⟨g, hg, -⟩ <;> rw [hp] at hg
      · obtain rfl := Point.trigger.inj hg
        rwa [pool.place_eq mem]
      · cases hg
    obtain ⟨claims, units⟩ := kept f (fun he => other (he ▸ hp)) at_
    rw [tag, units]
    have tracked : i.state = .tracked := by
      rcases (Bool.or_eq_true _ _).mp acts with h | h
      exacts [(meetsDecision_iff.1 h).1, (isShadowed_iff.1 h).1]
    obtain ⟨absent, still⟩ := (calm.trigger i f before hp).resolve_left (by rw [tracked]; nofun)
    exact ⟨fun hx => absent (claims hx), still⟩
  · rw [eye]
    exact calm.window i f before hp

/-- R29: no two items of a zone stand at one position, before a pulse or after it. -/
theorem pulsed_apart (falls : (s.spots z).Pairwise fun x y => y.2 < x.2) (hi : i ∈ s.zones[z].track)
    (hj : j ∈ s.zones[z].track) (h : (s.pulsed z).place z i = (s.pulsed z).place z j) : i.tag = j.tag := by
  have bases : i.base = j.base := sub_right_injective (BitVec.eq_of_toNat_eq h)
  have place : s.place z i = s.place z j := by
    unfold State.place
    rw [bases]
  have spot {i : Item} (hi : i ∈ s.zones[z].track) : (i.tag, s.place z i) ∈ s.spots z :=
    mem_spots.2 ⟨i, hi, rfl, rfl⟩
  exact congrArg Prod.fst (falls_apart falls (spot hi) (spot hj) place)

/-- R98, R110 to R114: a pulse that brings one item to one trigger point, and brings about nothing else. -/
theorem pulse_trigger (lawful : Lawful s) (falls : (s.spots z).Pairwise fun x y => y.2 < x.2) (ha : s.resetActive = false) (hm : s.module ≠ .unconfigured)
    (hz : s.activeLayout.zones[z].isSome = true) (ht : s.zones[z].track = ahead_ ++ i :: behind_)
    (hv : s.activeLayout.diverters[d] = some v) (zone : v.zone = z)
    (at_ : (s.pulsed z).place z i + v.lead = v.firePosition) (quiet : QuietFor s z (ahead_ ++ behind_))
    (short : (s.pulsed z).place z i ≠ s.activeLayout.zoneLength z)
    (eyes : ∀ e ∈ i.nextEye, ¬ EyeEndsAt s.activeLayout z ((s.pulsed z).place z i) e)
    (others : ∀ w : DiverterId, w ≠ d → TriggersAt s.activeLayout z ((s.pulsed z).place z i) w →
      s.passesBy i w) :
    Leads (.encoderPulse z) s fun t => ∃ (w : State) (rs : List Report),
      TriggerMet (s.pulsed z) z ahead_ behind_ i d v w rs ∧ BringsAway s w t rs := by
  have raised : Lawful (s.pulsed z) := by
    have counted : Lawful (s.raiseCount z) := lawful.same (raiseCount_same s z)
    exact counted.same (.of_zones rfl rfl)
  have pool := lawful.booked.pool
  have pulsed := raised.booked.pool
  have track : (s.pulsed z).zones[z].track = ahead_ ++ i :: behind_ := (pulsed_track s z z).trans ht
  have mem : i ∈ (s.pulsed z).zones[z].track := by rw [track]; simp
  have place := pulsed.place_eq mem
  have found : (s.pulsed z).findItem i.tag = some i := pulsed.findItem_at track
  have own {c : Crossing} (hc : c ∈ (s.pulsed z).pulseOwed z) (tag : c.tag = i.tag) :
      c ∈ (s.pulsed z).activeLayout.pointsIn i.tag z (((s.pulsed z).position i : Int) - 1)
        ((s.pulsed z).position i) := by
    rcases others_calm pool ht quiet hc with ⟨hn, -⟩ | hc | ⟨-, full, -⟩
    exacts [absurd tag hn, hc, absurd full short]
  -- but for the one trigger point, what is owed is calm
  have calm {c : Crossing} (hc : c ∈ (s.pulsed z).pulseOwed z)
      (hne : ¬ (c.tag = i.tag ∧ c.point = .trigger d)) : Calm (s.pulsed z) c := by
    by_cases tag : c.tag = i.tag
    · refine calm_at pulsed mem (fun e he ends _ => absurd ends (eyes e he)) (fun f there hp => ?_) (own hc tag)
      exact others f (fun he => hne ⟨tag, he ▸ hp⟩) there
    · rcases others_calm pool ht quiet hc with ⟨-, calm⟩ | hc | ⟨-, full, -⟩
      exacts [calm, absurd (pointsIn_tag hc).1 tag, absurd full short]
  cases acts : (s.pulsed z).meetsDecision d i || (s.pulsed z).isShadowed d i with
  | false =>
    have idle : ∀ c ∈ (s.pulsed z).pulseOwed z, (s.pulsed z).actsAt c = false := fun c hc => by
      by_cases he : c.tag = i.tag ∧ c.point = .trigger d
      · unfold State.actsAt
        rw [he.1, he.2]
        dsimp only
        rw [found, Option.any_some]
        exact acts
      · exact (calm hc he).idle
    obtain ⟨t, step, brings⟩ := pulse_happens (w := s.pulsed z) (rs := []) ha
      ((pulse_takes hm hz).trans (takeCrossings_idle _ idle))
    exact ⟨t, step, _, [], triggerMet_idle acts, brings⟩
  | true =>
    obtain ⟨w, rs, met, makes⟩ := reachTrigger_makes pulsed track hv acts
    have free := (triggerMet_own pulsed track acts met).1
    have crossed : (s.pulsed z).cross ⟨i.tag, (s.pulsed z).position i, .trigger d⟩ = (w.postAll rs, []) :=
      congrArg (fun t : State => (t, ([] : List Crossing))) (makes.apply free)
    have after : Lawful (w.postAll rs) := by
      have crossed_ := cross_lawful raised ⟨i.tag, (s.pulsed z).position i, .trigger d⟩
      rwa [crossed] at crossed_
    have wPool : PoolLaws w := by
      refine (after.same ?_ : Lawful w).booked.pool
      rw [postAll_frame]
      exact .of_zones rfl rfl
    have owed : (⟨i.tag, (s.pulsed z).position i, .trigger d⟩ : Crossing) ∈ (s.pulsed z).pulseOwed z := by
      refine List.mem_append_left _ (List.mem_append_right _ (List.mem_flatMap.2 ⟨i, mem, ?_⟩))
      exact trigger_mem_pointsIn_at ⟨v, hv, zone, place ▸ at_⟩ i.tag
    have same {c : Crossing} (hc : c ∈ (s.pulsed z).pulseOwed z) (tag : c.tag = i.tag)
        (hp : c.point = .trigger d) : c = ⟨i.tag, (s.pulsed z).position i, .trigger d⟩ := by
      have position := (pointsIn_at (own hc tag)).2.1
      obtain ⟨ctag, cpos, cpoint⟩ := c
      dsimp only at tag position hp
      rw [tag, position, hp]
    have taken : s.pulse z = w.postAll rs := by
      rw [pulse_takes hm hz]
      refine (takeAll_one pulsed (pulseOwed_nodup pulsed z) owed
        (pulseOwed_isLowest pulsed mem (span_short quiet.2) rfl place.symm) ?_ nofun
        (fun c hc hne => calm hc fun he => hne (same hc he.1 he.2)) (fun c hc e hp he => ?_)
        fun c hc tag => ?_).trans (congrArg Prod.fst crossed)
      · unfold State.actsAt
        simp only [found, Option.any_some, acts]
      · obtain ⟨j, hj, tag, f, hf, -, there⟩ := trigger_of_pulseOwed hc hp
        obtain rfl := Point.trigger.inj he
        obtain rfl := Option.some.inj (hv.symm.trans hf)
        rw [tag]
        rw [← pulsed.place_eq hj] at there
        rw [pulsed_track] at hj
        exact pulsed_apart falls hj (by rw [ht]; simp) (by omega)
      · rw [crossed, postAll_actsAt]
        obtain ⟨hm, hne, -⟩ := mem_owed_of_after (b := ⟨i.tag, (s.pulsed z).position i, .trigger d⟩) nofun hc
        refine (triggerMet_calm pulsed wPool track acts met (calm hm fun he => hne (same hm he.1 he.2))
          (fun hp => hne (same hm tag hp)) (own hm tag)).idle
    obtain ⟨t, step, brings⟩ := pulse_happens ha taken
    exact ⟨t, step, w, rs, met, brings⟩

end

end

/-- Settles O50: what the pulse owes is taken in turn; of one item at one trigger point, that is one
crossing. -/
theorem triggerPointIsDecidedOrShadowed : Obligations.TriggerPointIsDecidedOrShadowed := by
  intro s z hr ht ha hm hz u
  have lawful := (recordLaws_iff s).1 hr
  refine ⟨fun hl room => ?_, fun d v ahead_ behind_ i track hv zone at_ quiet short eyes others => ?_⟩
  · exact pulse_in_turn hl lawful ((trackLaws_iff lawful.booked.pool).1 ht) ha hm hz room
  · exact pulse_trigger lawful (((trackLaws_iff lawful.booked.pool).1 ht).falls z) ha hm hz track hv zone at_ quiet short eyes others

end Sys2Proof.Machine
end

section
/-! PROOFS. A pulse that brings the head of a zone to the zone's length and brings about nothing else (R7 to R10,
R31, R32, R74): the first part of `ZoneEndIsATransferOrAnExit`. -/

namespace Sys2Proof.Machine

set_option Elab.async false

section
variable {s u w t : State} {z y : ZoneId} {i j m : Item} {b c : Crossing} {rs : List Report} {k p : Nat}
  {behind_ : List Item} {eyes : List EyeId} {after : Option EyeId}

/-! ### What is owed beside the leaving -/

/-- R6: nothing comes of what a pulse owes beside the leaving of the head. -/
theorem owed_beside (pool : PoolLaws s) (ht : s.zones[z].track = i :: behind_)
    (quiet : QuietFor s z behind_)
    (triggers : ∀ v : DiverterId, ¬ TriggersAt s.activeLayout z ((s.pulsed z).place z i) v)
    (full : (s.pulsed z).place z i = s.activeLayout.zoneLength z)
    (hc : c ∈ (s.pulsed z).pulseOwed z) :
    c = ⟨i.tag, (s.pulsed z).position i, .zoneEnd⟩ ∨ c.tag ≠ i.tag ∧ Calm (s.pulsed z) c ∧
      ∃ j ∈ behind_, c ∈ s.activeLayout.pointsIn j.tag z (((s.pulsed z).position j : Int) - 1)
        ((s.pulsed z).position j) := by
  have pulsed := pulsed_pool pool z
  have track : (s.pulsed z).zones[z].track = i :: behind_ := (pulsed_track s z z).trans ht
  have mem : i ∈ (s.pulsed z).zones[z].track := by rw [track]; simp
  rw [pulsed.place_eq mem] at triggers full
  rcases others_calm pool (ahead := []) ht quiet hc with ⟨other, calm⟩ | own | ⟨-, -, rfl⟩
  · refine .inr ⟨other, calm, ?_⟩
    rcases owed_cases hc with ⟨j, head, -, rfl⟩ | ⟨j, hj, hc⟩ | ⟨rfl, -⟩
    · rw [track] at head
      obtain rfl := Option.some.inj head
      exact absurd rfl other
    · rw [track] at hj
      rcases List.mem_cons.1 hj with rfl | hj
      · exact absurd (pointsIn_tag hc).1 other
      · exact ⟨j, hj, hc⟩
    · exact absurd rfl calm.inside.2
  · obtain ⟨-, -, ⟨d, -, at_⟩ | ⟨e, -, -, inside⟩⟩ := pointsIn_at own
    · exact absurd at_ (triggers d)
    · omega
  · exact .inl rfl

/-- R6: the leaving of the head is taken first. -/
theorem pulse_leaves_first (pool : PoolLaws s) (hm : s.module ≠ .unconfigured)
    (ht : s.zones[z].track = i :: behind_) (hz : s.activeLayout.zones[z].isSome = true)
    (quiet : QuietFor s z behind_)
    (triggers : ∀ v : DiverterId, ¬ TriggersAt s.activeLayout z ((s.pulsed z).place z i) v)
    (full : (s.pulsed z).place z i = s.activeLayout.zoneLength z) (hb : b = ⟨i.tag, (s.pulsed z).position i, .zoneEnd⟩) :
    ∃ n, s.pulse z = ((s.pulsed z).cross b).1.takeCrossings n
        (owedAfter ((s.pulsed z).pulseOwed z) b ((s.pulsed z).cross b)) ∧
      owedWeight (owedAfter ((s.pulsed z).pulseOwed z) b ((s.pulsed z).cross b)) ≤ n := by
  have pulsed := pulsed_pool pool z
  have track : (s.pulsed z).zones[z].track = i :: behind_ := (pulsed_track s z z).trans ht
  have mem : i ∈ (s.pulsed z).zones[z].track := by rw [track]; simp
  have owed := zoneEnd_owed pulsed track full
  rw [← hb] at owed
  have lowest := pulseOwed_isLowest (b := b) pulsed mem (span_short quiet.2) (hb ▸ rfl)
    (hb ▸ (pulsed.place_eq mem).symm)
  have acts : (s.pulsed z).actsAt b = true := actsAt_of_end (.inl (hb ▸ rfl))
  have one : (((s.pulsed z).pulseOwed z).filter (isLowest ((s.pulsed z).pulseOwed z))).filter
      (s.pulsed z).actsAt = [b] := by
    have same : ∀ c ∈ (s.pulsed z).pulseOwed z,
        ((s.pulsed z).actsAt c && isLowest ((s.pulsed z).pulseOwed z) c) = (c == b) := fun c hc => by
      rcases owed_beside pool ht quiet triggers full hc with he | ⟨other, calm, -⟩
      · rw [he, ← hb, lowest, acts]
        simp
      · have ne : c ≠ b := fun he => other (by rw [he, hb])
        rw [calm.idle, Bool.false_and, beq_false_of_ne ne]
    rw [List.filter_filter, List.filter_congr same, List.filter_beq,
      List.count_eq_one_of_mem (pulseOwed_nodup pulsed z) owed]
    rfl
  have chosen : (s.pulsed z).chooseCrossing ((((s.pulsed z).pulseOwed z).filter
      (isLowest ((s.pulsed z).pulseOwed z))).filter (s.pulsed z).actsAt) = (some b, s.pulsed z) := by
    rw [one]
    rfl
  have weight : owedWeight ((s.pulsed z).pulseOwed z) ≤ ((s.pulsed z).pulseOwed z).length + 28 :=
    Nat.add_le_add_left (Nat.mul_le_mul_left 28 (zoneEndOwed_count (s.pulsed z) z)) _
  have less := owedWeight_after (s := s.pulsed z) owed
  refine ⟨((s.pulsed z).pulseOwed z).length + 27, ?_, by omega⟩
  rw [pulse_takes hm hz]
  exact takeCrossings_taken (List.ne_nil_of_mem owed) chosen

/-! ### A transfer -/

theorem joined_track (hy : y ≠ z) : (s.joined z y behind_ m p).zones[z].track = behind_ := by
  unfold State.joined
  rw [zones_withTrack_other _ (Ne.symm hy), track_withTrack]

/-- R7, R8, R31: the item joins the next zone, and comes to the points up to there. -/
theorem pulse_joins (lawful : Lawful s) (hm : s.module ≠ .unconfigured)
    (ht : s.zones[z].track = i :: behind_) (hz : s.activeLayout.zones[z].isSome = true)
    (quiet : QuietFor s z behind_)
    (triggers : ∀ v : DiverterId, ¬ TriggersAt s.activeLayout z ((s.pulsed z).place z i) v)
    (full : (s.pulsed z).place z i = s.activeLayout.zoneLength z) (next : y.val = z.val + 1) (tag : m.tag = i.tag)
    (joins : (s.pulsed z).leaveZone i.tag z =
      (((s.pulsed z).joined z y behind_ m p).noted [] (s.pulsed z).freeIndex,
        s.activeLayout.pointsIn i.tag y (-1) p)) :
    ∃ pts w rs k, PointsBetween s.activeLayout y (-1) p pts ∧
      MetInTurn (pts.map fun pt => .point y i.tag pt) ((s.pulsed z).joined z y behind_ m p) w rs ∧
      s.pulse z = w.noted rs k := by
  have pool := lawful.booked.pool
  have raised : Lawful (s.pulsed z) := by
    have counted : Lawful (s.raiseCount z) := lawful.same (raiseCount_same s z)
    exact counted.same (.of_zones rfl rfl)
  have pulsed := raised.booked.pool
  have other : y ≠ z := fun he => by rw [he] at next; omega
  have track : (s.pulsed z).zones[z].track = i :: behind_ := (pulsed_track s z z).trans ht
  have mem : i ∈ (s.pulsed z).zones[z].track := by rw [track]; simp
  have found : (s.pulsed z).findItem i.tag = some i := pulsed.findItem_at (front := []) track
  have zone : i.zone = z := pulsed.zone z i mem
  obtain ⟨-, apart, -⟩ := pulsed.apart (front := []) track
  generalize hb : (⟨i.tag, (s.pulsed z).position i, .zoneEnd⟩ : Crossing) = b
  have btag : b.tag = i.tag := hb ▸ rfl
  have crossed : (s.pulsed z).cross b = (((s.pulsed z).joined z y behind_ m p).noted [] (s.pulsed z).freeIndex,
      s.activeLayout.pointsIn i.tag y (-1) p) := by
    rw [← joins, ← hb]
    unfold State.cross
    simp only [found, zone]
  obtain ⟨n, first, bound⟩ := pulse_leaves_first pool hm ht hz quiet triggers full hb.symm
  have after : Lawful ((s.pulsed z).joined z y behind_ m p) := by
    have crossed_ := cross_lawful raised b
    rw [crossed] at crossed_
    exact crossed_.same (noted_same _ _ _)
  have calmer (c : Crossing) (hc : Calm (s.pulsed z) c) (hne : c.tag ≠ i.tag) :
      Calm ((s.pulsed z).joined z y behind_ m p) c := by
    have kept := hc.apart pulsed (cross_apart (s.pulsed z) (b := b) (by rw [← hb]; nofun)) (btag ▸ hne)
      fun d hd driven => by rwa [cross_driven (s.pulsed z) (d := d) (by rw [← hb]; nofun)] at driven
    rw [crossed] at kept
    refine ⟨kept.inside, fun j d hj hp => ?_, fun j e hj hp => ?_⟩
    · have passes := kept.trigger j d (by rw [noted_findItem]; exact hj) hp
      rw [noted_frame] at passes
      exact passes
    · exact kept.window j e (by rw [noted_findItem]; exact hj) hp
  have cases_ {c : Crossing} (hc : c ∈ owedAfter ((s.pulsed z).pulseOwed z) b ((s.pulsed z).cross b)) :
      (c.tag ≠ i.tag ∧ Calm ((s.pulsed z).joined z y behind_ m p) c ∧ ∃ j ∈ behind_,
        c ∈ s.activeLayout.pointsIn j.tag z (((s.pulsed z).position j : Int) - 1) ((s.pulsed z).position j)) ∨
      c ∈ s.activeLayout.pointsIn i.tag y (-1) p := by
    rcases mem_owedAfter.1 hc with ⟨hm, hne, -⟩ | ⟨hm, -⟩
    · rcases owed_beside pool ht quiet triggers full hm with he | ⟨hn, calm, points⟩
      · exact absurd (he.trans hb) hne
      · exact .inl ⟨hn, calmer c calm hn, points⟩
    · rw [crossed] at hm
      exact .inr hm
  have tail : (m.tag, ((s.pulsed z).joined z y behind_ m p).place y
      { m with zone := y, base := (s.pulsed z).zones[y].count - BitVec.ofNat 24 p }) ∈
      ((s.pulsed z).joined z y behind_ m p).spots y := by
    refine mem_spots.2 ⟨{ m with zone := y, base := (s.pulsed z).zones[y].count - BitVec.ofNat 24 p }, ?_,
      rfl, rfl⟩
    unfold State.joined
    rw [track_withTrack]
    simp
  have back {j : Item} (hj : j ∈ behind_) : (j.tag, ((s.pulsed z).joined z y behind_ m p).place z j) ∈
      ((s.pulsed z).joined z y behind_ m p).spots z :=
    mem_spots.2 ⟨j, by rw [joined_track other]; exact hj, rfl, rfl⟩
  have inLine : (((s.pulsed z).cross b).1.findItem b.tag).isSome = true := by
    rw [crossed, findItem_isSome, btag, ← tag, noted_lineTags]
    exact mem_lineTags_iff.2 ⟨y, _, tail⟩
  generalize hj : (s.pulsed z).joined z y behind_ m p = v at *
  have under : Underway s.activeLayout y (fun x => x == i.tag) [] v
      (owedAfter ((s.pulsed z).pulseOwed z) b ((s.pulsed z).cross b)) := by
    refine ⟨after, by rw [← hj]; rfl, owedAfter_nodup (pulseOwed_nodup pulsed z) ?_ fun c hc hm => ?_,
      fun c hc hp => ?_, fun c hc d hp => ?_, fun c hc hp => ?_, fun c hc hp => ?_, fun c hc hq => ?_⟩
    · rw [crossed]
      exact pointsIn_nodup ..
    · rw [crossed] at hc
      rcases owed_beside pool ht quiet triggers full hm with rfl | ⟨hn, -⟩
      exacts [(pointsIn_tag hc).2.1 rfl, hn (pointsIn_tag hc).1]
    · rcases cases_ hc with ⟨-, -, j, hj, hc⟩ | hc
      · rw [zoneIn_of_pointsIn hc, (pointsIn_tag hc).1]
        exact ⟨_, back hj⟩
      · rw [zoneIn_of_pointsIn hc, (pointsIn_tag hc).1, ← tag]
        exact ⟨_, tail⟩
    · rcases cases_ hc with ⟨-, -, j, -, hc⟩ | hc <;> exact pointsIn_known hc hp
    · rcases cases_ hc with ⟨-, -, j, -, hc⟩ | hc <;> exact absurd hp (pointsIn_tag hc).2.1
    · rcases cases_ hc with ⟨-, -, j, -, hc⟩ | hc <;> exact absurd hp (pointsIn_tag hc).2.2
    · rcases cases_ hc with ⟨-, calm, j, -, hc⟩ | hc
      · refine ⟨calm, fun b hb own => ?_⟩
        rcases cases_ hb with ⟨hn, -⟩ | hb
        · exact absurd (eq_of_beq own) hn
        · refine ⟨(pointsIn_tag hb).2.1, (pointsIn_tag hb).2.2, fun d hd hp => other ?_⟩
          have zones (c : Crossing) (d : DiverterId) (x : ZoneId) (tag : Nat) (low high : Int)
              (hc : c ∈ s.activeLayout.pointsIn tag x low high) (hp : c.point = .trigger d) :
              s.activeLayout.diverters[d].map DiverterDef.zone = some x := by
            rcases List.mem_append.1 hc with hc | hc
            · obtain ⟨e, v, he, hz, -, -, rfl⟩ := triggersIn_points hc
              obtain rfl := Point.trigger.inj hp
              rw [he, Option.map_some, hz]
            · obtain ⟨e, v, -, -, -, -, -, rfl⟩ := windowEndsIn_points hc
              cases hp
          exact Option.some.inj ((zones _ _ _ _ _ _ hb hp).symm.trans (zones _ _ _ _ _ _ hc hd))
      · rw [(pointsIn_tag hc).1, beq_self_eq_true] at hq
        cases hq
  obtain ⟨order, w, rs, k, made, met, nodup, mem_, sorted⟩ := takeCrossings_trace under bound (s.pulsed z).freeIndex
  have mem_ (c : Crossing) : c ∈ order ↔ c ∈ s.activeLayout.pointsIn i.tag y (-1) p := by
    rw [mem_]
    constructor
    · rintro (⟨hc, own⟩ | ⟨hc, -⟩)
      · rcases cases_ hc with ⟨hn, -⟩ | hc
        exacts [absurd (eq_of_beq own) hn, hc]
      · cases hc
    · intro hc
      refine .inl ⟨mem_owedAfter.2 (.inr ⟨?_, inLine⟩), by rw [(pointsIn_tag hc).1]; exact beq_self_eq_true _⟩
      rw [crossed]
      exact hc
  refine ⟨order.map Crossing.passed, w, rs, k, pointsBetween_of_order (le_refl _) nodup mem_ sorted, ?_, ?_⟩
  · rw [List.map_map]
    have same : (order.map fun c => c.met s.activeLayout y) =
        order.map ((fun pt => .point y i.tag pt) ∘ Crossing.passed) :=
      List.map_congr_left fun c hc => met_passed ((mem_ c).1 hc)
    rw [← same]
    exact met
  · have start : ((s.pulsed z).cross b).1 = { v with freeIndex := (s.pulsed z).freeIndex } := by
      rw [crossed]
      rfl
    rw [first, start]
    exact made

theorem zones_pulsed_other (s : State) (hy : y ≠ z) : (s.pulsed z).zones[y] = s.zones[y] := by
  unfold State.pulsed
  exact Vector.getElem_set_ne z.isLt y.isLt fun h => hy (Fin.ext h.symm)

theorem clampAtTail_free {tail : Option Nat} {q : Nat} (h : ∀ p ∈ tail, q < p) :
    clampAtTail tail q = some (q, false) := by
  cases tail with
  | none => rfl
  | some p => exact if_pos (h p rfl)

theorem clampAtTail_behind {tail : Option Nat} {p q : Nat} (hp : p ∈ tail) (one : 1 ≤ p) (low : p ≤ q) :
    clampAtTail tail q = some (p - 1, true) := by
  rw [Option.mem_def.1 hp]
  exact (if_neg (Nat.not_lt.2 low)).trans (if_pos one)

section
variable (lawful : Lawful s) (ha : s.resetActive = false) (hm : s.module ≠ .unconfigured)
  (ht : s.zones[z].track = i :: behind_) (hz : s.activeLayout.zones[z].isSome = true)
  (quiet : QuietFor s z behind_)
  (triggers : ∀ v : DiverterId, ¬ TriggersAt s.activeLayout z ((s.pulsed z).place z i) v)
  (full : (s.pulsed z).place z i = s.activeLayout.zoneLength z)
  (lasting : Lasting (s.pulsed z) z behind_ i eyes after)
include lawful ha hm ht hz quiet triggers full lasting

/-- R9, R32: an item that outlasts its windows and is released as it leaves. -/
theorem leaving_happens {rs : List Report} (gone : w.findItem i.tag = none)
    (leaves : (s.pulsed z).leaveZone i.tag z = (w.postAll rs, [])) : Happens (.encoderPulse z) s w rs := by
  refine pulse_happens ha (.trans (pulse_leaves lawful.booked.pool hm ht hz quiet
    (fun v at_ => absurd at_ (triggers v)) full ?_ ?_) ?_) <;> rw [leaves]
  · dsimp only
    rw [postAll_findItem]
    exact gone

/-- R9: an item that outlasts its windows exits off the last zone. -/
theorem leaving_exits (last : s.activeLayout.zoneAfter z = none) :
    Happens (.encoderPulse z) s ((s.pulsed z).exitOf i.tag) [.exited i.tag i.exitFlags i.reference] := by
  refine leaving_happens lawful ha hm ht hz quiet triggers full lasting (lossOf_gone (s.pulsed z) i.tag)
    ((lasting.exits last [] (s.pulsed z).freeIndex).trans ?_)
  unfold State.noted
  rfl

/-- R32: an item that outlasts its windows is lost behind a tail at 0. -/
theorem leaving_lost (next : s.activeLayout.zoneAfter z = some y)
    (tail : s.zones[y].track.getLast?.map (s.place y) = some 0) :
    Happens (.encoderPulse z) s ((s.pulsed z).lossOf i.tag) [.lost i.tag y none .transfer] := by
  have other : y ≠ z := fun he => by
    have := (zoneAfter_eq_some.1 next).1
    rw [he] at this
    omega
  refine leaving_happens lawful ha hm ht hz quiet triggers full lasting (lossOf_gone (s.pulsed z) i.tag)
    ((lasting.lost next ?_ [] (s.pulsed z).freeIndex).trans ?_)
  · unfold State.place
    rw [zones_pulsed_other s other]
    exact tail
  · unfold State.noted
    rfl

/-- R8, R31, R188: an item that outlasts its windows joins the tail of the next zone, and comes to the points
up to there. -/
theorem leaving_joins {q : Nat} {clamped : Bool} (next : s.activeLayout.zoneAfter z = some y)
    (place : clampAtTail (s.zones[y].track.getLast?.map (s.place y)) (s.activeLayout.entryOffset y) =
      some (q, clamped)) :
    Leads (.encoderPulse z) s fun t => ∃ m : Item,
      (∃ k : Item, CarriesOn s y q (MeetsReturn (s.pulsed z) z i) after
        { i with missRun := i.missRun + ((s.pulsed z).missedAt z i eyes).length } k ∧
        m = if clamped then k.markAtRisk else k) ∧
      CarriedPast s
        (((s.pulsed z).withTrack z behind_).withTrack y (s.zones[y].track ++
          [{ m with zone := y, base := s.zones[y].count - BitVec.ofNat 24 q }]))
        t y i.tag (-1) q := by
  have follows := (zoneAfter_eq_some.1 next).1
  have other : y ≠ z := fun he => by
    rw [he] at follows
    omega
  have same := zones_pulsed_other s other
  have place_ : clampAtTail ((s.pulsed z).zones[y].track.getLast?.map ((s.pulsed z).place y))
      ((s.pulsed z).activeLayout.entryOffset y) = some (q, clamped) := by
    unfold State.place
    rw [same]
    exact place
  have carried := lasting.carried next place_
  have joins := lasting.joins next place_ [] (s.pulsed z).freeIndex
  obtain ⟨tag, -⟩ := endedItem_same (s.pulsed z) z i eyes after
  generalize hm' : ((s.pulsed z).endedAt z behind_ i eyes after).carriedTo
    ((s.pulsed z).endedItem z i eyes after) y q clamped = m at joins
  have mtag : m.tag = i.tag := by
    rw [← hm', ← tag]
    unfold State.carriedTo
    rcases carriedOn_cases ((s.pulsed z).endedAt z behind_ i eyes after)
      ((s.pulsed z).endedItem z i eyes after) y q with ⟨-, hc⟩ | ⟨-, hc⟩ <;> rw [hc] <;> cases clamped <;> rfl
  obtain ⟨pts, w, rs, k, between, met, made⟩ :=
    pulse_joins lawful hm ht hz quiet triggers full follows mtag joins
  obtain ⟨t, step, brings⟩ := pulse_leads ha made
  refine ⟨t, step, m, ⟨_, ?_, hm'.symm⟩, pts, w, rs, between, ?_, brings⟩
  · unfold CarriesOn at carried ⊢
    rw [same] at carried
    exact carried
  · unfold State.joined at met
    rw [same] at met
    exact met

end

/-- R7 to R10, R31, R32, R72 to R74: what becomes of the head of a zone that outlasts its windows. -/
theorem leaving_outcomes (s : State) (z : ZoneId) (behind : List Item) (i : Item) (eyes : List EyeId)
    (after : Option EyeId) (hr : RecordLaws s) (ha : s.resetActive = false) (hm : s.module ≠ .unconfigured)
    (ht : s.zones[z].track = i :: behind) (hz : s.activeLayout.zones[z].isSome = true)
    (full : (s.pulsed z).place z i = s.activeLayout.zoneLength z) (quiet : QuietFor s z behind)
    (triggers : ∀ v : DiverterId, ¬ TriggersAt s.activeLayout z ((s.pulsed z).place z i) v)
    (due : EyesStillDue s.activeLayout z i.nextEye eyes after)
    (lasts : s.outlasts i ((s.pulsed z).missedAt z i eyes).length) :
    let j : Item := { i with missRun := i.missRun + ((s.pulsed z).missedAt z i eyes).length }
    ((∀ y : ZoneId, y.val = z.val + 1 → s.activeLayout.zones[y] = none) →
      Happens (.encoderPulse z) s ((s.pulsed z).exitOf i.tag) [.exited i.tag i.exitFlags i.reference]) ∧
    (∀ (y : ZoneId) (def_ : ZoneDef), y.val = z.val + 1 → s.activeLayout.zones[y] = some def_ →
      let joins : Nat → Item → Prop := fun q k => Leads (.encoderPulse z) s fun t =>
        ∃ m : Item, CarriesOn s y q (MeetsReturn (s.pulsed z) z i) after k m ∧
          CarriedPast s
            (((s.pulsed z).withTrack z behind).withTrack y (s.zones[y].track ++
              [{ m with zone := y, base := s.zones[y].count - BitVec.ofNat 24 q }]))
            t y i.tag (-1) q
      let tail := s.zones[y].track.getLast?.map (s.place y)
      ((∀ q ∈ tail, def_.entryOffset < q) → joins def_.entryOffset j) ∧
      (∀ q ∈ tail, 1 ≤ q → q ≤ def_.entryOffset → joins (q - 1) j.markAtRisk) ∧
      (tail = some 0 → Happens (.encoderPulse z) s ((s.pulsed z).lossOf i.tag)
        [.lost i.tag y none .transfer])) := by
  have lawful := (recordLaws_iff s).1 hr
  have lasting : Lasting (s.pulsed z) z behind i eyes after :=
    ⟨pulsed_pool lawful.booked.pool z, (pulsed_track s z z).trans ht, due, lasts⟩
  intro j
  refine ⟨fun last => leaving_exits lawful ha hm ht hz quiet triggers full lasting ?_, fun y def_ next used => ?_⟩
  · cases hy : s.activeLayout.zoneAfter z with
    | none => rfl
    | some y =>
      obtain ⟨next, used⟩ := zoneAfter_eq_some.1 hy
      rw [last y next] at used
      cases used
  · have after_ : s.activeLayout.zoneAfter z = some y := zoneAfter_eq_some.2 ⟨next, by rw [used]; rfl⟩
    have offset : s.activeLayout.entryOffset y = def_.entryOffset := by
      unfold Layout.entryOffset
      rw [used]
      rfl
    intro joins tail
    have placed {q : Nat} {clamped : Bool} (h : clampAtTail tail def_.entryOffset = some (q, clamped)) :=
      leaving_joins (q := q) (clamped := clamped) lawful ha hm ht hz quiet triggers full lasting after_
        (offset ▸ h)
    refine ⟨fun free => ?_, fun q hq one low => ?_,
      leaving_lost lawful ha hm ht hz quiet triggers full lasting after_⟩
    · obtain ⟨t, step, m, ⟨k, carries, rfl⟩, carried⟩ := placed (clampAtTail_free free)
      exact ⟨t, step, _, carries, carried⟩
    · obtain ⟨t, step, m, ⟨k, carries, rfl⟩, carried⟩ := placed (clampAtTail_behind hq one low)
      exact ⟨t, step, _, carriesOn_markAtRisk carries, carried⟩

end

end Sys2Proof.Machine
end

section
/-! PROOFS. The transfer of an item as a change of the state that the operations of a stroke do not tell apart
(R8, R31, R188, log entry 25). -/

namespace Sys2Proof.Machine

set_option Elab.async false

/-! ### Shifts -/

/-- R8, R188: the items that move, from zone `home` to the tail of zone `next`, what becomes of their records,
and what a pulse adds to the count of `home` and to the span. -/
structure Shift where
  home : ZoneId
  next : ZoneId
  follows : next.val = home.val + 1
  moves : Nat → Bool
  pulses : Count
  span : Nat
  base : Count
  left : Count
  met : Count
  eyes : Option EyeId → Option EyeId
  clamped : Bool

/-- What becomes of a record. The return marks of the other items of `home` are put out of sight. -/
def Shift.item (P : Shift) (j : Item) : Item :=
  if j.zone = P.home then
    if P.moves j.tag then
      { j with
        zone := P.next, base := P.base, nextEye := P.eyes j.nextEye
        returnedAt := if j.returnedAt = some P.left then some P.met else none
        flags := { j.flags with atRisk := j.flags.atRisk || P.clamped } }
    else { j with returnedAt := none }
  else j

/-- The records of zone `x`, before they are changed. -/
def Shift.held (P : Shift) (zones : Vector ZoneUnit 4) (x : ZoneId) : List Item :=
  if x = P.home then zones[x].track.filter fun j => !P.moves j.tag
  else if x = P.next then zones[x].track ++ zones[P.home].track.filter fun j => P.moves j.tag
  else zones[x].track

/-- What becomes of zone `x`. -/
def Shift.unit (P : Shift) (zones : Vector ZoneUnit 4) (x : ZoneId) : ZoneUnit :=
  { zones[x] with
    count := if x = P.home then zones[x].count + P.pulses else zones[x].count
    track := (P.held zones x).map P.item }

/-- What becomes of the state, the choices taken and the commands that wait out of sight. -/
def Shift.apply (P : Shift) (s : State) : State :=
  { s with
    zones := Vector.ofFn (P.unit s.zones)
    spanCount := s.spanCount + P.span
    freeIndex := 0
    pending := [] }

/-- The shift that moves nothing, and only puts the marks of `home` out of sight. -/
def Shift.clear (P : Shift) : Shift := { P with moves := fun _ => false, pulses := 0, span := 0 }

section
variable {P : Shift} {s t u : State} {x y z : ZoneId} {tag : Nat} {i j : Item}

theorem Shift.apart : P.next ≠ P.home := fun h => by
  have := P.follows
  rw [h] at this
  omega

theorem shift_zone (P : Shift) (s : State) (x : ZoneId) : (P.apply s).zones[x] = P.unit s.zones x := by
  simp [Shift.apply]

theorem shift_held_home (zones : Vector ZoneUnit 4) :
    P.held zones P.home = zones[P.home].track.filter fun j => !P.moves j.tag := if_pos rfl

theorem shift_held_next (zones : Vector ZoneUnit 4) : P.held zones P.next =
    zones[P.next].track ++ zones[P.home].track.filter fun j => P.moves j.tag :=
  (if_neg P.apart).trans (if_pos rfl)

theorem shift_held_other (zones : Vector ZoneUnit 4) (hh : x ≠ P.home) (hn : x ≠ P.next) :
    P.held zones x = zones[x].track := (if_neg hh).trans (if_neg hn)

theorem shift_held_clear (zones : Vector ZoneUnit 4) (x : ZoneId) : P.clear.held zones x = zones[x].track := by
  unfold Shift.held Shift.clear
  dsimp only
  split_ifs with hh hn <;> simp

/-- A change of the zones that the shift follows. -/
theorem shift_congr {v w : State} (h : ∀ x, P.unit v.zones x = w.zones[x]) (span : v.spanCount + P.span = w.spanCount)
    (same : { v with zones := w.zones, spanCount := w.spanCount, freeIndex := 0, pending := [] } = w) :
    P.apply v = w := by
  have zones : Vector.ofFn (P.unit v.zones) = w.zones := by
    refine Vector.ext fun k hk => ?_
    rw [Vector.getElem_ofFn]
    exact h ⟨k, hk⟩
  unfold Shift.apply
  rw [zones, span]
  exact same

/-! ### Records -/

@[simp] theorem shift_item_tag (j : Item) : (P.item j).tag = j.tag := by
  unfold Shift.item
  split_ifs <;> rfl

theorem shift_item_destination (j : Item) : (P.item j).destination = j.destination := by
  unfold Shift.item
  split_ifs <;> rfl

theorem shift_item_reference (j : Item) : (P.item j).reference = j.reference := by
  unfold Shift.item
  split_ifs <;> rfl

theorem shift_item_assigned (j : Item) (a : Option DiverterId) :
    P.item { j with assigned := a } = { P.item j with assigned := a } := by
  unfold Shift.item
  dsimp only
  split_ifs <;> rfl

theorem shift_item_other (h : j.zone ≠ P.home) : P.item j = j := if_neg h

/-- A tag is found among the records that move, or among those that stay. -/
theorem find_parts (moves : Nat → Bool) (l : List Item) (tag : Nat) :
    ((l.filter fun j => moves j.tag).find? fun j => j.tag = tag).or
      ((l.filter fun j => !moves j.tag).find? fun j => j.tag = tag) = l.find? fun j => j.tag = tag := by
  induction l with
  | nil => rfl
  | cons j l ih =>
    by_cases ht : j.tag = tag
    · cases hm : moves j.tag
      · have none_ : (l.filter fun j => moves j.tag).find? (fun j => decide (j.tag = tag)) = none := by
          refine List.find?_eq_none.2 fun k hk he => ?_
          have := (List.mem_filter.1 hk).2
          rw [of_decide_eq_true he, ← ht, hm] at this
          cases this
        rw [List.filter_cons_of_neg (by simp [hm]), List.filter_cons_of_pos (by simp [hm]), none_]
        simp [ht]
      · rw [List.filter_cons_of_pos (by simp [hm])]
        simp [ht]
    · cases hm : moves j.tag <;>
        simp only [List.filter_cons, hm, Bool.not_false, Bool.not_true, if_true, Bool.false_eq_true, if_false] <;>
        simpa [ht] using ih

/-- A tag is found in the same record, wherever that stands in its zone or at the tail of the next. -/
theorem find_held {h n : ZoneId} {held : ZoneId → List Item} (follows : n.val = h.val + 1) (moves : Nat → Bool)
    (tracks : ZoneId → List Item) (home : held h = (tracks h).filter fun j => !moves j.tag)
    (next : held n = tracks n ++ (tracks h).filter fun j => moves j.tag)
    (other : ∀ x, x ≠ h → x ≠ n → held x = tracks x) (tag : Nat) :
    ((((held 3).find? fun j => j.tag = tag).or ((held 2).find? fun j => j.tag = tag)).or
      ((held 1).find? fun j => j.tag = tag)).or ((held 0).find? fun j => j.tag = tag) =
    ((((tracks 3).find? fun j => j.tag = tag).or ((tracks 2).find? fun j => j.tag = tag)).or
      ((tracks 1).find? fun j => j.tag = tag)).or ((tracks 0).find? fun j => j.tag = tag) := by
  have parts := find_parts moves (tracks h) tag
  match h, n, follows with
  | 0, 1, _ =>
    rw [home, next, other 2 (by decide) (by decide), other 3 (by decide) (by decide), ← parts,
      List.find?_append]
    simp only [Option.or_assoc]
  | 1, 2, _ =>
    rw [home, next, other 0 (by decide) (by decide), other 3 (by decide) (by decide), ← parts,
      List.find?_append]
    simp only [Option.or_assoc]
  | 2, 3, _ =>
    rw [home, next, other 0 (by decide) (by decide), other 1 (by decide) (by decide), ← parts,
      List.find?_append]
    simp only [Option.or_assoc]

theorem lineItems_flatMap (s : State) :
    s.lineItems = ([3, 2, 1, 0] : List ZoneId).flatMap fun x => s.zones[x].track := by
  simp only [List.flatMap_cons, List.flatMap_nil, List.append_nil, State.lineItems, List.append_assoc]
  rfl

/-- The first record with a tag, zone by zone. -/
theorem findItem_zones (s : State) (tag : Nat) : s.findItem tag =
    (((s.zones[(3 : ZoneId)].track.find? fun j => j.tag = tag).or
      (s.zones[(2 : ZoneId)].track.find? fun j => j.tag = tag)).or
      (s.zones[(1 : ZoneId)].track.find? fun j => j.tag = tag)).or
      (s.zones[(0 : ZoneId)].track.find? fun j => j.tag = tag) := by
  unfold State.findItem
  rw [lineItems_flatMap]
  simp only [List.flatMap_cons, List.flatMap_nil, List.append_nil, List.find?_append, Option.or_assoc]

theorem shift_track (P : Shift) (s : State) (x : ZoneId) :
    (P.apply s).zones[x].track = (P.held s.zones x).map P.item := by
  rw [shift_zone]
  rfl

/-- R8: a shift changes no tag's record but by `P.item`. -/
theorem shift_findItem (P : Shift) (s : State) (tag : Nat) :
    (P.apply s).findItem tag = (s.findItem tag).map P.item := by
  have same : ((fun j : Item => decide (j.tag = tag)) ∘ P.item) = fun j : Item => decide (j.tag = tag) := by
    funext j
    simp
  have held (x : ZoneId) : ((P.apply s).zones[x].track.find? fun j => j.tag = tag) =
      ((P.held s.zones x).find? fun j => j.tag = tag).map P.item := by
    rw [shift_track, List.find?_map, same]
  rw [findItem_zones, findItem_zones]
  simp only [held, ← Option.map_or]
  refine congrArg _ ?_
  exact find_held P.follows P.moves (fun x => s.zones[x].track) (shift_held_home s.zones)
    (shift_held_next s.zones) (fun x => shift_held_other s.zones) tag

/-! ### Operations that a shift does not tell apart -/

/-- The zones with every record changed. -/
theorem shift_held_map {zones zones' : Vector ZoneUnit 4} {g : Item → Item} (tag : ∀ j, (g j).tag = j.tag)
    (h : ∀ x : ZoneId, zones'[x].track = zones[x].track.map g) (x : ZoneId) :
    P.held zones' x = (P.held zones x).map g := by
  have stays : ((fun j : Item => !P.moves j.tag) ∘ g) = fun j => !P.moves j.tag := by
    funext j
    exact congrArg (fun t => !P.moves t) (tag j)
  have goes : ((fun j : Item => P.moves j.tag) ∘ g) = fun j => P.moves j.tag := by
    funext j
    exact congrArg P.moves (tag j)
  unfold Shift.held
  rw [h x, h P.home]
  split_ifs
  · rw [List.filter_map, stays]
  · rw [List.filter_map, goes, List.map_append]
  · rfl

theorem updateItem_track (s : State) (tag : Nat) (f : Item → Item) (x : ZoneId) :
    (s.updateItem tag f).zones[x].track = s.zones[x].track.map fun j => if j.tag = tag then f j else j := by
  simp [State.updateItem]

theorem shift_updateItem {f g : Item → Item} (tags : ∀ j, (f j).tag = j.tag)
    (h : ∀ j, P.item (f j) = g (P.item j)) (s : State) (tag : Nat) :
    (P.apply s).updateItem tag g = P.apply (s.updateItem tag f) := by
  refine (shift_congr (fun x => ?_) rfl rfl).symm
  have held := shift_held_map (P := P) (zones := s.zones) (zones' := (s.updateItem tag f).zones)
    (g := fun j => if j.tag = tag then f j else j) (fun j => by split <;> simp [tags])
    (updateItem_track s tag f) x
  have records : (P.held (s.updateItem tag f).zones x).map P.item =
      ((P.held s.zones x).map P.item).map fun j => if j.tag = tag then g j else j := by
    rw [held, List.map_map, List.map_map]
    refine List.map_congr_left fun j _ => ?_
    simp only [Function.comp_apply, shift_item_tag]
    split
    · exact h j
    · rfl
  rw [updateItem_zone, shift_zone]
  unfold Shift.unit
  rw [records, updateItem_zone]

theorem shift_post (P : Shift) (s : State) (r : Report) : (P.apply s).post r = P.apply (s.post r) := rfl

theorem shift_postAll (P : Shift) (s : State) (rs : List Report) :
    (P.apply s).postAll rs = P.apply (s.postAll rs) := by
  induction rs generalizing s with
  | nil => rfl
  | cons r rs ih => exact (congrArg (State.postAll rs) (shift_post P s r)).trans (ih (s.post r))

theorem shift_modifyDiverter (P : Shift) (s : State) (d : DiverterId) (f : Diverter → Diverter) :
    (P.apply s).modifyDiverter d f = P.apply (s.modifyDiverter d f) := rfl

theorem shift_count (P : Shift) (s : State) (f : Counters → Counters) :
    (P.apply s).count f = P.apply (s.count f) := rfl

theorem shift_setHome (P : Shift) (s : State) (d : DiverterId) (level : Bool) :
    (P.apply s).setHome d level = P.apply (s.setHome d level) := rfl

/-! ### Reasons and permits -/

/-- Changed reasons and permits show through a shift. -/
theorem shift_unit_marks {zones zones' : Vector ZoneUnit 4} {r : ZoneId → Reasons} {p : ZoneId → Bool}
    (h : ∀ x : ZoneId, zones'[x] = { zones[x] with reasons := r x, permit := p x }) (x : ZoneId) :
    P.unit zones' x = { P.unit zones x with reasons := r x, permit := p x } := by
  have held := shift_held_map (P := P) (zones := zones) (zones' := zones') (g := id) (fun _ => rfl)
    (fun x => by rw [h x, List.map_id]) x
  unfold Shift.unit
  rw [held, List.map_id, h x]

theorem shift_modifyReasons (P : Shift) (s : State) (z : ZoneId) (f : Reasons → Reasons) :
    (P.apply s).modifyReasons z f = P.apply (s.modifyReasons z f) := by
  refine (shift_congr (fun x => ?_) rfl rfl).symm
  rw [shift_unit_marks (zones := s.zones) (r := fun x => if z = x then f s.zones[x].reasons else s.zones[x].reasons)
    (p := fun x => s.zones[x].permit) (fun x => modifyReasons_zone s z x f), modifyReasons_zone, shift_zone]
  rfl

theorem shift_heldDownstream (P : Shift) (s : State) (z : ZoneId) :
    (P.apply s).heldDownstream z = s.heldDownstream z := by
  unfold State.heldDownstream
  simp only [shift_zone]
  rfl

theorem shift_settleReports (P : Shift) (s : State) : (P.apply s).settleReports = s.settleReports := by
  have same (z : ZoneId) : permitChange z (P.apply s).deriveDownstream.zones[z] =
      permitChange z s.deriveDownstream.zones[z] := by
    rw [deriveDownstream_zone, deriveDownstream_zone, shift_heldDownstream, shift_zone]
    rfl
  unfold State.settleReports
  rw [same, same, same, same]

theorem shift_settleZones (P : Shift) (s : State) : (P.apply s).settleZones = P.apply s.settleZones := by
  rw [settleZones_eq, settleZones_eq, shift_settleReports, shift_postAll]
  refine (shift_congr (fun x => ?_) ?_ ?_).symm
  · have settled (u : State) (x : ZoneId) : u.settledZone x = { u.zones[x] with
        reasons := { u.zones[x].reasons with downstream := u.heldDownstream x }
        permit := ({ u.zones[x].reasons with downstream := u.heldDownstream x } : Reasons).isEmpty } := rfl
    rw [shift_unit_marks (zones := s.zones)
      (r := fun x => { s.zones[x].reasons with downstream := s.heldDownstream x })
      (p := fun x => ({ s.zones[x].reasons with downstream := s.heldDownstream x } : Reasons).isEmpty)
      (fun x => by simp [State.settledZone, ZoneUnit.settled])]
    simp only [Fin.getElem_fin, Vector.getElem_ofFn, Fin.eta]
    rw [settled, shift_heldDownstream, shift_zone]
    rfl
  · rw [postAll_frame]
    rfl
  · rw [postAll_frame]
    rfl

/-! ### The release of a record -/

theorem shift_evaluatePoolLow (P : Shift) (s : State) :
    (P.apply s).evaluatePoolLow = P.apply s.evaluatePoolLow :=
  shift_modifyReasons P s 0 _

theorem shift_removeItem (P : Shift) (s : State) (tag : Nat) :
    (P.apply s).removeItem tag = P.apply (s.removeItem tag) := by
  have removed (u : State) (x : ZoneId) : (u.removeItem tag).zones[x] =
      { u.zones[x] with track := u.zones[x].track.filter fun j => j.tag != tag } := by
    simp [State.removeItem]
  refine (shift_congr (fun x => ?_) rfl rfl).symm
  have held : P.held (s.removeItem tag).zones x = (P.held s.zones x).filter fun j => j.tag != tag := by
    unfold Shift.held
    rw [removed, removed]
    split_ifs
    · exact List.filter_comm _ _ _
    · rw [List.filter_append]
      exact congrArg _ (List.filter_comm _ _ _)
    · rfl
  have records : (P.held (s.removeItem tag).zones x).map P.item =
      ((P.held s.zones x).map P.item).filter fun j => j.tag != tag := by
    rw [held, List.filter_map]
    refine congrArg _ (List.filter_congr fun j _ => ?_)
    simp
  rw [removed, shift_zone]
  unfold Shift.unit
  rw [records, removed]

theorem shift_release (P : Shift) (s : State) (tag : Nat) :
    (P.apply s).release tag = P.apply (s.release tag) := by
  have removed := shift_removeItem P s tag
  unfold State.release
  rw [removed]
  exact shift_evaluatePoolLow P { s.removeItem tag with
      claims := Vector.ofFn fun d => s.claims[d].filter fun t => t != tag
      diverters := Vector.ofFn fun d =>
        { s.diverters[d] with
          slot := if s.diverters[d].slot = some tag then none else s.diverters[d].slot }
      freeRecords := s.freeRecords + 1 }

/-! ### The link -/

theorem shift_rest (P : Shift) (s : State) : (P.apply s).rest = P.apply s.rest := rfl

theorem shift_supervise (P : Shift) (s : State) : (P.apply s).supervise = P.apply s.supervise := by
  have cleared := shift_modifyReasons P s 0 fun r => { r with link := false }
  unfold State.supervise
  rw [cleared]
  rfl

theorem shift_chooseFrame (P : Shift) (s : State) : (P.apply s).chooseFrame = P.apply s.chooseFrame := by
  unfold State.chooseFrame
  have sendable : (P.apply s).sendable = s.sendable := rfl
  have link : (P.apply s).link = s.link := rfl
  rw [sendable, link]
  cases s.link.transmitter with
  | sending frame => rfl
  | free =>
    cases s.link.slot with
    | some reply => rfl
    | none =>
      cases s.sendable with
      | some e => rfl
      | none => rfl

theorem shift_placeReply (P : Shift) (s : State) (kind seq : Byte) (body : List Byte) :
    (P.apply s).placeReply kind seq (.fixed body) = P.apply (s.placeReply kind seq (.fixed body)) := rfl

/-! ### Assignments and claims -/

/-- R81, R85: the diverters that a destination names. -/
def Serves (l : Layout) (destination : Option DestinationCode) (v : DiverterId) : Prop :=
  ∃ c ∈ destination, l.destinations[c].primary = some v ∨ l.destinations[c].alternate = some v

/-- R84: the trigger point of diverter `v` lies ahead of the item. -/
def State.liesAhead (s : State) (j : Item) (v : DiverterId) : Bool :=
  s.activeLayout.diverters[v].any fun def_ =>
    decide (j.zone < def_.zone ∨ j.zone = def_.zone ∧ s.place j.zone j + def_.lead < def_.firePosition)

theorem claimable_liesAhead (s : State) (j : Item) (v : DiverterId) :
    s.claimable j v = (s.diverters[v].state.inService && s.liesAhead j v) := claimable_eq s j v

/-- The shift keeps the line order of the items, and what lies ahead of each on its way. -/
structure Fits (P : Shift) (s : State) : Prop where
  order : ∀ a ∈ s.lineItems, ∀ b ∈ s.lineItems,
    (P.apply s).precedes (P.item a) (P.item b) = s.precedes a b
  ahead : ∀ a ∈ s.lineItems, ∀ v, Serves s.activeLayout a.destination v →
    (P.apply s).liesAhead (P.item a) v = s.liesAhead a v
  still : ∀ d : DiverterId, Instr.homeInactiveEdge d ∉ s.pending
  counts : ∀ x, P.moves x = true → s.zones[P.home].count = P.left ∧ s.zones[P.next].count = P.met

theorem assignment_of_serves {excluded : Option DiverterId} (layout : t.activeLayout = s.activeLayout)
    (destination : j.destination = i.destination)
    (h : ∀ v, Serves s.activeLayout i.destination v → t.claimable j v = s.claimable i v) :
    t.assignment j excluded = s.assignment i excluded := by
  unfold State.assignment
  rw [layout, destination]
  cases hc : i.destination with
  | none => rfl
  | some c =>
    have takes {field : Option DiverterId}
        (hf : ∀ v, field = some v → Serves s.activeLayout i.destination v) :
        t.takes j excluded field = s.takes i excluded field := by
      unfold State.takes
      cases field with
      | none => rfl
      | some v => simp only [Option.any_some, h v (hf v rfl)]
    dsimp only
    rw [takes fun v hv => ⟨c, hc, .inl hv⟩, takes fun v hv => ⟨c, hc, .inr hv⟩]

theorem assignment_serves {excluded : Option DiverterId} {v : DiverterId} (h : s.assignment i excluded = some v) :
    Serves s.activeLayout i.destination v := by
  unfold State.assignment at h
  cases hc : i.destination with
  | none => rw [hc] at h; cases h
  | some c =>
    rw [hc] at h
    dsimp only at h
    split_ifs at h with primary alternate
    exacts [⟨c, rfl, .inl h⟩, ⟨c, rfl, .inr h⟩]

theorem shift_assignment (fits : Fits P s) (hi : i ∈ s.lineItems) (excluded : Option DiverterId) :
    (P.apply s).assignment (P.item i) excluded = s.assignment i excluded := by
  refine assignment_of_serves rfl (shift_item_destination i) fun v hv => ?_
  rw [claimable_liesAhead, claimable_liesAhead, fits.ahead i hi v hv]
  rfl

theorem shift_claimLists (fits : Fits P s) (hi : i ∈ s.lineItems) (new : Option DiverterId) :
    (P.apply s).claimLists (P.item i) new = s.claimLists i new := by
  refine claimLists_congr (t := P.apply s) (s := s) rfl (shift_item_tag i) (fun x => ?_) new
  rw [shift_findItem]
  cases hx : s.findItem x with
  | none => rfl
  | some j => exact fits.order i hi j (findItem_eq_some hx).1

theorem shift_writeClaim (fits : Fits P s) (hi : i ∈ s.lineItems) (new : Option DiverterId) :
    (P.apply s).writeClaim (P.item i) new = P.apply (s.writeClaim i new) := by
  have lists := shift_claimLists fits hi new
  have written := shift_updateItem (P := P) (f := fun j => { j with assigned := new })
    (g := fun j => { j with assigned := new }) (fun _ => rfl) (fun j => shift_item_assigned j new) s i.tag
  unfold State.writeClaim
  rw [lists, shift_item_tag, written]
  rfl

theorem shift_reassign (fits : Fits P s) (tag : Nat) (excluded : Option DiverterId) :
    (P.apply s).reassign tag excluded =
      (P.apply (s.reassign tag excluded).1, (s.reassign tag excluded).2) := by
  unfold State.reassign
  rw [shift_findItem]
  cases hi : s.findItem tag with
  | none => rfl
  | some i =>
    have mem := (findItem_eq_some hi).1
    simp only [Option.map_some]
    rw [shift_assignment fits mem, shift_writeClaim fits mem]

theorem shift_moveClaim (fits : Fits P s) (d : DiverterId) (tag : Nat) :
    (P.apply s).moveClaim d tag = P.apply (s.moveClaim d tag) := by
  unfold State.moveClaim
  rw [shift_reassign fits]
  exact shift_post P _ _

/-! ### The return of an item -/

theorem shift_clear_item (j : Item) : P.clear.item j =
    if j.zone = P.home then { j with returnedAt := none } else j := by
  unfold Shift.item Shift.clear
  rfl

/-- The records of a state of which the marks are put out of sight. -/
theorem clear_eq_apply {v : State}
    (tracks : ∀ x : ZoneId, u.zones[x].track.map P.clear.item = (P.held v.zones x).map P.item)
    (marks : ∀ x : ZoneId, { P.unit v.zones x with track := u.zones[x].track } = u.zones[x])
    (same : { P.apply v with zones := u.zones, freeIndex := u.freeIndex, pending := u.pending } = u) :
    P.clear.apply u = P.apply v := by
  refine shift_congr (fun x => ?_) ?_ ?_
  · rw [shift_zone]
    have track := tracks x
    have mark := marks x
    generalize hw : u.zones[x] = w at track mark
    have unit : P.clear.unit u.zones x = { w with track := w.track.map P.clear.item } := by
      have count : (if x = P.clear.home then u.zones[x].count + P.clear.pulses else u.zones[x].count) =
          u.zones[x].count := by
        split_ifs
        · exact BitVec.add_zero _
        · rfl
      unfold Shift.unit
      rw [count, shift_held_clear, hw]
    rw [unit, track, ← mark]
    rfl
  · exact (congrArg State.spanCount same :).symm
  · rw [← same]
    rfl

theorem shift_clear_item_item (j : Item) : P.clear.item (P.item j) = P.item j := by
  rw [shift_clear_item]
  unfold Shift.item
  split_ifs <;> simp_all [P.apart]

theorem shift_clear_apply (P : Shift) (s : State) : P.clear.apply (P.apply s) = P.apply s := by
  refine clear_eq_apply (fun x => ?_) (fun x => ?_) rfl
  · rw [shift_track, List.map_map]
    exact List.map_congr_left fun j _ => shift_clear_item_item j
  · rw [shift_zone]

theorem shift_count_next (P : Shift) (s : State) : (P.apply s).zones[P.next].count = s.zones[P.next].count := by
  rw [shift_zone]
  exact if_neg P.apart

/-- R117, R188: an item is returned to the place where its travel has brought it. -/
theorem shift_backOnLine (fits : Fits P s) (j : Item) :
    P.clear.item ((P.apply s).backOnLine (P.item j)) = P.item (s.backOnLine j) := by
  by_cases home : j.zone = P.home
  · by_cases moves : P.moves j.tag = true
    · obtain ⟨left, met⟩ := fits.counts j.tag moves
      have count : s.zones[j.zone].count = P.left := by
        rw [← left]
        exact congrArg (fun x : ZoneId => s.zones[x].count) home
      have moved : P.item j = _ := (if_pos home).trans (if_pos moves)
      have zone : (P.item j).zone = P.next := congrArg Item.zone moved
      have now : (P.apply s).zones[(P.item j).zone].count = P.met := by
        rw [← met, ← shift_count_next P s]
        exact congrArg (fun x : ZoneId => (P.apply s).zones[x].count) zone
      have away : ((P.apply s).backOnLine (P.item j)).zone ≠ P.home := by
        change (P.item j).zone ≠ P.home
        rw [zone]
        exact P.apart
      have returned : P.item (s.backOnLine j) = _ := (if_pos home).trans (if_pos moves)
      rw [shift_clear_item, if_neg away, returned]
      unfold State.backOnLine
      rw [now, count, moved]
      simp [Item.markAtRisk]
    · have moved : P.item j = _ := (if_pos home).trans (if_neg moves)
      have returned : P.item (s.backOnLine j) = _ := (if_pos home).trans (if_neg moves)
      rw [returned, shift_clear_item, if_pos (by rw [moved]; exact home)]
      unfold State.backOnLine
      rw [moved]
      rfl
  · have same : P.item j = j := if_neg home
    have returned : P.item (s.backOnLine j) = s.backOnLine j := if_neg home
    have now : (P.apply s).zones[j.zone].count = s.zones[j.zone].count := by
      rw [shift_zone]
      exact if_neg home
    have away : ((P.apply s).backOnLine j).zone ≠ P.home := home
    rw [same, returned, shift_clear_item, if_neg away]
    unfold State.backOnLine
    rw [now]

/-- R117: the item of a stroke slot is returned alike. -/
theorem shift_slotEmptied (fits : Fits P s) (d : DiverterId) (tag : Nat) :
    P.clear.apply ((P.apply s).slotEmptied d tag) = P.apply (s.slotEmptied d tag) := by
  have emptied (u : State) (x : ZoneId) : (u.slotEmptied d tag).zones[x] = { u.zones[x] with
      track := u.zones[x].track.map fun j => if j.tag = tag then u.backOnLine j else j } :=
    updateItem_zone (u.modifyDiverter d fun v => { v with slot := none }) tag u.backOnLine x
  have held (x : ZoneId) : P.held (s.slotEmptied d tag).zones x =
      (P.held s.zones x).map fun j => if j.tag = tag then s.backOnLine j else j :=
    shift_held_map (fun j => by split <;> rfl) (fun x => by rw [emptied]) x
  refine clear_eq_apply (fun x => ?_) (fun x => ?_) rfl
  · rw [emptied, held, List.map_map, shift_track, List.map_map, List.map_map]
    refine List.map_congr_left fun j _ => ?_
    simp only [Function.comp_apply, shift_item_tag]
    split
    · exact shift_backOnLine fits j
    · exact shift_clear_item_item j
  · rw [emptied, shift_zone]
    unfold Shift.unit
    rw [emptied]

end

end Sys2Proof.Machine
end

section
/-! PROOFS. The operations of a stroke, taken before and after a transfer (R8, R102, R103, R117, R121, R124,
R188, log entry 25). -/

namespace Sys2Proof.Machine

set_option Elab.async false

section
variable {P : Shift} {s t u : State} {x z : ZoneId} {d v : DiverterId} {tag : Nat} {a b c i j : Item}

/-! ### What the operations of a stroke leave -/

/-- R85, R117: what an operation of a stroke makes of a record: it is assigned, or returned to tracking. -/
structure Becomes (zones : Vector ZoneUnit 4) (i j : Item) : Prop where
  tag : j.tag = i.tag
  zone : j.zone = i.zone
  base : j.base = i.base
  destination : j.destination = i.destination
  nextEye : j.nextEye = i.nextEye
  stroke : j.state = i.state ∧ j.returnedAt = i.returnedAt ∧ j.flags.atRisk = i.flags.atRisk ∨
    j.state = .tracked ∧ j.flags.atRisk = true ∧ j.returnedAt = some zones[i.zone].count

theorem Becomes.refl (zones : Vector ZoneUnit 4) (i : Item) : Becomes zones i i :=
  ⟨rfl, rfl, rfl, rfl, rfl, .inl ⟨rfl, rfl, rfl⟩⟩

theorem Becomes.trans (counts : ∀ x : ZoneId, t.zones[x].count = s.zones[x].count) (h : Becomes s.zones a b)
    (k : Becomes t.zones b c) : Becomes s.zones a c := by
  refine ⟨k.tag.trans h.tag, k.zone.trans h.zone, k.base.trans h.base, k.destination.trans h.destination,
    k.nextEye.trans h.nextEye, ?_⟩
  rcases k.stroke with ⟨state, mark, risk⟩ | ⟨state, risk, mark⟩
  · rw [state, mark, risk]
    exact h.stroke
  · refine .inr ⟨state, risk, mark.trans ?_⟩
    rw [counts]
    exact congrArg (fun x : ZoneId => some s.zones[x].count) h.zone

/-- What an operation of the stroke of diverter `d` leaves of the state. Only the item of the slot can be
released. -/
structure Descends (d : DiverterId) (s t : State) : Prop where
  layout : t.activeLayout = s.activeLayout
  module : t.module = s.module
  reset : t.resetActive = s.resetActive
  pending : t.pending = s.pending
  span : t.span = s.span
  spanCount : t.spanCount = s.spanCount
  counts : ∀ x : ZoneId, t.zones[x].count = s.zones[x].count
  items : ∀ x : ZoneId, ∀ j ∈ t.zones[x].track, ∃ i ∈ s.zones[x].track, Becomes s.zones i j
  stay : ∀ x : ZoneId, ∀ i ∈ s.zones[x].track, s.diverters[d].slot = some i.tag ∨
    ∃ j ∈ t.zones[x].track, Becomes s.zones i j
  slot : ∀ x, t.diverters[d].slot = some x → s.diverters[d].slot = some x
  claims : ∀ v : DiverterId, ∀ x ∈ t.claims[v], x ∈ s.claims[v] ∨
    ∃ i ∈ s.lineItems, i.tag = x ∧ Serves s.activeLayout i.destination v

theorem Descends.refl (d : DiverterId) (s : State) : Descends d s s :=
  ⟨rfl, rfl, rfl, rfl, rfl, rfl, fun _ => rfl, fun _ j hj => ⟨j, hj, .refl s.zones j⟩,
    fun _ i hi => .inr ⟨i, hi, .refl s.zones i⟩, fun _ h => h, fun _ _ h => .inl h⟩

theorem Descends.item (h : Descends d s t) (hj : j ∈ t.lineItems) : ∃ i ∈ s.lineItems, Becomes s.zones i j := by
  obtain ⟨x, hj⟩ := mem_lineItems.1 hj
  obtain ⟨i, hi, made⟩ := h.items x j hj
  exact ⟨i, mem_lineItems.2 ⟨x, hi⟩, made⟩

theorem Descends.trans (h : Descends d s t) (k : Descends d t u) : Descends d s u where
  layout := k.layout.trans h.layout
  module := k.module.trans h.module
  reset := k.reset.trans h.reset
  pending := k.pending.trans h.pending
  span := k.span.trans h.span
  spanCount := k.spanCount.trans h.spanCount
  counts x := (k.counts x).trans (h.counts x)
  items x c hc := by
    obtain ⟨b, hb, later⟩ := k.items x c hc
    obtain ⟨a, ha, first⟩ := h.items x b hb
    exact ⟨a, ha, first.trans h.counts later⟩
  stay x a ha := by
    rcases h.stay x a ha with slot | ⟨b, hb, first⟩
    · exact .inl slot
    · rcases k.stay x b hb with slot | ⟨c, hc, later⟩
      · exact .inl (first.tag ▸ h.slot _ slot)
      · exact .inr ⟨c, hc, first.trans h.counts later⟩
  slot x hx := h.slot x (k.slot x hx)
  claims v x hx := by
    rcases k.claims v x hx with hx | ⟨b, hb, rfl, serves⟩
    · exact h.claims v x hx
    · obtain ⟨a, ha, made⟩ := h.item hb
      rw [made.destination, h.layout] at serves
      exact .inr ⟨a, ha, made.tag.symm, serves⟩

/-- An operation that leaves the records, the claims and the slots. -/
theorem Descends.of_lines (layout : t.activeLayout = s.activeLayout) (module : t.module = s.module)
    (reset : t.resetActive = s.resetActive) (pending : t.pending = s.pending) (span : t.span = s.span)
    (spanCount : t.spanCount = s.spanCount) (counts : ∀ x : ZoneId, t.zones[x].count = s.zones[x].count)
    (tracks : ∀ x : ZoneId, t.zones[x].track = s.zones[x].track)
    (slot : ∀ x, t.diverters[d].slot = some x → s.diverters[d].slot = some x)
    (claims : t.claims = s.claims) : Descends d s t where
  layout := layout
  module := module
  reset := reset
  pending := pending
  span := span
  spanCount := spanCount
  counts := counts
  items x j hj := ⟨j, tracks x ▸ hj, .refl s.zones j⟩
  stay x i hi := .inr ⟨i, (tracks x).symm ▸ hi, .refl s.zones i⟩
  slot := slot
  claims v x hx := .inl (by rwa [claims] at hx)

/-! ### A shift fits what the operations leave -/

theorem position_congr (counts : ∀ x : ZoneId, t.zones[x].count = s.zones[x].count) (zone : j.zone = i.zone)
    (base : j.base = i.base) : t.position j = s.position i := by
  have count : t.zones[j.zone].count = s.zones[i.zone].count :=
    (counts j.zone).trans (congrArg (fun x : ZoneId => s.zones[x].count) zone)
  unfold State.position
  rw [count, base]

theorem precedes_congr (counts : ∀ x : ZoneId, t.zones[x].count = s.zones[x].count) {a' b' : Item}
    (za : a'.zone = a.zone) (ba : a'.base = a.base) (zb : b'.zone = b.zone) (bb : b'.base = b.base) :
    t.precedes a' b' = s.precedes a b := by
  unfold State.precedes
  rw [position_congr counts za ba, position_congr counts zb bb, za, zb]

theorem liesAhead_congr (layout : t.activeLayout = s.activeLayout)
    (counts : ∀ x : ZoneId, t.zones[x].count = s.zones[x].count) (zone : j.zone = i.zone)
    (base : j.base = i.base) (v : DiverterId) : t.liesAhead j v = s.liesAhead i v := by
  have place : t.place j.zone j = s.place i.zone i := position_congr counts zone base
  unfold State.liesAhead
  rw [layout, place, zone]

theorem shift_item_congr (tag : j.tag = i.tag) (zone : j.zone = i.zone) (base : j.base = i.base) :
    (P.item j).zone = (P.item i).zone ∧ (P.item j).base = (P.item i).base := by
  by_cases home : i.zone = P.home
  · by_cases moves : P.moves i.tag = true
    · have mj : P.item j = _ := (if_pos (zone.trans home)).trans (if_pos (tag ▸ moves))
      have mi : P.item i = _ := (if_pos home).trans (if_pos moves)
      rw [mj, mi]
      exact ⟨rfl, rfl⟩
    · have mj : P.item j = _ := (if_pos (zone.trans home)).trans (if_neg (tag ▸ moves))
      have mi : P.item i = _ := (if_pos home).trans (if_neg moves)
      rw [mj, mi]
      exact ⟨zone, base⟩
  · rw [shift_item_other home, shift_item_other (zone ▸ home)]
    exact ⟨zone, base⟩

theorem shift_counts (counts : ∀ x : ZoneId, t.zones[x].count = s.zones[x].count) (x : ZoneId) :
    (P.apply t).zones[x].count = (P.apply s).zones[x].count := by
  rw [shift_zone, shift_zone]
  unfold Shift.unit
  rw [counts]

theorem Fits.descends (fits : Fits P s) (h : Descends d s t) : Fits P t where
  order a' ha b' hb := by
    obtain ⟨a, ha, ma⟩ := h.item ha
    obtain ⟨b, hb, mb⟩ := h.item hb
    obtain ⟨za, ba⟩ := shift_item_congr (P := P) ma.tag ma.zone ma.base
    obtain ⟨zb, bb⟩ := shift_item_congr (P := P) mb.tag mb.zone mb.base
    exact (precedes_congr (shift_counts h.counts) za ba zb bb).trans
      ((fits.order a ha b hb).trans (precedes_congr h.counts ma.zone ma.base mb.zone mb.base).symm)
  ahead a' ha v serves := by
    obtain ⟨a, ha, ma⟩ := h.item ha
    rw [ma.destination, h.layout] at serves
    obtain ⟨za, ba⟩ := shift_item_congr (P := P) ma.tag ma.zone ma.base
    exact (liesAhead_congr (t := P.apply t) (s := P.apply s) h.layout (shift_counts h.counts) za ba v).trans
      ((fits.ahead a ha v serves).trans (liesAhead_congr h.layout h.counts ma.zone ma.base v).symm)
  still d := by
    rw [h.pending]
    exact fits.still d
  counts x hx := by
    rw [h.counts, h.counts]
    exact fits.counts x hx

theorem Fits.clear (still : ∀ d : DiverterId, Instr.homeInactiveEdge d ∉ s.pending) : Fits P.clear s := by
  have place (j : Item) : (P.clear.item j).zone = j.zone ∧ (P.clear.item j).base = j.base := by
    rw [shift_clear_item]
    split_ifs <;> exact ⟨rfl, rfl⟩
  have counts (x : ZoneId) : (P.clear.apply s).zones[x].count = s.zones[x].count := by
    rw [shift_zone]
    unfold Shift.unit
    split_ifs
    · exact BitVec.add_zero _
    · rfl
  refine ⟨fun a _ b _ => ?_, fun a _ v _ => ?_, still, nofun⟩
  · exact precedes_congr counts (place a).1 (place a).2 (place b).1 (place b).2
  · exact liesAhead_congr (t := P.clear.apply s) (s := s) rfl counts (place a).1 (place a).2 v

/-! ### Steady operations -/

/-- The state `t` is the state `s` shifted, but for the marks that are put out of sight. -/
structure Shifted (P : Shift) (s t : State) : Prop where
  fits : Fits P s
  fits' : Fits P.clear t
  eq : P.clear.apply t = P.apply s

/-- An operation that makes shifted states of shifted states. -/
structure Steady (d : DiverterId) (f : State → State) : Prop where
  descends : ∀ s, Descends d s (f s)
  shifted : ∀ P s t, Shifted P s t → P.clear.apply (f t) = P.apply (f s)

theorem Steady.keeps {f : State → State} (h : Steady d f) (k : Shifted P s t) : Shifted P (f s) (f t) :=
  ⟨k.fits.descends (h.descends s), k.fits'.descends (h.descends t), h.shifted P s t k⟩

theorem Steady.comp {f g : State → State} (hg : Steady d g) (hf : Steady d f) : Steady d fun s => g (f s) :=
  ⟨fun s => (hf.descends s).trans (hg.descends (f s)), fun P s t k => hg.shifted P _ _ (hf.keeps k)⟩

theorem Steady.id : Steady d fun s => s := ⟨Descends.refl d, fun _ _ _ h => h.eq⟩

/-- An operation that no shift tells apart. -/
theorem Steady.of_exact {f : State → State} (hd : ∀ s, Descends d s (f s))
    (h : ∀ P s, Fits P s → f (P.apply s) = P.apply (f s)) : Steady d f :=
  ⟨hd, fun P s t k => by rw [← h P.clear t k.fits', k.eq, h P s k.fits]⟩

/-- What no shift tells apart decides which operation it is. -/
theorem Steady.choose {α : Type} {get : State → α} {f : α → State → State}
    (hget : ∀ (P : Shift) s, get (P.apply s) = get s) (h : ∀ x, Steady d (f x)) :
    Steady d fun s => f (get s) s := by
  refine ⟨fun s => (h _).descends s, fun P s t k => ?_⟩
  have same : get t = get s := by rw [← hget P.clear t, k.eq, hget]
  change P.clear.apply (f (get t) t) = P.apply (f (get s) s)
  rw [same]
  exact (h _).shifted P s t k

theorem Steady.foldl {α : Type} {f : State → α → State} (h : ∀ a, Steady d fun s => f s a) (l : List α) :
    Steady d fun s => l.foldl f s := by
  induction l with
  | nil => exact .id
  | cons a l ih => exact ih.comp (h a)

/-! ### The operations of a stroke -/

theorem Descends.of_blocks (h : t.blocks = s.blocks) : Descends d s t :=
  .of_lines (congrArg State.activeLayout h :) (congrArg State.module h :) (congrArg State.resetActive h :)
    (congrArg State.pending h :) (congrArg State.span h :) (congrArg State.spanCount h :)
    (fun x => (blocks_zone h x).1) (fun x => (blocks_zone h x).2)
    (fun x hx => by rwa [show t.diverters = s.diverters from (congrArg State.diverters h :)] at hx)
    (congrArg State.claims h :)

theorem steady_post (r : Report) : Steady d fun s => s.post r :=
  .of_exact (fun _ => .of_blocks rfl) fun P s _ => shift_post P s r

theorem steady_count (f : Counters → Counters) : Steady d fun s => s.count f :=
  .of_exact (fun _ => .of_blocks rfl) fun P s _ => shift_count P s f

theorem steady_settleZones : Steady d State.settleZones :=
  .of_exact (fun s => .of_blocks (settleZones_blocks s)) fun P s _ => shift_settleZones P s

theorem steady_chooseFrame : Steady d State.chooseFrame :=
  .of_exact (fun s => .of_blocks (chooseFrame_blocks s)) fun P s _ => shift_chooseFrame P s

theorem steady_supervise : Steady d State.supervise :=
  .of_exact (fun s => .of_blocks (supervise_blocks s)) fun P s _ => shift_supervise P s

theorem steady_rest : Steady d State.rest :=
  .of_exact (fun _ => .of_blocks rfl) fun P s _ => shift_rest P s

theorem steady_placeReply (kind seq : Byte) (body : List Byte) :
    Steady d fun s => s.placeReply kind seq (.fixed body) :=
  .of_exact (fun s => .of_blocks (placeReply_blocks s kind seq _)) fun P s _ => shift_placeReply P s kind seq body

theorem steady_fillSlot (reply : Frame) :
    Steady d fun s => { s with link := { s.link with slot := some reply } } :=
  .of_exact (fun s => .of_blocks (fillSlot_blocks s reply)) fun _ _ _ => rfl

theorem Descends.of_inputs (inputs : Inputs) : Descends d s { s with inputs := inputs } :=
  .of_lines rfl rfl rfl rfl rfl rfl (fun _ => rfl) (fun _ => rfl) (fun _ h => h) rfl

theorem steady_setHome (v : DiverterId) (level : Bool) : Steady d fun s => s.setHome v level :=
  .of_exact (fun _ => .of_inputs _) fun P s _ => shift_setHome P s v level

/-- Log entry 23: no inactive edge waits that would meet the end of a stroke. -/
theorem readHome_of_still (still : ∀ d : DiverterId, Instr.homeInactiveEdge d ∉ s.pending) (v : DiverterId) :
    s.readHome v = s := by
  refine if_neg fun leaving => ?_
  have waits := (Bool.and_eq_true_iff.1 leaving).2
  exact still v ((List.takeWhile_sublist _).subset (List.contains_iff_mem.1 waits))

theorem steady_readHome (v : DiverterId) : Steady d fun s => s.readHome v := by
  refine .of_exact (fun s => ?_) fun P s fits => ?_
  · unfold State.readHome
    split
    · exact .of_inputs _
    · exact .refl d s
  · rw [readHome_of_still fits.still, readHome_of_still fun _ => List.not_mem_nil]

theorem steady_modifyDiverter (v : DiverterId) {f : Diverter → Diverter}
    (slot : ∀ u x, (f u).slot = some x → u.slot = some x) : Steady d fun s => s.modifyDiverter v f := by
  refine .of_exact (fun s => ?_) fun P s _ => shift_modifyDiverter P s v f
  refine .of_lines rfl rfl rfl rfl rfl rfl (fun _ => rfl) (fun _ => rfl) (fun x hx => ?_) rfl
  by_cases hv : v = d
  · subst hv
    unfold State.modifyDiverter at hx
    simp only [Fin.getElem_fin, Vector.getElem_set_self] at hx
    exact slot _ x hx
  · unfold State.modifyDiverter at hx
    have hne : v.val ≠ d.val := fun h => hv (Fin.ext h)
    simp only [Fin.getElem_fin, Vector.getElem_set_ne _ _ hne] at hx
    exact hx

theorem steady_slotEmptied (v : DiverterId) (tag : Nat) : Steady d fun s => s.slotEmptied v tag := by
  have items (s : State) (x : ZoneId) : (s.slotEmptied v tag).zones[x] = { s.zones[x] with
      track := s.zones[x].track.map fun j => if j.tag = tag then s.backOnLine j else j } :=
    updateItem_zone (s.modifyDiverter v fun u => { u with slot := none }) tag s.backOnLine x
  have made (s : State) (j : Item) : Becomes s.zones j (if j.tag = tag then s.backOnLine j else j) := by
    split
    · exact ⟨rfl, rfl, rfl, rfl, rfl, .inr ⟨rfl, rfl, rfl⟩⟩
    · exact .refl s.zones j
  refine ⟨fun s => ?_, fun P s t k => ?_⟩
  · have emptied := (steady_modifyDiverter (d := d) v (f := fun u => { u with slot := none }) nofun).descends s
    refine ⟨rfl, rfl, rfl, rfl, rfl, rfl, fun x => by rw [items], fun x j hj => ?_, fun x i hi => .inr ?_,
      emptied.slot, fun v x hx => .inl hx⟩
    · rw [items] at hj
      obtain ⟨i, hi, rfl⟩ := List.mem_map.1 hj
      exact ⟨i, hi, made s i⟩
    · rw [items]
      exact ⟨_, List.mem_map_of_mem hi, made s i⟩
  · have cleared := shift_slotEmptied k.fits' v tag
    rw [k.eq] at cleared
    exact cleared.symm.trans (shift_slotEmptied k.fits v tag)

theorem reassign_descends (s : State) (tag : Nat) (excluded : Option DiverterId) :
    Descends d s (s.reassign tag excluded).1 := by
  rcases reassign_cases s tag excluded with ⟨-, h⟩ | ⟨i, hi, h⟩
  · rw [h]
    exact .refl d s
  · obtain ⟨mem, rfl⟩ := findItem_eq_some hi
    rw [h]
    generalize new : s.assignment i excluded = a
    have zone (x : ZoneId) : (s.writeClaim i a).zones[x] = { s.zones[x] with
        track := s.zones[x].track.map fun j => if j.tag = i.tag then { j with assigned := a } else j } :=
      updateItem_zone s i.tag _ x
    have made (j : Item) : Becomes s.zones j (if j.tag = i.tag then { j with assigned := a } else j) := by
      split
      · exact ⟨rfl, rfl, rfl, rfl, rfl, .inl ⟨rfl, rfl, rfl⟩⟩
      · exact .refl s.zones j
    refine ⟨rfl, rfl, rfl, rfl, rfl, rfl, fun x => by rw [zone], fun x j hj => ?_, fun x j hj => .inr ?_,
      fun _ h => h, fun v x hx => ?_⟩
    · rw [zone] at hj
      obtain ⟨k, hk, rfl⟩ := List.mem_map.1 hj
      exact ⟨k, hk, made k⟩
    · rw [zone]
      exact ⟨_, List.mem_map_of_mem hj, made j⟩
    · have claims : (s.writeClaim i a).claims = s.claimLists i a := rfl
      rw [claims, mem_claimLists] at hx
      split at hx
      · next he =>
        subst hx
        exact .inr ⟨i, mem, he.symm, assignment_serves new⟩
      · exact .inl hx

/-- R91, R117: an item is assigned afresh, and what becomes of it is reported. -/
theorem steady_reassign (tag : Nat) (excluded : Option DiverterId) (report : Option DiverterId → Report) :
    Steady d fun s => (s.reassign tag excluded).1.post (report (s.reassign tag excluded).2) := by
  refine .of_exact (fun s => (reassign_descends s tag excluded).trans (.of_blocks rfl)) fun P s fits => ?_
  rw [shift_reassign fits]
  exact shift_post P _ _

/-- R117. -/
theorem steady_returnItem (v : DiverterId) (cause : MissCause) : Steady d fun s => s.returnItem v cause := by
  refine .choose (get := fun s => s.diverters[v].slot)
    (f := fun slot s => match slot with
      | none => s
      | some tag => ((s.slotEmptied v tag).reassign tag (some v)).1.post
          (.missedDivert tag v cause ((s.slotEmptied v tag).reassign tag (some v)).2))
    (fun _ _ => rfl) fun slot => ?_
  cases slot with
  | none => exact .id
  | some tag =>
    exact (steady_reassign tag (some v) fun new => .missedDivert tag v cause new).comp
      (steady_slotEmptied v tag)

/-- R91. -/
theorem steady_reevaluate (v : DiverterId) : Steady d fun s => s.reevaluate v :=
  .choose (get := fun s => s.claims[v]) (f := fun tags s => tags.foldl (State.moveClaim v) s)
    (fun _ _ => rfl) fun tags => .foldl (fun tag => steady_reassign tag (some v) fun new => .claimMoved tag v new) tags

/-- R107. -/
theorem steady_enterFault (v : DiverterId) (cause : DiverterCause) : Steady d fun s => s.enterFault v cause := by
  have left : Steady d fun s => ((s.modifyDiverter v fun u =>
      { u with state := .fault, timer := none, testMark := false }).post
        (.diverterChange v .fault cause)).returnItem v .strokeFault :=
    (steady_returnItem v _).comp ((steady_post _).comp (steady_modifyDiverter v fun _ _ h => h))
  refine .choose (get := fun s => s.diverters[v].state.inService)
    (f := fun served s =>
      let t := (s.modifyDiverter v fun u =>
        { u with state := .fault, timer := none, testMark := false }).post (.diverterChange v .fault cause)
      if served then (t.returnItem v .strokeFault).reevaluate v else t.returnItem v .strokeFault)
    (fun _ _ => rfl) fun served => ?_
  cases served with
  | false => exact left
  | true => exact (steady_reevaluate v).comp left

/-- R121. -/
theorem steady_disableDiverter (v : DiverterId) : Steady d fun s => s.disableDiverter v := by
  have left : Steady d fun s => (s.modifyDiverter v fun u =>
      { u with state := .disabled, timer := none, testMark := false }).returnItem v .disabled :=
    (steady_returnItem v _).comp (steady_modifyDiverter v fun _ _ h => h)
  refine .choose (get := fun s => s.diverters[v].state)
    (f := fun state s =>
      if state = .disabled then s
      else
        let t := (s.modifyDiverter v fun u =>
          { u with state := .disabled, timer := none, testMark := false }).returnItem v .disabled
        if state.inService then t.reevaluate v else t)
    (fun _ _ => rfl) fun state => ?_
  by_cases disabled : state = .disabled
  · simp only [disabled, if_true]
    exact .id
  · simp only [disabled, if_false]
    cases state.inService with
    | false => exact left
    | true => exact (steady_reevaluate v).comp left

/-- R105. -/
theorem steady_enterRetracting (v : DiverterId) : Steady d fun s => s.enterRetracting v := by
  have begins (timer : Option Timer) : Steady d fun s =>
      s.modifyDiverter v fun u => { u with state := .retracting, timer := timer } :=
    steady_modifyDiverter v fun _ _ h => h
  have ends : Steady d fun s => s.retracted v := by
    have idle : Steady d fun s => s.modifyDiverter v fun u =>
        { u with state := .idle, timer := none, testMark := false } := steady_modifyDiverter v fun _ _ h => h
    refine .choose (get := fun s => s.diverters[v].testMark)
      (f := fun mark s =>
        let t := s.modifyDiverter v fun u => { u with state := .idle, timer := none, testMark := false }
        if mark then t.post (.diverterChange v .idle .testComplete) else t)
      (fun _ _ => rfl) fun mark => ?_
    cases mark with
    | false => exact idle
    | true => exact (steady_post _).comp idle
  refine .choose (get := fun s => (s.diverterTimer v DiverterDef.returnTimeout, s.inputs.homes[v]))
    (f := fun now s =>
      let t := s.modifyDiverter v fun u => { u with state := .retracting, timer := now.1 }
      if now.2 then t.retracted v else t)
    (fun _ _ => rfl) fun now => ?_
  obtain ⟨timer, home⟩ := now
  cases home with
  | false => exact begins timer
  | true => exact ends.comp (begins timer)

/-- R124. -/
theorem steady_withdrawStrokes : Steady d State.withdrawStrokes := by
  have withdraw (v : DiverterId) : Steady d fun s => s.withdrawStroke v := by
    refine .choose (get := fun s => s.diverters[v].state.driven)
      (f := fun driven s => if driven then (s.readHome v).enterRetracting v else s) (fun _ _ => rfl)
      fun driven => ?_
    cases driven with
    | false => exact .id
    | true => exact (steady_enterRetracting v).comp (steady_readHome v)
  exact .choose (get := fun s => allDiverters.filter fun v => s.diverters[v].state = .extending)
    (f := fun extending s =>
      extending.foldl (fun t v => t.returnItem v .estop) (allDiverters.foldl State.withdrawStroke s))
    (fun _ _ => rfl) fun extending =>
      (Steady.foldl (fun v => steady_returnItem v .estop) extending).comp (.foldl withdraw allDiverters)

/-- R124. -/
theorem steady_estop : Steady d (State.estopAtDiverters true) :=
  steady_withdrawStrokes.comp (f := fun s => { s with inputs := { s.inputs with estop := true } })
    (.of_exact (fun _ => .of_inputs _) fun _ _ _ => rfl)

/-- R34: the item of the slot is released. -/
theorem release_descends (slot : s.diverters[d].slot = some tag) : Descends d s (s.release tag) := by
  have track (x : ZoneId) : (s.release tag).zones[x].track = s.zones[x].track.filter fun j => j.tag != tag := by
    rw [release_track]
    simp [State.removeItem]
  refine ⟨rfl, rfl, rfl, rfl, rfl, rfl, fun x => ?_, fun x j hj => ?_, fun x i hi => ?_, fun x hx => ?_,
    fun v x hx => .inl ?_⟩
  · simp only [State.release, State.evaluatePoolLow, modifyReasons_zone]
    simp [State.removeItem]
  · rw [track] at hj
    exact ⟨j, (List.mem_filter.1 hj).1, .refl s.zones j⟩
  · by_cases he : i.tag = tag
    · exact .inl (he ▸ slot)
    · refine .inr ⟨i, ?_, .refl s.zones i⟩
      rw [track]
      exact List.mem_filter.2 ⟨hi, bne_iff_ne.2 he⟩
  · rw [release_diverter, slot] at hx
    simp at hx
  · rw [release_claim] at hx
    exact (List.mem_filter.1 hx).1

/-- R102: the end of a stroke, its timer and its item's reference read. -/
def State.strokeEnds (d : DiverterId) (reference : Option (BitVec 16)) (s : State) : State :=
  match s.diverters[d].slot with
  | none => s
  | some tag =>
    ((s.post (.diverted tag d reference)).count fun c => { c with diverted := c.diverted + 1 }).release tag

theorem steady_strokeEnds (reference : Option (BitVec 16)) : Steady d (State.strokeEnds d reference) := by
  refine .of_exact (fun s => ?_) fun P s _ => ?_ <;> unfold State.strokeEnds
  · cases slot : s.diverters[d].slot with
    | none => exact .refl d s
    | some tag =>
      exact (Descends.of_blocks (s := s) (t := (s.post (.diverted tag d reference)).count fun c =>
        { c with diverted := c.diverted + 1 }) rfl).trans (release_descends slot)
  · have same : (P.apply s).diverters = s.diverters := rfl
    rw [same]
    cases s.diverters[d].slot with
    | none => rfl
    | some tag =>
      exact shift_release P ((s.post (.diverted tag d reference)).count fun c =>
        { c with diverted := c.diverted + 1 }) tag

theorem completeStroke_strokeEnds (s : State) (d : DiverterId) : s.completeStroke d =
    (s.modifyDiverter d fun u => { u with state := .holding, timer := s.diverterTimer d DiverterDef.dwell }).strokeEnds d
      (s.diverters[d].slot.bind fun tag => (s.findItem tag).bind Item.reference) := by
  have slot : (s.modifyDiverter d fun u =>
      { u with state := .holding, timer := s.diverterTimer d DiverterDef.dwell }).diverters[d].slot =
      s.diverters[d].slot := by
    simp [State.modifyDiverter]
  unfold State.completeStroke State.strokeEnds
  rw [slot]
  cases s.diverters[d].slot with
  | none => rfl
  | some tag => rfl

/-- R102. -/
theorem steady_completeStroke : Steady d fun s => s.completeStroke d := by
  simp only [completeStroke_strokeEnds]
  refine .choose (get := fun s => (s.diverterTimer d DiverterDef.dwell,
      s.diverters[d].slot.bind fun tag => (s.findItem tag).bind Item.reference))
    (f := fun now s => (s.modifyDiverter d fun u => { u with state := .holding, timer := now.1 }).strokeEnds d now.2)
    (fun P s => ?_) fun now => ?_
  · have found : (s.diverters[d].slot.bind fun tag => ((P.apply s).findItem tag).bind Item.reference) =
        s.diverters[d].slot.bind fun tag => (s.findItem tag).bind Item.reference := by
      congr 1
      funext tag
      rw [shift_findItem]
      cases s.findItem tag with
      | none => rfl
      | some i => exact shift_item_reference i
    exact congrArg (Prod.mk _) found
  · exact (steady_strokeEnds now.2).comp (steady_modifyDiverter d fun _ _ h => h)

/-- R101, R102: the inactive edge at the diverter of the stroke. -/
theorem steady_homeInactive : Steady d (State.homeInactive d) := by
  have edge : Steady d fun s => s.setHome d false := steady_setHome d false
  refine .choose (get := fun s => s.diverters[d].state)
    (f := fun state s => match state with
      | .idle => (s.setHome d false).enterFault d .homeLost
      | .extending => (s.setHome d false).completeStroke d
      | .undefined | .settling | .holding | .retracting | .fault | .disabled => s.setHome d false)
    (fun _ _ => rfl) fun state => ?_
  cases state with
  | idle => exact (steady_enterFault d .homeLost).comp edge
  | extending => exact steady_completeStroke.comp edge
  | _ => exact edge

/-! ### The happenings of a stroke -/

/-- R2: a happening of which no shift changes whether it occurs. -/
theorem steady_happening {occurs : State → Bool} {effect : State → State}
    (ho : ∀ (P : Shift) s, occurs (P.apply s) = occurs s) (h : Steady d effect) :
    ∃ f, Steady d f ∧ ∀ s, happening (occurs s) effect s = .next (f s) := by
  refine ⟨fun s => if !s.resetActive && occurs s then (effect s).finish else s,
    .choose (get := fun s => !s.resetActive && occurs s)
      (f := fun now s => if now then (effect s).finish else s)
      (fun P s => congrArg (!s.resetActive && ·) (ho P s)) fun now => ?_, fun s => ?_⟩
  · cases now with
    | false => exact .id
    | true => exact steady_chooseFrame.comp (steady_settleZones.comp h)
  · unfold happening
    exact (apply_ite Host.Outcome.next _ _ _).symm

/-- R154, R156: a reply is composed when the zones are settled. -/
def answeredBy (kind seq : Byte) (r : State × Answer) : State := r.1.settleZones.placeReply kind seq r.2

/-- R154, R155: one frame, and none after it. -/
theorem handle_alone (s : State) (kind seq : Byte) (op : State → State × Answer) : s.handle kind seq op [] =
    if s.link.slot.isSome then s.supervise.countDiscard.settleZones
    else
      match s.retryReply seq with
      | some reply => { s.supervise.settleZones with
          link := { s.supervise.settleZones.link with slot := some reply } }
      | none => answeredBy kind seq (op s.supervise) := by
  unfold State.handle
  split
  · rfl
  · cases s.retryReply seq <;> rfl

/-- R119, R121: what a DISABLE_DIVERTER request does and answers, its checks taken. -/
def State.disableNamed (unconfigured : Bool) (named : Option DiverterId) (s : State) : State × Answer :=
  if unconfigured then (s, answer .wrongState [])
  else
    match named with
    | none => (s, answer .badField [])
    | some v => (s.disableDiverter v, answer .ok [(s.disableDiverter v).diverters[v].state.code])

theorem opDisableDiverter_named (b : Byte) (s : State) : opDisableDiverter [b] s =
    s.disableNamed (decide (s.module = .unconfigured)) (s.namedDiverter b) := by
  unfold opDisableDiverter diverterRequest State.disableNamed
  simp only [decide_eq_true_eq]
  split
  · rfl
  · cases s.namedDiverter b <;> rfl

theorem steady_answer (kind seq : Byte) (body : List Byte) :
    Steady d fun s => answeredBy kind seq (s, .fixed body) :=
  (steady_placeReply kind seq body).comp steady_settleZones

theorem steady_disableNamed (seq : Byte) (unconfigured : Bool) (named : Option DiverterId) :
    Steady d fun s => answeredBy 0x31#8 seq (s.disableNamed unconfigured named) := by
  unfold State.disableNamed
  cases unconfigured with
  | true => exact steady_answer _ seq _
  | false =>
    cases named with
    | none => exact steady_answer _ seq _
    | some v =>
      have replies : Steady d fun s => answeredBy 0x31#8 seq (s, answer .ok [s.diverters[v].state.code]) :=
        .choose (get := fun s => s.diverters[v].state)
          (f := fun state s => answeredBy 0x31#8 seq (s, answer .ok [state.code])) (fun _ _ => rfl)
          fun _ => steady_answer _ seq _
      exact replies.comp (steady_disableDiverter v)

/-- R119, R121: a DISABLE_DIVERTER request executed and answered. -/
theorem steady_opDisableDiverter (seq b : Byte) :
    Steady d fun s => answeredBy 0x31#8 seq (opDisableDiverter [b] s) := by
  simp only [opDisableDiverter_named]
  exact .choose (get := fun s => (decide (s.module = .unconfigured), s.namedDiverter b))
    (f := fun named s => answeredBy 0x31#8 seq (s.disableNamed named.1 named.2)) (fun _ _ => rfl)
    fun named => steady_disableNamed seq named.1 named.2

/-- R154 to R156: the frame of a DISABLE_DIVERTER request. -/
theorem steady_handleDisable (seq b : Byte) :
    Steady d fun s => s.handle 0x31#8 seq (opDisableDiverter [b]) [] := by
  simp only [handle_alone]
  refine .choose (get := fun s => (s.link.slot.isSome, s.retryReply seq))
    (f := fun link s =>
      if link.1 then s.supervise.countDiscard.settleZones
      else
        match link.2 with
        | some reply => { s.supervise.settleZones with
            link := { s.supervise.settleZones.link with slot := some reply } }
        | none => answeredBy 0x31#8 seq (opDisableDiverter [b] s.supervise))
    (fun _ _ => rfl) fun link => ?_
  obtain ⟨slot, retry⟩ := link
  cases slot with
  | true => exact steady_settleZones.comp ((steady_count _).comp steady_supervise)
  | false =>
    cases retry with
    | some reply => exact (steady_fillSlot reply).comp (steady_settleZones.comp steady_supervise)
    | none => exact (steady_opDisableDiverter seq b).comp steady_supervise

/-- R119, R121, R154 to R156: a DISABLE_DIVERTER request. -/
theorem steady_disable (seq b : Byte) :
    ∃ f, Steady d f ∧ ∀ s, exec (.disableDiverter seq [b]) s = .next (f s) := by
  refine ⟨fun s => if s.resetActive then s else (s.rest.handle 0x31#8 seq (opDisableDiverter [b]) []).chooseFrame,
    .choose (get := State.resetActive)
      (f := fun reset s => if reset then s else (s.rest.handle 0x31#8 seq (opDisableDiverter [b]) []).chooseFrame)
      (fun _ _ => rfl) fun reset => ?_, fun s => ?_⟩
  · cases reset with
    | true => exact .id
    | false => exact steady_chooseFrame.comp ((steady_handleDisable seq b).comp steady_rest)
  · exact (apply_ite Host.Outcome.next _ _ _).symm

/-- R102, R103, R121, R124: a happening of the stroke of diverter `d`. -/
def StrokeHappening (d : DiverterId) (c : Instr) : Prop :=
  c = .homeInactiveEdge d ∨ c = .strokeTimerExpiry d ∨ c = .estopChangeAtDiverters true ∨
    ∃ seq b, c = .disableDiverter seq [b]

/-- R188: no shift tells a happening of a stroke apart. -/
theorem StrokeHappening.steady {c : Instr} (h : StrokeHappening d c) :
    ∃ f, Steady d f ∧ ∀ s, exec c s = .next (f s) := by
  rcases h with rfl | rfl | rfl | ⟨seq, b, rfl⟩
  · exact steady_happening (occurs := fun s => s.inputs.homes[d]) (fun _ _ => rfl) steady_homeInactive
  · exact steady_happening (occurs := fun s => (s.strokeTimer d).any Timer.due) (fun _ _ => rfl)
      (steady_enterFault d .strokeTimeout)
  · exact steady_happening (occurs := fun _ => true) (fun _ _ => rfl) steady_estop
  · exact steady_disable seq b

end

end Sys2Proof.Machine
end

section
/-! PROOFS. An item that passes the points of the next zone in silence as it is transferred there (R7, R72, R98,
R188). -/

namespace Sys2Proof.Machine

set_option Elab.async false

/-! ### Windows in line order -/

section
variable {s : State} {l : Layout} {y z : ZoneId} {q : Nat} {e f : EyeId} {d c : EyeDef}
  {eyes passed : List EyeId} {next beyond : Option EyeId} {pts : List PassedPoint}

/-- R142, check 7: of two eyes of one zone, the one that lies downstream has its window downstream. -/
theorem windows_apart (hl : LayoutLaws s) (hd : s.activeLayout.eyes[e] = some d)
    (hc : s.activeLayout.eyes[f] = some c) (zone : d.zone = c.zone) (lower : d.position < c.position) :
    d.position + d.tolerance < c.position + c.tolerance := by
  obtain ⟨-, -, empty, valid⟩ := hl
  have configured : s.module ≠ .unconfigured := by
    intro hm
    rw [empty hm] at hd
    simp [Layout.empty] at hd
  have apart : ∀ a b : EyeId, a ≠ b → ¬ WindowsShare s.activeLayout a b :=
    (validate_none_iff s.activeLayout).1 (valid configured) 7 (by decide) (by decide)
  by_contra wider
  refine apart e f (fun he => ?_) ⟨d, hd, c, hc, zone, ?_, ?_⟩
  · rw [he, hc] at hd
    obtain rfl := Option.some.inj hd
    omega
  · omega
  · omega

/-- R61: the eyes after the first of a chain lie downstream of it. -/
theorem chain_downstream {P : EyeDef → Prop} (hd : l.eyes[e] = some d)
    (h : EyesWhile l P (l.eyeFollowing e) eyes beyond) :
    ∀ f ∈ eyes, ∃ c, l.eyes[f] = some c ∧ P c ∧ downstreamOf d.zone d.position c.zone c.position = true := by
  induction eyes generalizing e d with
  | nil => nofun
  | cons g eyes ih =>
    obtain ⟨first, ⟨b, hb, holds⟩, chain⟩ := h
    obtain ⟨b', hb', down, -⟩ := eyeFollowing_nearest hd first
    obtain rfl := Option.some.inj (hb'.symm.trans hb)
    intro f hf
    rcases List.mem_cons.1 hf with rfl | hf
    · exact ⟨_, hb, holds, down⟩
    · obtain ⟨c, hc, holds, beyond⟩ := ih hb chain f hf
      exact ⟨c, hc, holds, downstreamOf_trans down beyond⟩

theorem chain_holds {P : EyeDef → Prop} (h : EyesWhile l P next eyes beyond) :
    ∀ e ∈ eyes, ∃ d, l.eyes[e] = some d ∧ P d := by
  induction eyes generalizing next with
  | nil => nofun
  | cons f eyes ih =>
    obtain ⟨-, holds, chain⟩ := h
    intro e he
    rcases List.mem_cons.1 he with rfl | he
    · exact holds
    · exact ih chain e he

theorem chain_stops {P : EyeDef → Prop} (h : EyesWhile l P next eyes beyond) :
    ∀ e ∈ beyond, ∀ d, l.eyes[e] = some d → ¬ P d := by
  induction eyes generalizing next with
  | nil =>
    obtain ⟨rfl, stop⟩ := h
    exact stop
  | cons f eyes ih =>
    obtain ⟨-, -, chain⟩ := h
    exact ih chain

/-- R72: the next eye of an item that passes these points in silence. -/
def Layout.eyeAfter (l : Layout) : List PassedPoint → Option EyeId → Option EyeId
  | [], next => next
  | .windowEnd e :: pts, next => l.eyeAfter pts (if next = some e then l.eyeFollowing e else next)
  | .trigger _ :: pts, next => l.eyeAfter pts next

theorem eyeAfter_idle (h : ∀ e, .windowEnd e ∈ pts → next ≠ some e) : l.eyeAfter pts next = next := by
  induction pts with
  | nil => rfl
  | cons pt pts ih =>
    have later := ih fun e he => h e (List.mem_cons_of_mem _ he)
    cases pt with
    | trigger v => exact later
    | windowEnd e =>
      unfold Layout.eyeAfter
      rw [if_neg (h e List.mem_cons_self)]
      exact later

/-- R7, R72: the windows of a zone, passed lowest first, are the next eyes one after another. -/
theorem eyeAfter_chain (hl : LayoutLaws s)
    (sorted : pts.Pairwise fun a b => ∀ p ∈ pointIn s.activeLayout y a, ∀ q ∈ pointIn s.activeLayout y b, p ≤ q)
    (mem : ∀ e, .windowEnd e ∈ pts → ∃ d, s.activeLayout.eyes[e] = some d ∧ d.zone = y ∧
      d.position + d.tolerance + 1 ≤ q)
    (all : ∀ e ∈ passed, .windowEnd e ∈ pts) (low : q < s.activeLayout.zoneLength y)
    (chain : EyesWhile s.activeLayout (fun d => d.zone = y ∧ d.position + d.tolerance + 1 ≤ q) next passed
      beyond) : s.activeLayout.eyeAfter pts next = beyond := by
  induction pts generalizing next passed with
  | nil =>
    cases passed with
    | nil =>
      obtain ⟨rfl, -⟩ := chain
      rfl
    | cons e passed => exact nomatch all e List.mem_cons_self
  | cons pt pts ih =>
    obtain ⟨first, behind⟩ := List.pairwise_cons.1 sorted
    have mem' e (he : .windowEnd e ∈ pts) := mem e (List.mem_cons_of_mem _ he)
    cases pt with
    | trigger v =>
      refine ih behind mem' (fun e he => ?_) chain
      exact (List.mem_cons.1 (all e he)).resolve_left nofun
    | windowEnd e =>
      obtain ⟨d, hd, zone, ends⟩ := mem e List.mem_cons_self
      have at_ {f : EyeId} {c : EyeDef} (hc : s.activeLayout.eyes[f] = some c) (zone : c.zone = y)
          (ends : c.position + c.tolerance + 1 ≤ q) :
          pointIn s.activeLayout y (.windowEnd f) = some ((c.position : Int) + c.tolerance + 1) := by
        unfold pointIn
        dsimp only
        rw [hc, Option.filter_some, if_pos (by simp [zone]; omega), Option.map_some]
      unfold Layout.eyeAfter
      cases passed with
      | nil =>
        obtain ⟨rfl, stop⟩ := chain
        rw [if_neg fun he : beyond = some e => stop e he d hd ⟨zone, ends⟩]
        exact ih (passed := []) behind mem' nofun ⟨rfl, stop⟩
      | cons f passed =>
        obtain ⟨rfl, ⟨c, hc, holds, within⟩, rest⟩ := chain
        by_cases he : f = e
        · subst he
          rw [if_pos rfl]
          refine ih behind mem' (fun g hg => ?_) rest
          refine (List.mem_cons.1 (all g (List.mem_cons_of_mem _ hg))).resolve_left fun same => ?_
          obtain rfl := PassedPoint.windowEnd.inj same
          obtain ⟨b, hb, -, down⟩ := chain_downstream hc rest g hg
          obtain rfl := Option.some.inj (hb.symm.trans hc)
          simp [downstreamOf_iff] at down
        · rw [if_neg fun h => he (Option.some.inj h)]
          refine ih (passed := f :: passed) behind mem' (fun g hg => ?_) ⟨rfl, ⟨c, hc, holds, within⟩, rest⟩
          refine (List.mem_cons.1 (all g hg)).resolve_left fun same => ?_
          obtain rfl := PassedPoint.windowEnd.inj same
          have later := (List.mem_cons.1 hg).resolve_left (Ne.symm he)
          obtain ⟨b, hb, -, down⟩ := chain_downstream hc rest g later
          obtain rfl := Option.some.inj (hb.symm.trans hd)
          have here := (List.mem_cons.1 (all f List.mem_cons_self)).resolve_left fun same =>
            he (PassedPoint.windowEnd.inj same)
          have order := first _ here _ (at_ hd zone ends) _ (at_ hc holds within)
          rcases downstreamOf_iff.1 down with above | ⟨-, above⟩
          · rw [holds, zone] at above
            exact absurd above (lt_irrefl y)
          · have := windows_apart hl hc hd (holds.trans zone.symm) above
            omega

end

/-! ### An item that passes in silence -/

section
variable {s w : State} {y : ZoneId} {m : Item} {ahead_ : List Item} {pts : List PassedPoint} {rs : List Report}

/-- R7, R72, Table 6-2: nothing comes of the item at these points but that it passes its windows: it is
DIVERTING; or it is AT_RISK already, claims none of the diverters, and is due at none of the windows. -/
def PassesSilently (s : State) (m : Item) (pts : List PassedPoint) : Prop :=
  m.state = .diverting ∨ m.flags.atRisk = true ∧ m.state = .tracked ∧
    (∀ v, .trigger v ∈ pts → m.tag ∉ s.claims[v]) ∧ ∀ e, .windowEnd e ∈ pts → m.nextEye ≠ some e

theorem trigger_silent {d : DiverterId} {v : DiverterDef} (ht : s.zones[y].track = ahead_ ++ [m])
    (silent : m.state = .diverting ∨ m.flags.atRisk = true ∧ m.state = .tracked ∧ m.tag ∉ s.claims[d])
    (met : TriggerMet s y ahead_ [] m d v w rs) : rs = [] ∧ w = s := by
  obtain ⟨-, -, shadow, idle⟩ := met
  rcases silent with diverting | ⟨risk, tracked, absent⟩
  · exact idle (.inl (.inl diverting))
  · cases driven : s.diverters[d].state.driven with
    | false => exact idle (.inl (.inr ⟨absent, driven⟩))
    | true =>
      obtain ⟨none_, rfl⟩ := shadow tracked absent driven
      have same : m.markAtRisk = m := by
        unfold Item.markAtRisk
        rw [← risk]
      exact ⟨none_, by rw [same, withTrack_self ht]⟩

/-- R7, R72, R188: what a silent passage leaves. -/
theorem passes_silently (ht : s.zones[y].track = ahead_ ++ [m])
    (known : ∀ v, .trigger v ∈ pts → ∃ def_, s.activeLayout.diverters[v] = some def_)
    (silent : PassesSilently s m pts) (met : MetInTurn (pts.map fun pt => .point y m.tag pt) s w rs) :
    rs = [] ∧ w = s.withTrack y (ahead_ ++ [{ m with nextEye := s.activeLayout.eyeAfter pts m.nextEye }]) := by
  induction pts generalizing s m w rs with
  | nil =>
    obtain ⟨rfl, rfl⟩ := met
    exact ⟨rfl, (withTrack_self ht).symm⟩
  | cons pt pts ih =>
    obtain ⟨u, first, later, rfl, ⟨once, -⟩, rest⟩ := met
    have once := once ahead_ [] m ht rfl
    have known' v (hv : .trigger v ∈ pts) := known v (List.mem_cons_of_mem _ hv)
    have silent' : PassesSilently s m pts := silent.imp_right fun ⟨risk, tracked, absent, due⟩ =>
      ⟨risk, tracked, fun v hv => absent v (List.mem_cons_of_mem _ hv),
        fun e he => due e (List.mem_cons_of_mem _ he)⟩
    cases pt with
    | trigger d =>
      obtain ⟨v, hv⟩ := known d List.mem_cons_self
      obtain ⟨rfl, rfl⟩ := trigger_silent ht (silent.imp_right fun ⟨risk, tracked, absent, _⟩ =>
        ⟨risk, tracked, absent d List.mem_cons_self⟩) (once v hv)
      exact ih ht known' silent' rest
    | windowEnd e =>
      obtain ⟨other, passed, -⟩ := once
      unfold Layout.eyeAfter
      by_cases due : m.nextEye = some e
      · have diverting : m.state = .diverting :=
          silent.resolve_right fun ⟨_, _, _, away⟩ => away e List.mem_cons_self due
        obtain ⟨rfl, rfl⟩ := passed due (.inl diverting)
        rw [if_pos due]
        obtain ⟨rfl, rfl⟩ := ih (s := s.withTrack y (ahead_ ++ [{ m with nextEye := s.activeLayout.eyeFollowing e }]))
          (m := { m with nextEye := s.activeLayout.eyeFollowing e }) (track_withTrack s y _) known'
          (.inl diverting) rest
        exact ⟨rfl, withTrack_withTrack s y _ _⟩
      · obtain ⟨rfl, rfl⟩ := other due
        rw [if_neg due]
        exact ih ht known' silent' rest

end

end Sys2Proof.Machine
end

section
/-! PROOFS. The transfer of a DIVERTING item and the happenings of its stroke, in either order (R8, R31, R188, log
entry 25): the second part of `ZoneEndIsATransferOrAnExit`. -/

namespace Sys2Proof.Machine

set_option Elab.async false

section
variable {s u : State} {z y : ZoneId} {behind_ : List Item} {i j a : Item} {q : Nat} {clamped : Bool}
  {d v : DiverterId} {back : List Item}

/-! ### Counts -/

theorem advanced_place {c b : Count} (room : (c - b).toNat + 1 < 16777216) :
    (c + 1 - b).toNat = (c - b).toNat + 1 := by
  have moved : c + 1 - b = c - b + 1 := by ring
  rw [moved, BitVec.toNat_add]
  exact Nat.mod_eq_of_lt room

theorem placed_place {c : Count} {q : Nat} (room : q < 16777216) : (c - (c - BitVec.ofNat 24 q)).toNat = q := by
  rw [sub_sub_cancel, BitVec.toNat_ofNat]
  exact Nat.mod_eq_of_lt room

/-! ### A pulse that ends as it leaves the records -/

/-- R11, R162: a settled state whose transmitter rests, changed in its records and counts only. -/
theorem finish_idle {p : State} (reasons : HaltReasonLaws u) (link : LinkLaws u)
    (layout : p.activeLayout = u.activeLayout) (links : p.link = u.link) (reports : p.reports = u.reports)
    (marks : ∀ x : ZoneId, p.zones[x].reasons = u.zones[x].reasons ∧ p.zones[x].permit = u.zones[x].permit) :
    p.finish = p := by
  have settled : Settled p := by
    intro x
    obtain ⟨permit, -, -, downstream, -⟩ := reasons.1 x
    have held : p.heldDownstream x = u.heldDownstream x := by
      unfold State.heldDownstream State.zoneDefined
      simp only [layout, (marks _).1]
    rw [(marks x).1, (marks x).2, held]
    exact ⟨permit, downstream⟩
  have rests : p.Rests := by
    have rests := ((linkLaws_iff u).1 link).2
    unfold State.Rests State.sendable at rests ⊢
    rw [links, reports]
    exact rests
  unfold State.finish
  rw [settleZones_of_settled settled, chooseFrame_of_rests rests]

/-- A record that does not move is seen alike. -/
theorem clear_item_of_stays {P : Shift} (h : j.zone = P.home → P.moves j.tag = false) :
    P.clear.item j = P.item j := by
  rw [shift_clear_item]
  unfold Shift.item
  by_cases home : j.zone = P.home
  · rw [if_pos home, if_pos home, h home, if_neg nofun]
  · rw [if_neg home, if_neg home]

theorem pulsed_zone (s : State) (z x : ZoneId) : (s.pulsed z).zones[x] = { s.zones[x] with
    count := if x = z then s.zones[x].count + 1 else s.zones[x].count } := by
  unfold State.pulsed
  rw [getElem_set_fin]
  by_cases hx : z = x
  · subst hx
    rw [if_pos rfl, if_pos rfl]
  · rw [if_neg hx, if_neg (Ne.symm hx)]

theorem carriesOn_same {after : Option EyeId} {k : Item} {meets : Prop} (carries : CarriesOn u y q meets after j k) :
    k.state = j.state ∧ k.tag = j.tag ∧ k.flags = j.flags := by
  by_cases hm : meets
  · obtain ⟨_, _, _, rfl⟩ := carries.2 hm
    exact ⟨rfl, rfl, rfl⟩
  · rw [carries.1 hm]
    exact ⟨rfl, rfl, rfl⟩

/-- The record of an item marked AT_RISK, or not. -/
theorem marked_same (k : Item) (clamped : Bool) :
    (if clamped then k.markAtRisk else k) =
      { k with flags := { k.flags with atRisk := k.flags.atRisk || clamped } } := by
  cases clamped with
  | false => exact congrArg (fun b => { k with flags := { k.flags with atRisk := b } }) (Bool.or_false _).symm
  | true => exact congrArg (fun b => { k with flags := { k.flags with atRisk := b } }) (Bool.or_true _).symm

/-- R7, R72: the item comes to the points of the next zone, and is left with its windows there passed. -/
theorem transfer_silently {m : Item} {w : State} {rs : List Report} {pts : List PassedPoint}
    (layout : u.activeLayout = s.activeLayout)
    (count : (u.pulsed z).zones[y].count = s.zones[y].count) (tag : m.tag = j.tag)
    (between : PointsBetween s.activeLayout y (-1) q pts) (silent : PassesSilently u m pts)
    (met : MetInTurn (pts.map fun pt => .point y j.tag pt) ((u.pulsed z).joined z y back m q) w rs) :
    rs = [] ∧ w = ((u.pulsed z).withTrack z back).withTrack y ((u.pulsed z).zones[y].track ++
      [{ m with
        zone := y, base := s.zones[y].count - BitVec.ofNat 24 q
        nextEye := s.activeLayout.eyeAfter pts m.nextEye }]) := by
  unfold State.joined at met
  rw [count, ← tag] at met
  generalize hv : ((u.pulsed z).withTrack z back).withTrack y ((u.pulsed z).zones[y].track ++
    [{ m with zone := y, base := s.zones[y].count - BitVec.ofNat 24 q }]) = v at met
  have claims : v.claims = u.claims := by rw [← hv]; rfl
  have same : v.activeLayout = s.activeLayout := by rw [← hv, ← layout]; rfl
  have track : v.zones[y].track = (u.pulsed z).zones[y].track ++
      [{ m with zone := y, base := s.zones[y].count - BitVec.ofNat 24 q }] := by
    rw [← hv, track_withTrack]
  have passes : PassesSilently v { m with zone := y, base := s.zones[y].count - BitVec.ofNat 24 q } pts := by
    unfold PassesSilently at silent ⊢
    rw [claims]
    exact silent
  have known (d : DiverterId) (hd : .trigger d ∈ pts) : ∃ f, v.activeLayout.diverters[d] = some f := by
    obtain ⟨-, -, triggers, -⟩ := between
    obtain ⟨p, hp, -⟩ := (triggers d).1 hd
    obtain ⟨f, hf, -⟩ := Option.map_eq_some_iff.1 hp
    rw [same]
    exact ⟨f, (Option.filter_eq_some_iff.1 hf).1⟩
  obtain ⟨none_, left⟩ := passes_silently track known passes met
  refine ⟨none_, ?_⟩
  rw [left, same, ← hv, withTrack_withTrack]

/-- The zones with the head of one moved to the tail of another. -/
theorem moved_zone (u : State) (z y x : ZoneId) (back joined : List Item) :
    (((u.pulsed z).withTrack z back).withTrack y joined).zones[x] = { u.zones[x] with
      count := if x = z then u.zones[x].count + 1 else u.zones[x].count
      track := if x = y then joined else if x = z then back else u.zones[x].track } := by
  rw [zone_withTrack, zone_withTrack, pulsed_zone]
  simp only [eq_comm (a := y), eq_comm (a := z)]

/-! ### The transfer as a shift -/

/-- R8, R31, R188: the transfer of item `i` by a pulse of zone `z`, to position `q` of zone `y`. -/
def State.transfer (s : State) (z y : ZoneId) (next : y.val = z.val + 1) (i : Item) (q : Nat)
    (clamped : Bool) : Shift where
  home := z
  next := y
  follows := next
  moves := fun tag => tag == i.tag
  pulses := 1
  span := if z = 0 ∧ s.span = .measuring then 1 else 0
  base := s.zones[y].count - BitVec.ofNat 24 q
  left := s.zones[z].count
  met := s.zones[y].count
  eyes := s.activeLayout.eyePast z y q 12
  clamped := clamped

/-- R8, R31: the next pulse of zone `z` transfers the DIVERTING item `i` to position `q` of zone `y`, and brings
about nothing else. -/
structure Transferring (s : State) (z y : ZoneId) (behind : List Item) (i : Item) (q : Nat)
    (clamped : Bool) : Prop where
  layout : LayoutLaws s
  lawful : Lawful s
  tracks : TrackLaws s
  configured : s.module ≠ .unconfigured
  reset : s.resetActive = false
  track : s.zones[z].track = i :: behind
  diverting : i.state = .diverting
  edge : s.position i + 1 = s.activeLayout.zoneLength z
  next : y.val = z.val + 1
  used : s.activeLayout.zones[y].isSome = true
  place : clampAtTail (s.tailPosition y) (s.activeLayout.entryOffset y) = some (q, clamped)
  ahead : ∀ v f, s.activeLayout.diverters[v] = some f → f.zone = y →
    Serves s.activeLayout i.destination v → f.lead + s.activeLayout.entryOffset y < f.firePosition
  windows : ∀ j ∈ behind, ∀ e : EyeId,
    pointIn s.activeLayout z (.windowEnd e) ≠ some ((s.position j : Int) + 1)
  triggers : ∀ j ∈ behind, ∀ v : DiverterId,
    pointIn s.activeLayout z (.trigger v) ≠ some ((s.position j : Int) + 1)
  span : z = 0 → s.span = .measuring → s.spanCount ≠ s.activeLayout.line.maxLength

section
variable (h : Transferring s z y behind_ i q clamped)
include h

theorem Transferring.apart : y ≠ z := fun he => by
  have := h.next
  rw [he] at this
  omega

theorem Transferring.room : q < 16777216 := by
  have low := (clampAtTail_below h.place).1
  have bound := (entryOffset_lt h.layout.2.1 h.used).2
  omega

theorem Transferring.mem : i ∈ s.zones[z].track := by rw [h.track]; simp

theorem Transferring.zone : i.zone = z := h.lawful.booked.pool.zone z i h.mem

/-- R29: the item is ahead of the others of its zone. -/
theorem Transferring.behind (hj : j ∈ behind_) : s.position j < s.position i ∧ j.zone = z ∧ j.tag ≠ i.tag := by
  have falls := (h.tracks.1 z).1
  rw [h.track, List.map_cons, List.pairwise_cons] at falls
  exact ⟨falls.1 _ (List.mem_map_of_mem hj),
    h.lawful.booked.pool.zone z j (by rw [h.track]; exact List.mem_cons_of_mem _ hj),
    (h.lawful.booked.pool.apart (front := []) h.track).2.1 j hj⟩

/-- R29, R31: the place of the transfer is behind every item of the zone. -/
theorem Transferring.above (hj : j ∈ s.zones[y].track) : q < s.position j := by
  have falls := (h.tracks.1 y).1
  obtain ⟨-, below⟩ := clampAtTail_below h.place
  cases hl : s.zones[y].track.getLast? with
  | none =>
    rw [List.getLast?_eq_none_iff.1 hl] at hj
    cases hj
  | some t =>
    have tail : q < s.position t := below _ (by
      unfold State.tailPosition
      rw [hl]
      rfl)
    obtain ⟨front, split⟩ := List.getLast?_eq_some_iff.1 hl
    rw [split, List.map_append, List.pairwise_append] at falls
    rw [split] at hj
    rcases List.mem_append.1 hj with hj | hj
    · have := falls.2.2 _ (List.mem_map_of_mem hj) (s.position t) (by simp)
      omega
    · rw [List.mem_singleton.1 hj]
      exact tail

theorem Transferring.below (x : ZoneId) (hj : j ∈ s.zones[x].track) : s.position j + 1 < 16777216 := by
  have := (h.tracks.1 x).2 j hj
  have := zoneLength_le h.layout.2.1 x
  omega

/-- R5, R8: where each item stands after the transfer. -/
theorem Transferring.places (ha : a ∈ s.lineItems) :
    let P := s.transfer z y h.next i q clamped
    (a = i ∧ (P.item a).zone = y ∧ (P.apply s).position (P.item a) = q) ∨
    (a ∈ behind_ ∧ (P.item a).zone = z ∧ (P.apply s).position (P.item a) = s.position a + 1) ∨
    a.zone ≠ z ∧ (P.item a).zone = a.zone ∧ (P.apply s).position (P.item a) = s.position a ∧
      (a.zone = y → q < s.position a) := by
  intro P
  obtain ⟨x, hx⟩ := mem_lineItems.1 ha
  have zone := h.lawful.booked.pool.zone x a hx
  subst zone
  have count (x : ZoneId) (hx : x ≠ z) : (P.apply s).zones[x].count = s.zones[x].count := by
    rw [shift_zone]
    exact if_neg hx
  by_cases home : a.zone = z
  · have now : (P.apply s).zones[z].count = s.zones[z].count + 1 := by
      rw [shift_zone]
      exact if_pos rfl
    have here : a ∈ s.zones[z].track := by
      have same : s.zones[a.zone].track = s.zones[z].track := congrArg (fun x : ZoneId => s.zones[x].track) home
      rwa [same] at hx
    have here' := here
    rw [h.track] at here
    rcases List.mem_cons.1 here with rfl | back
    · have moved : P.item a = _ := (if_pos home).trans (if_pos (beq_self_eq_true a.tag))
      have zone : (P.item a).zone = y := congrArg Item.zone moved
      have base : (P.item a).base = s.zones[y].count - BitVec.ofNat 24 q := congrArg Item.base moved
      refine .inl ⟨rfl, zone, ?_⟩
      have there : (P.apply s).zones[(P.item a).zone].count = s.zones[y].count :=
        (congrArg (fun x : ZoneId => (P.apply s).zones[x].count) zone).trans (count y h.apart)
      unfold State.position
      rw [there, base]
      exact placed_place h.room
    · obtain ⟨-, -, other⟩ := h.behind back
      have stays : P.item a = { a with returnedAt := none } :=
        (if_pos home).trans (if_neg fun he => other (eq_of_beq he))
      have zone : (P.item a).zone = z := (congrArg Item.zone stays).trans home
      have base : (P.item a).base = a.base := (congrArg Item.base stays :)
      refine .inr (.inl ⟨back, zone, ?_⟩)
      have there : (P.apply s).zones[(P.item a).zone].count = s.zones[a.zone].count + 1 :=
        ((congrArg (fun x : ZoneId => (P.apply s).zones[x].count) zone).trans now).trans
          (congrArg (fun x : ZoneId => s.zones[x].count + 1) home.symm)
      have bound := h.below z here'
      unfold State.position at bound ⊢
      rw [there, base]
      exact advanced_place bound
  · have same : P.item a = a := if_neg home
    refine .inr (.inr ⟨home, by rw [same], ?_, fun hy => ?_⟩)
    · rw [same]
      unfold State.position
      rw [count _ home]
    · have same : s.zones[a.zone].track = s.zones[y].track := congrArg (fun x : ZoneId => s.zones[x].track) hy
      exact h.above (same ▸ hx)

/-- R5, R8: where each item stands after the transfer, in numbers. -/
theorem Transferring.numbers (ha : a ∈ s.lineItems) :
    let P := s.transfer z y h.next i q clamped
    (a.zone.val = z.val ∧ s.position a = s.position i ∧ (P.item a).zone.val = y.val ∧
      (P.apply s).position (P.item a) = q) ∨
    (a.zone.val = z.val ∧ s.position a < s.position i ∧ (P.item a).zone.val = z.val ∧
      (P.apply s).position (P.item a) = s.position a + 1) ∨
    a.zone.val ≠ z.val ∧ (P.item a).zone.val = a.zone.val ∧
      (P.apply s).position (P.item a) = s.position a ∧ (a.zone.val = y.val → q < s.position a) := by
  intro P
  rcases h.places ha with ⟨rfl, zone, place⟩ | ⟨back, zone, place⟩ | ⟨home, zone, place, low⟩
  · exact .inl ⟨congrArg _ h.zone, rfl, congrArg _ zone, place⟩
  · obtain ⟨less, at_, -⟩ := h.behind back
    exact .inr (.inl ⟨congrArg _ at_, less, congrArg _ zone, place⟩)
  · exact .inr (.inr ⟨fun he => home (Fin.ext he), congrArg _ zone, place, fun he => low (Fin.ext he)⟩)

/-- R87, R84: the transfer keeps the line order, and what lies ahead of each item on its way. -/
theorem Transferring.fits (still : ∀ d : DiverterId, Instr.homeInactiveEdge d ∉ s.pending) :
    Fits (s.transfer z y h.next i q clamped) s where
  order a ha b hb := by
    have next := h.next
    have fa := h.numbers ha
    have fb := h.numbers hb
    rw [Bool.eq_iff_iff]
    unfold State.precedes
    rw [downstreamOf_iff, downstreamOf_iff]
    simp only [Fin.lt_def, Fin.ext_iff] at fa fb ⊢
    omega
  ahead a ha v serves := by
    have place' : s.place a.zone a = s.position a := rfl
    have layout : ((s.transfer z y h.next i q clamped).apply s).activeLayout = s.activeLayout := rfl
    have place (j : Item) : ((s.transfer z y h.next i q clamped).apply s).place j.zone j =
        ((s.transfer z y h.next i q clamped).apply s).position j := rfl
    unfold State.liesAhead
    rw [place, place', layout]
    cases hv : s.activeLayout.diverters[v] with
    | none => rfl
    | some f =>
      rw [Option.any_some, Option.any_some, decide_eq_decide]
      have next := h.next
      obtain ⟨inside, lead⟩ := diverter_inside h.layout hv
      have here (he : f.zone.val = z.val) : f.firePosition < s.position i + 1 := by
        rw [h.edge, ← Fin.ext he]
        exact inside
      have there (he : f.zone.val = y.val) (serves : Serves s.activeLayout i.destination v) :
          f.lead + q < f.firePosition := by
        have := h.ahead v f hv (Fin.ext he) serves
        have := (clampAtTail_below h.place).1
        omega
      have off (hb : a ∈ behind_) (he : f.zone.val = z.val) : f.firePosition ≠ s.position a + 1 + f.lead := by
        intro at_
        refine h.triggers a hb v ?_
        unfold pointIn
        dsimp only
        rw [hv, Option.filter_some, if_pos (decide_eq_true (Fin.ext he)), Option.map_some, at_]
        push_cast
        ring_nf
      rcases h.places ha with ⟨rfl, zone, place⟩ | ⟨back, zone, place⟩ | ⟨home, zone, place, -⟩
      · have there := fun he => there he serves
        have home := h.zone
        rw [zone, place]
        simp only [Fin.lt_def, Fin.ext_iff] at home ⊢
        omega
      · have off := off back
        have home := (h.behind back).2.1
        rw [zone, place]
        simp only [Fin.lt_def, Fin.ext_iff] at home ⊢
        omega
      · rw [zone, place]
  still := still
  counts x _ := ⟨rfl, rfl⟩

/-- R72, R188: the windows that the transfer takes the item past, whether they are passed one by one as it
comes to them, or at once. -/
theorem Transferring.eyes {pts : List PassedPoint} {eyes : List EyeId} {after : Option EyeId} {k : Item}
    {meets : Prop} (between : PointsBetween s.activeLayout y (-1) q pts)
    (due : EyesStillDue s.activeLayout z j.nextEye eyes after) (same : u.activeLayout = s.activeLayout)
    (carries : CarriesOn u y q meets after j k) :
    s.activeLayout.eyeAfter pts k.nextEye = s.activeLayout.eyePast z y q 12 j.nextEye ∧
      (meets → ∀ e, .windowEnd e ∈ pts → k.nextEye ≠ some e) := by
  obtain ⟨-, windows, -, sorted⟩ := between
  have next := h.next
  have low : q < s.activeLayout.zoneLength y := by
    have := (clampAtTail_below h.place).1
    have := (entryOffset_lt h.layout.2.1 h.used).1
    omega
  obtain ⟨passed, beyond, chain, -⟩ := eyesWhile_exists s.activeLayout
    (fun d => d.zone = y ∧ d.position + d.tolerance + 1 ≤ q) after
  have whole := eyesWhile_append (Fin.lt_def.2 (by omega)) due chain
  have past := eyePast_while whole (eyesWhile_length whole)
  have at_ (e : EyeId) : .windowEnd e ∈ pts ↔ ∃ d, s.activeLayout.eyes[e] = some d ∧ d.zone = y ∧
      d.position + d.tolerance + 1 ≤ q := by
    rw [windows]
    unfold pointIn
    dsimp only
    constructor
    · rintro ⟨p, hp, -, high⟩
      obtain ⟨d, hd, rfl⟩ := Option.map_eq_some_iff.1 hp
      obtain ⟨hd, inside⟩ := Option.filter_eq_some_iff.1 hd
      exact ⟨d, hd, (of_decide_eq_true inside).1, by omega⟩
    · rintro ⟨d, hd, zone, high⟩
      refine ⟨_, Option.map_eq_some_iff.2 ⟨d, ?_, rfl⟩, by omega, by omega⟩
      exact Option.filter_eq_some_iff.2 ⟨hd, decide_eq_true ⟨zone, by omega⟩⟩
  have away (e : EyeId) (he : .windowEnd e ∈ pts) : beyond ≠ some e := fun hb => by
    obtain ⟨d, hd, inside⟩ := (at_ e).1 he
    exact chain_stops chain e hb d hd inside
  rw [past]
  obtain ⟨plain, met⟩ := carries
  by_cases meets_ : meets
  · obtain ⟨passed', beyond', chain', rfl⟩ := met meets_
    rw [same] at chain'
    obtain ⟨-, rfl⟩ := eyesWhile_unique chain' chain
    exact ⟨eyeAfter_idle away, fun _ => away⟩
  · rw [plain meets_]
    refine ⟨eyeAfter_chain h.layout sorted (fun e he => (at_ e).1 he) (fun e he => ?_) low chain,
      fun hm => absurd hm meets_⟩
    exact (at_ e).2 (chain_holds chain e he)

end

/-! ### What a happening of the stroke leaves -/

/-- R188: the state `u`, reached from `s` by a happening of the stroke of diverter `d`, or by none. -/
structure Reached (d : DiverterId) (i : Item) (s u : State) : Prop where
  slot : s.diverters[d].slot = some i.tag
  descends : Descends d s u
  layout : LayoutLaws u
  reasons : HaltReasonLaws u
  lawful : Lawful u
  tracks : TrackLaws u
  link : LinkLaws u

section
variable (h : Transferring s z y behind_ i q clamped) (r : Reached d i s u)
include h r

theorem Reached.position (made : Becomes s.zones a j) : u.position j = s.position a :=
  position_congr r.descends.counts made.zone made.base

/-- R29: the other items of the zone are those that were behind. -/
theorem Reached.behind (hj : j ∈ u.zones[z].track) (other : j.tag ≠ i.tag) :
    ∃ a ∈ behind_, Becomes s.zones a j := by
  obtain ⟨a, ha, made⟩ := r.descends.items z j hj
  rw [h.track] at ha
  refine ⟨a, (List.mem_cons.1 ha).resolve_left fun he => other ?_, made⟩
  rw [made.tag, he]

theorem Reached.item (hj : j ∈ u.zones[z].track) (tag : j.tag = i.tag) : Becomes s.zones i j := by
  obtain ⟨a, ha, made⟩ := r.descends.items z j hj
  obtain rfl := h.lawful.booked.pool.eq_of_tag (mem_lineItems.2 ⟨z, ha⟩) (mem_lineItems.2 ⟨z, h.mem⟩)
    (made.tag.symm.trans tag)
  exact made

theorem Reached.zoneUsed : u.activeLayout.zones[z].isSome = true := by
  rw [r.descends.layout]
  have edge := h.edge
  unfold Layout.zoneLength at edge
  cases hz : s.activeLayout.zones[z] with
  | none =>
    rw [hz] at edge
    exact absurd edge (Nat.succ_ne_zero _)
  | some f => rfl

theorem Reached.pulsed_place (hj : j ∈ u.zones[z].track) : (u.pulsed z).place z j = u.position j + 1 := by
  have bound : u.position j + 1 < 16777216 := by
    have := (r.tracks.1 z).2 j hj
    have := zoneLength_le r.layout.2.1 z
    omega
  have count : (u.pulsed z).zones[z].count = u.zones[z].count + 1 := by
    unfold State.pulsed
    simp
  rw [← r.lawful.booked.pool.place_eq hj] at bound ⊢
  unfold State.place at bound ⊢
  rw [count]
  exact advanced_place bound

/-- R6: the pulse brings nothing about for the other items of the zone. -/
theorem Reached.nothing (hj : j ∈ u.zones[z].track) (other : j.tag ≠ i.tag) :
    NothingAt u z ((u.pulsed z).place z j) j := by
  obtain ⟨a, ha, made⟩ := r.behind h hj other
  have below := (h.behind ha).1
  have edge := h.edge
  rw [r.pulsed_place h hj, r.position h made]
  unfold NothingAt
  rw [r.descends.layout]
  refine ⟨by omega, fun e _ ends => ?_, fun v at_ => ?_⟩
  · obtain ⟨f, hf, zone, at_⟩ := ends
    refine h.windows a ha e ?_
    unfold pointIn
    dsimp only
    rw [Option.mem_def.1 hf, Option.filter_some, if_pos (decide_eq_true ⟨zone, by omega⟩), Option.map_some]
    congr 1
    omega
  · obtain ⟨f, hf, zone, at_⟩ := at_
    refine absurd ?_ (h.triggers a ha v)
    unfold pointIn
    dsimp only
    rw [Option.mem_def.1 hf, Option.filter_some, if_pos (decide_eq_true zone), Option.map_some]
    congr 1
    omega

theorem Reached.short : z = 0 → u.span = .measuring → u.spanCount ≠ u.activeLayout.line.maxLength := by
  rw [r.descends.span, r.descends.spanCount, r.descends.layout]
  exact h.span

/-- R29: the item, while it is in line, is the head of its zone. -/
theorem Reached.head (hj : j ∈ u.zones[z].track) (tag : j.tag = i.tag) : ∃ back, u.zones[z].track = j :: back := by
  obtain ⟨front, back, split⟩ := List.append_of_mem hj
  cases front with
  | nil => exact ⟨back, split⟩
  | cons f front =>
    have falls := (r.tracks.1 z).1
    rw [split, List.cons_append, List.map_cons, List.pairwise_cons] at falls
    have above := falls.1 (u.position j) (by simp)
    have first : f ∈ u.zones[z].track := by rw [split]; simp
    have other : f.tag ≠ i.tag := by
      rw [← tag]
      exact (r.lawful.booked.pool.apart split).1 f List.mem_cons_self
    obtain ⟨a, ha, made⟩ := r.behind h first other
    have below := (h.behind ha).1
    rw [r.position h made, r.position h (r.item h hj tag)] at above
    omega

/-- R31: the tail of the next zone stands where it stood. -/
theorem Reached.tail : u.tailPosition y = s.tailPosition y := by
  have same : u.zones[y].track.map u.position = s.zones[y].track.map s.position := by
    refine List.Pairwise.eq_of_mem_iff (r.tracks.1 y).1 (h.tracks.1 y).1 fun p => ⟨fun hp => ?_, fun hp => ?_⟩
    · obtain ⟨j, hj, rfl⟩ := List.mem_map.1 hp
      obtain ⟨a, ha, made⟩ := r.descends.items y j hj
      exact List.mem_map.2 ⟨a, ha, (r.position h made).symm⟩
    · obtain ⟨a, ha, rfl⟩ := List.mem_map.1 hp
      rcases r.descends.stay y a ha with slot | ⟨j, hj, made⟩
      · rw [r.slot] at slot
        exact absurd (Option.some.inj slot).symm
          ((h.lawful.booked.pool.apart (front := []) h.track).2.2 y h.apart a ha)
      · exact List.mem_map.2 ⟨j, hj, r.position h made⟩
  unfold State.tailPosition
  rw [← List.getLast?_map, ← List.getLast?_map, same]

/-! ### The pulse -/

/-- R4, R8, R11: a pulse that leaves these tracks is the shift. -/
theorem Reached.shifted {p : State} {tracks : ZoneId → List Item}
    (zones : ∀ x : ZoneId, p.zones[x] = { u.zones[x] with
      count := if x = z then u.zones[x].count + 1 else u.zones[x].count, track := tracks x })
    (same : { u with zones := p.zones, spanCount := (u.pulsed z).spanCount, freeIndex := p.freeIndex } = p)
    (made : ∀ x, (tracks x).map (s.transfer z y h.next i q clamped).clear.item =
      ((s.transfer z y h.next i q clamped).held u.zones x).map (s.transfer z y h.next i q clamped).item)
    (pulse : u.pulse z = p) :
    exec (.encoderPulse z) u = .next p ∧
      (s.transfer z y h.next i q clamped).clear.apply p = (s.transfer z y h.next i q clamped).apply u := by
  have idle : p.finish = p := by
    refine finish_idle r.reasons r.link ?_ ?_ ?_ fun x => by rw [zones]; exact ⟨rfl, rfl⟩
    exacts [(congrArg State.activeLayout same :).symm, (congrArg State.link same :).symm,
      (congrArg State.reports same :).symm]
  refine ⟨?_, clear_eq_apply (fun x => ?_) (fun x => ?_) ?_⟩
  · change happening true (State.pulse z) u = _
    unfold happening
    rw [r.descends.reset, h.reset, pulse, idle]
    rfl
  · rw [zones]
    exact made x
  · rw [zones]
    rfl
  · have span : u.spanCount + (s.transfer z y h.next i q clamped).span = (u.pulsed z).spanCount := by
      unfold State.transfer State.pulsed
      dsimp only
      rw [r.descends.span]
      split <;> rfl
    have pending : p.pending = u.pending := (congrArg State.pending same :).symm
    unfold Shift.apply
    rw [span, pending]
    exact same

theorem Reached.stays (gone : ∀ j ∈ u.zones[z].track, j.tag ≠ i.tag) {x : ZoneId} (hj : j ∈ u.zones[x].track) :
    (s.transfer z y h.next i q clamped).clear.item j = (s.transfer z y h.next i q clamped).item j := by
  refine clear_item_of_stays fun home => beq_false_of_ne (gone j ?_)
  have here := r.lawful.booked.pool.zone x j hj
  have same : x = z := here.symm.trans home
  exact same ▸ hj

theorem Reached.others (gone : ∀ j ∈ u.zones[z].track, j.tag ≠ i.tag) (x : ZoneId) :
    (s.transfer z y h.next i q clamped).held u.zones x = u.zones[x].track := by
  have stay : (u.zones[z].track.filter fun j => !(j.tag == i.tag)) = u.zones[z].track :=
    List.filter_eq_self.2 fun j hj => by simpa using gone j hj
  have move : (u.zones[z].track.filter fun j => j.tag == i.tag) = [] :=
    List.filter_eq_nil_iff.2 fun j hj => by simpa using gone j hj
  unfold Shift.held State.transfer
  dsimp only
  rw [move, List.append_nil]
  split_ifs with home
  · rw [home]
    exact stay
  · rfl
  · rfl

/-- R4, R35: the pulse, where the item has been released. -/
theorem Reached.released (gone : ∀ j ∈ u.zones[z].track, j.tag ≠ i.tag) :
    ∃ p, exec (.encoderPulse z) u = .next p ∧
      (s.transfer z y h.next i q clamped).clear.apply p = (s.transfer z y h.next i q clamped).apply u := by
  have configured : u.module ≠ .unconfigured := by
    rw [r.descends.module]
    exact h.configured
  have pulse := pulse_quiet r.lawful.booked.pool configured (r.zoneUsed h)
    ⟨fun j hj => r.nothing h hj (gone j hj), r.short h⟩
  refine ⟨u.pulsed z, r.shifted h (tracks := fun x => u.zones[x].track) (fun x => ?_) rfl (fun x => ?_) pulse⟩
  · rw [pulsed_zone]
  · rw [r.others h gone]
    exact List.map_congr_left fun j hj => r.stays h gone hj

/-! ### The item in line -/

theorem Reached.tailPlace : ((u.pulsed z).zones[y].track.getLast?.map ((u.pulsed z).place y)) = s.tailPosition y := by
  have same := zones_pulsed_other u h.apart
  rw [← r.tail h, tailPosition_place r.lawful.booked.pool]
  unfold State.place
  rw [same]

theorem Reached.placed : clampAtTail ((u.pulsed z).zones[y].track.getLast?.map ((u.pulsed z).place y))
    ((u.pulsed z).activeLayout.entryOffset y) = some (q, clamped) := by
  have layout : (u.pulsed z).activeLayout = s.activeLayout := r.descends.layout
  rw [r.tailPlace h, layout]
  exact h.place

/-- R188: the transfer meets a return since the pulse before. -/
theorem Reached.meets_iff (j : Item) : MeetsReturn (u.pulsed z) z j ↔ j.returnedAt = some s.zones[z].count := by
  have count : (u.pulsed z).zones[z].count - 1 = s.zones[z].count := by
    rw [pulsed_zone]
    dsimp only
    rw [if_pos rfl, add_sub_cancel_right, r.descends.counts]
  have room : s.tailPosition y ≠ some 0 := fun full => by
    have place := h.place
    rw [clampAtTail_eq_none.2 full] at place
    cases place
  unfold MeetsReturn
  rw [count]
  refine ⟨fun ⟨mark, _⟩ => mark, fun mark => ⟨mark, y, h.next, ?_, ?_⟩⟩
  · change u.activeLayout.zones[y].isSome = true
    rw [r.descends.layout]
    exact h.used
  · rw [r.tailPlace h]
    exact room

/-- R117, R188: the item is DIVERTING still, or its transfer meets its return. -/
theorem Reached.stroke (hj : j ∈ u.zones[z].track) (tag : j.tag = i.tag) : j.state = .diverting ∨
    j.state = .tracked ∧ j.flags.atRisk = true ∧ MeetsReturn (u.pulsed z) z j := by
  have made := r.item h hj tag
  rcases made.stroke with ⟨state, -⟩ | ⟨state, risk, mark⟩
  · exact .inl (state.trans h.diverting)
  · refine .inr ⟨state, risk, (r.meets_iff h j).2 (mark.trans ?_)⟩
    exact congrArg (fun x : ZoneId => some s.zones[x].count) h.zone

theorem Reached.missed (hj : j ∈ u.zones[z].track) (tag : j.tag = i.tag) (eyes : List EyeId) :
    (u.pulsed z).missedAt z j eyes = [] := by
  unfold State.missedAt
  rcases r.stroke h hj tag with diverting | ⟨-, -, meets⟩
  · unfold State.openFor
    rw [if_pos diverting, ite_self]
  · exact if_pos meets

/-- R113, R116: the item claims no diverter whose trigger point the transfer takes it past. -/
theorem Reached.unclaimed (tag : j.tag = i.tag) {f : DiverterDef} (hv : s.activeLayout.diverters[v] = some f)
    (zone : f.zone = y) (past : (f.firePosition : Int) - f.lead ≤ q) : j.tag ∉ u.claims[v] := by
  intro claimed
  rw [tag] at claimed
  rcases r.descends.claims v _ claimed with old | ⟨a, ha, same, serves⟩
  · obtain ⟨a, ha, same, tracked, -⟩ := (h.lawful.booked.claims.claimed v i.tag nofun).1 old
    obtain rfl := h.lawful.booked.pool.eq_of_tag ha (mem_lineItems.2 ⟨z, h.mem⟩) same
    rw [h.diverting] at tracked
    cases tracked
  · obtain rfl := h.lawful.booked.pool.eq_of_tag ha (mem_lineItems.2 ⟨z, h.mem⟩) same
    have := h.ahead v f hv zone serves
    have := (clampAtTail_below h.place).1
    omega

section
variable {pts : List PassedPoint} {eyes : List EyeId} {after : Option EyeId} {k : Item}

/-- R8, R31, R72, R188: the record of the item as the pulse leaves it. -/
theorem Reached.record (hj : j ∈ u.zones[z].track) (tag : j.tag = i.tag)
    (between : PointsBetween s.activeLayout y (-1) q pts)
    (due : EyesStillDue s.activeLayout z j.nextEye eyes after)
    (carries : CarriesOn (u.pulsed z) y q (MeetsReturn (u.pulsed z) z j) after j k) :
    { (if clamped then k.markAtRisk else k) with
      zone := y, base := s.zones[y].count - BitVec.ofNat 24 q
      nextEye := s.activeLayout.eyeAfter pts k.nextEye } = (s.transfer z y h.next i q clamped).item j := by
  obtain ⟨next, -⟩ := h.eyes (u := u.pulsed z) between due r.descends.layout carries
  have home : j.zone = z := r.lawful.booked.pool.zone z j hj
  have moved : (s.transfer z y h.next i q clamped).item j = _ :=
    (if_pos home).trans (if_pos (beq_iff_eq.2 tag))
  have met : (u.pulsed z).zones[y].count = s.zones[y].count := by
    rw [zones_pulsed_other u h.apart, r.descends.counts]
  rw [marked_same, next, moved]
  have meets := r.meets_iff h j
  obtain ⟨plain, returned⟩ := carries
  by_cases hm : MeetsReturn (u.pulsed z) z j
  · have mark : j.returnedAt = some (s.transfer z y h.next i q clamped).left := meets.1 hm
    obtain ⟨_, _, _, rfl⟩ := returned hm
    rw [if_pos mark, met]
    rfl
  · have mark : j.returnedAt ≠ some (s.transfer z y h.next i q clamped).left := fun mark => hm (meets.2 mark)
    rw [plain hm, if_neg mark]
    rfl

/-- R72, R98, R188: nothing comes of the item at the points of the next zone. -/
theorem Reached.silent (hj : j ∈ u.zones[z].track) (tag : j.tag = i.tag)
    (between : PointsBetween s.activeLayout y (-1) q pts)
    (due : EyesStillDue s.activeLayout z j.nextEye eyes after)
    (carries : CarriesOn (u.pulsed z) y q (MeetsReturn (u.pulsed z) z j) after j k) :
    PassesSilently u (if clamped then k.markAtRisk else k) pts := by
  obtain ⟨-, away⟩ := h.eyes (u := u.pulsed z) between due r.descends.layout carries
  obtain ⟨state, sameTag, flags⟩ := carriesOn_same carries
  rw [marked_same]
  rcases r.stroke h hj tag with diverting | ⟨tracked, risk, meets⟩
  · exact .inl (state.trans diverting)
  · refine .inr ⟨?_, state.trans tracked, fun v hv claimed => ?_, away meets⟩
    · dsimp only
      rw [flags, risk, Bool.true_or]
    · obtain ⟨-, -, triggers, -⟩ := between
      obtain ⟨p, hp, -, high⟩ := (triggers v).1 hv
      unfold pointIn at hp
      obtain ⟨f, hf, rfl⟩ := Option.map_eq_some_iff.1 hp
      obtain ⟨hf, zone⟩ := Option.filter_eq_some_iff.1 hf
      refine r.unclaimed h tag hf (of_decide_eq_true zone) high ?_
      rw [← sameTag]
      exact claimed

end

/-- R8: the records of each zone, the item moved. -/
theorem Reached.held (split : u.zones[z].track = j :: back) (tag : j.tag = i.tag) (x : ZoneId) :
    (s.transfer z y h.next i q clamped).held u.zones x =
      if x = y then u.zones[y].track ++ [j] else if x = z then back else u.zones[x].track := by
  have others (a : Item) (ha : a ∈ back) : a.tag ≠ i.tag := by
    rw [← tag]
    exact (r.lawful.booked.pool.apart (front := []) split).2.1 a ha
  have moves : (u.zones[z].track.filter fun a => a.tag == i.tag) = [j] := by
    rw [split, List.filter_cons_of_pos (by simpa using tag),
      List.filter_eq_nil_iff.2 fun a ha => by simpa using others a ha]
  have left : (u.zones[z].track.filter fun a => !(a.tag == i.tag)) = back := by
    rw [split, List.filter_cons_of_neg (by simp [tag]),
      List.filter_eq_self.2 fun a ha => by simpa using others a ha]
  by_cases hy : x = y
  · rw [if_pos hy, hy]
    exact (shift_held_next u.zones).trans (congrArg _ moves)
  · rw [if_neg hy]
    by_cases hz : x = z
    · rw [if_pos hz, hz]
      exact (shift_held_home u.zones).trans left
    · rw [if_neg hz]
      exact shift_held_other u.zones hz hy

theorem Reached.moved (split : u.zones[z].track = j :: back) (tag : j.tag = i.tag) (x : ZoneId) :
    (if x = y then u.zones[y].track ++ [(s.transfer z y h.next i q clamped).item j]
      else if x = z then back else u.zones[x].track).map (s.transfer z y h.next i q clamped).clear.item =
    ((s.transfer z y h.next i q clamped).held u.zones x).map (s.transfer z y h.next i q clamped).item := by
  have stays {x : ZoneId} {a : Item} (ha : a ∈ u.zones[x].track) (other : x = z → a.tag ≠ i.tag) :
      (s.transfer z y h.next i q clamped).clear.item a = (s.transfer z y h.next i q clamped).item a :=
    clear_item_of_stays fun home =>
      beq_false_of_ne (other ((r.lawful.booked.pool.zone x a ha).symm.trans home))
  rw [r.held h split tag]
  split_ifs with hy hz
  · rw [List.map_append, List.map_append, List.map_cons, List.map_nil, List.map_cons, List.map_nil,
      shift_clear_item_item]
    exact congrArg (· ++ _) (List.map_congr_left fun a ha => stays ha fun hz => absurd hz h.apart)
  · refine List.map_congr_left fun a ha => stays (x := z) (by rw [split]; exact List.mem_cons_of_mem _ ha)
      fun _ => ?_
    rw [← tag]
    exact (r.lawful.booked.pool.apart (front := []) split).2.1 a ha
  · exact List.map_congr_left fun a ha => stays ha fun he => absurd he hz

/-- R4, R8, R31, R188: the pulse, where the item is in line. -/
theorem Reached.carried (hj : j ∈ u.zones[z].track) (tag : j.tag = i.tag) :
    ∃ p, exec (.encoderPulse z) u = .next p ∧
      (s.transfer z y h.next i q clamped).clear.apply p = (s.transfer z y h.next i q clamped).apply u := by
  obtain ⟨back, split⟩ := r.head h hj tag
  have pool := r.lawful.booked.pool
  obtain ⟨-, others, -⟩ := pool.apart (front := []) split
  have configured : u.module ≠ .unconfigured := by
    rw [r.descends.module]
    exact h.configured
  have quiet : QuietFor u z back := by
    refine ⟨fun a ha => r.nothing h ?_ ?_, r.short h⟩
    · rw [split]
      exact List.mem_cons_of_mem _ ha
    · rw [← tag]
      exact others a ha
  have full : (u.pulsed z).place z j = u.activeLayout.zoneLength z := by
    rw [r.pulsed_place h hj, r.position h (r.item h hj tag), r.descends.layout]
    exact h.edge
  have triggers (v : DiverterId) : ¬ TriggersAt u.activeLayout z ((u.pulsed z).place z j) v := by
    rintro ⟨f, hf, rfl, at_⟩
    obtain ⟨inside, lead⟩ := diverter_inside r.layout (Option.mem_def.1 hf)
    rw [full] at at_
    omega
  obtain ⟨eyes, after, due, -⟩ := eyesWhile_exists u.activeLayout (fun d => d.zone = z) j.nextEye
  have missed := r.missed h hj tag eyes
  have lasting : Lasting (u.pulsed z) z back j eyes after :=
    ⟨pulsed_pool pool z, (pulsed_track u z z).trans split, due, .inl (by rw [missed]; rfl)⟩
  have after_ : (u.pulsed z).activeLayout.zoneAfter z = some y := by
    refine zoneAfter_eq_some.2 ⟨h.next, ?_⟩
    change u.activeLayout.zones[y].isSome = true
    rw [r.descends.layout]
    exact h.used
  have placed := r.placed h
  have carries := lasting.carried after_ placed
  have joins := lasting.joins after_ placed [] (u.pulsed z).freeIndex
  rw [missed] at carries
  unfold State.carriedTo at joins
  generalize ((u.pulsed z).endedAt z back j eyes after).carriedOn ((u.pulsed z).endedItem z j eyes after) y q = k
    at carries joins
  obtain ⟨state, sameTag, flags⟩ := carriesOn_same carries
  have mtag : (if clamped then k.markAtRisk else k).tag = j.tag := by
    rw [marked_same]
    exact sameTag
  obtain ⟨pts, w, rs, n, between, met, made⟩ := pulse_joins r.lawful configured split (r.zoneUsed h) quiet
    triggers full h.next mtag joins
  rw [r.descends.layout] at between due
  have silent := r.silent h hj tag between due carries
  have record := r.record h hj tag between due carries
  generalize hm : (if clamped then k.markAtRisk else k) = m at mtag met silent record
  have count : (u.pulsed z).zones[y].count = s.zones[y].count := by
    rw [zones_pulsed_other u h.apart, r.descends.counts]
  have next : k.nextEye = m.nextEye := by
    rw [← hm, marked_same]
  rw [next] at record
  obtain ⟨rfl, rfl⟩ := transfer_silently (r.descends.layout) count mtag between silent met
  rw [record] at made
  refine ⟨_, r.shifted h (tracks := fun x => if x = y then u.zones[y].track ++
    [(s.transfer z y h.next i q clamped).item j] else if x = z then back else u.zones[x].track) (fun x => ?_) ?_
    (fun x => ?_) made⟩
  · have noted_zones (v : State) : (v.noted [] n).zones = v.zones := rfl
    rw [noted_zones, moved_zone, zones_pulsed_other u h.apart]
  · rfl
  · exact r.moved h split tag x

end

end

end Sys2Proof.Machine
end

section
/-! PROOFS. What becomes of an item at the end of its zone (R7 to R10, R31, R32, R72 to R74), and a transfer and
a happening of a stroke in either order (R188): `ZoneEndIsATransferOrAnExit`. -/

namespace Sys2Proof.Machine

set_option Elab.async false

section
variable {s t u w : State} {z y : ZoneId} {behind_ : List Item} {i : Item} {q : Nat} {clamped : Bool}
  {d : DiverterId} {c : Instr} {P : Shift}

/-! ### What is in sight -/

theorem unmarked_clear (P : Shift) (l : List Item) :
    (l.map P.clear.item).map (fun j => { j with returnedAt := none }) = l.map fun j => { j with returnedAt := none } := by
  rw [List.map_map]
  refine List.map_congr_left fun j _ => ?_
  rw [Function.comp_apply, shift_clear_item]
  split <;> rfl

theorem clear_track (P : Shift) (s : State) (x : ZoneId) :
    (P.clear.apply s).zones[x].track = s.zones[x].track.map P.clear.item := by
  rw [shift_track, shift_held_clear]

theorem clear_zone (P : Shift) (s : State) (x : ZoneId) :
    (P.clear.apply s).zones[x] = { s.zones[x] with track := s.zones[x].track.map P.clear.item } := by
  have count : (if x = P.clear.home then s.zones[x].count + P.clear.pulses else s.zones[x].count) =
      s.zones[x].count := by
    split_ifs
    · exact BitVec.add_zero _
    · rfl
  rw [shift_zone]
  unfold Shift.unit
  rw [count, shift_held_clear]

theorem clear_track_other (pool : PoolLaws s) {x : ZoneId} (hx : x ≠ P.home) :
    s.zones[x].track.map P.clear.item = s.zones[x].track := by
  refine (List.map_congr_left fun j hj => ?_).trans (List.map_id _)
  exact shift_item_other fun home => hx ((pool.zone x j hj).symm.trans home)

/-- Log entry 25: two states that are one but for the marks of the zone and the free choices. -/
theorem same_of_clear (ht : PoolLaws t) (hw : PoolLaws w) (pending : t.pending = w.pending)
    (h : P.clear.apply t = P.clear.apply w) :
    t.zones[P.home].track.map (fun j => { j with returnedAt := none }) =
      w.zones[P.home].track.map (fun j => { j with returnedAt := none }) ∧
    { t with
      freeIndex := w.freeIndex
      zones := t.zones.set P.home { t.zones[P.home] with track := w.zones[P.home].track } } = w := by
  have zone (x : ZoneId) : ({ t.zones[x] with track := t.zones[x].track.map P.clear.item } : ZoneUnit) =
      { w.zones[x] with track := w.zones[x].track.map P.clear.item } := by
    rw [← clear_zone, ← clear_zone, h]
  have zones : t.zones.set P.home { t.zones[P.home] with track := w.zones[P.home].track } = w.zones := by
    refine Vector.ext fun k hk => ?_
    refine (getElem_set_fin t.zones P.home ⟨k, hk⟩ _).trans ?_
    split_ifs with home
    · have here := congrArg (fun v : ZoneUnit => ({ v with track := w.zones[P.home].track } : ZoneUnit)) (zone P.home)
      exact Eq.trans here (congrArg (fun x : ZoneId => w.zones[x]) home)
    · have one := zone ⟨k, hk⟩
      rw [clear_track_other ht (Ne.symm home), clear_track_other hw (Ne.symm home)] at one
      exact one
  constructor
  · rw [← unmarked_clear P, ← unmarked_clear P w.zones[P.home].track]
    exact congrArg _ (congrArg ZoneUnit.track (zone P.home))
  · have rest : t = { w with zones := t.zones, freeIndex := t.freeIndex, pending := t.pending } :=
      (congrArg (fun u : State => ({ u with
        zones := t.zones, freeIndex := t.freeIndex, pending := t.pending } : State)) h :)
    rw [zones, rest, pending]

/-! ### The two orders -/

/-- R8, R31, R188: the pulse as the shift. -/
theorem Reached.pulse (h : Transferring s z y behind_ i q clamped) (r : Reached d i s u) :
    ∃ p, exec (.encoderPulse z) u = .next p ∧
      (s.transfer z y h.next i q clamped).clear.apply p = (s.transfer z y h.next i q clamped).apply u := by
  by_cases inLine : ∃ j ∈ u.zones[z].track, j.tag = i.tag
  · obtain ⟨j, hj, tag⟩ := inLine
    exact r.carried h hj tag
  · exact r.released h fun j hj tag => inLine ⟨j, hj, tag⟩

/-- R188: the laws, and the stroke of the item. -/
structure Stroke (d : DiverterId) (i : Item) (s : State) : Prop where
  layout : LayoutLaws s
  reasons : HaltReasonLaws s
  records : RecordLaws s
  tracks : TrackLaws s
  link : LinkLaws s
  slot : s.diverters[d].slot = some i.tag

theorem Stroke.reached (h : Stroke d i s) (hd : Descends d s u) (layout : LayoutLaws u) (reasons : HaltReasonLaws u)
    (records : RecordLaws u) (tracks : TrackLaws u) (link : LinkLaws u) : Reached d i s u :=
  ⟨h.slot, hd, layout, reasons, ((recordLaws_iff u).1 records), tracks, link⟩

theorem transfer_in_either_order (laws : Stroke d i s) (h : Transferring s z y behind_ i q clamped)
    (hc : StrokeHappening d c) :
    ∃ m t n w, step { s with pending := [.encoderPulse z, c] } = .next m ∧ step m = .next t ∧
      step { s with pending := [c, .encoderPulse z] } = .next n ∧ step n = .next w ∧
      t.zones[z].track.map (fun j => { j with returnedAt := none }) =
        w.zones[z].track.map (fun j => { j with returnedAt := none }) ∧
      { t with
        freeIndex := w.freeIndex
        zones := t.zones.set z { t.zones[z] with track := w.zones[z].track } } = w := by
  obtain ⟨f, steady, runs⟩ := hc.steady
  have shifts (p : List Instr) : Transferring { s with pending := p } z y behind_ i q clamped :=
    ⟨h.layout, (recordLaws_iff { s with pending := p }).1 laws.records, h.tracks, h.configured, h.reset, h.track,
      h.diverting, h.edge, h.next, h.used, h.place, h.ahead, h.windows, h.triggers, h.span⟩
  have stroke (p : List Instr) : Stroke d i { s with pending := p } :=
    ⟨laws.layout, laws.reasons, laws.records, laws.tracks, laws.link, laws.slot⟩
  have pool {u : State} (records : RecordLaws u) : PoolLaws u := ((recordLaws_iff u).1 records).booked.pool
  -- the pulse first
  obtain ⟨m, pulsed, sight⟩ := ((stroke [c]).reached (.refl d _) laws.layout laws.reasons laws.records laws.tracks
    laws.link).pulse (shifts [c])
  have waits : m.pending = [c] := exec_pending pulsed
  have later : step m = .next (f { m with pending := [] }) := by
    unfold step
    rw [waits]
    exact runs _
  -- the happening of the stroke first
  have descends := steady.descends { s with pending := [.encoderPulse z] }
  have happened : step { s with pending := [c, .encoderPulse z] } =
      .next (f { s with pending := [.encoderPulse z] }) := runs _
  generalize hn : f { s with pending := [.encoderPulse z] } = n at descends happened
  have waits' : n.pending = [.encoderPulse z] := descends.pending
  have start := stroke [c, .encoderPulse z]
  have records := stepKeepsRecordLaws _ n start.records happened
  have reached : Reached d i { s with pending := [] } { n with pending := [] } :=
    (stroke []).reached ⟨descends.layout, descends.module, descends.reset, rfl, descends.span, descends.spanCount,
        descends.counts, descends.items, descends.stay, descends.slot, descends.claims⟩
      (stepKeepsLayoutLaws _ n start.layout happened) (stepKeepsHaltReasonLaws _ n start.reasons happened) records
      (stepKeepsTrackOrder _ n start.layout start.records start.tracks happened)
      (stepKeepsLinkLaws _ n start.link happened)
  obtain ⟨w, pulsed', sight'⟩ := reached.pulse (shifts [])
  have later' : step n = .next w := by
    unfold step
    rw [waits']
    exact pulsed'
  -- the two states
  have shifted : Shifted (s.transfer z y h.next i q clamped) { s with pending := [.encoderPulse z] }
      { m with pending := [] } :=
    ⟨(shifts [.encoderPulse z]).fits (by simp), .clear fun _ => List.not_mem_nil, sight⟩
  have same : (s.transfer z y h.next i q clamped).clear.apply (f { m with pending := [] }) =
      (s.transfer z y h.next i q clamped).clear.apply w :=
    (steady.shifted _ _ _ shifted).trans ((congrArg (s.transfer z y h.next i q clamped).apply hn).trans sight'.symm)
  have firstKept : step { s with pending := [.encoderPulse z, c] } = .next m := pulsed
  have pending : (f { m with pending := [] }).pending = w.pending :=
    (steady.descends { m with pending := [] }).pending.trans (exec_pending pulsed').symm
  refine ⟨m, _, n, w, firstKept, later, happened, later', same_of_clear (P := s.transfer z y h.next i q clamped)
    (pool ?_) (pool ?_) pending same⟩
  · exact stepKeepsRecordLaws m _ (stepKeepsRecordLaws _ m (stroke [.encoderPulse z, c]).records firstKept) later
  · exact stepKeepsRecordLaws n w records later'

end

/-- Settles O52: the leaving of the head is taken first, and the points of the next zone after it. For the
second part the transfer is a change of the state that no happening of the stroke tells apart. -/
theorem zoneEndIsATransferOrAnExit : Obligations.ZoneEndIsATransferOrAnExit := by
  refine ⟨fun s z behind i eyes after hr ha hm ht hz => ?_, ?_⟩
  · intro u p c full quiet triggers due meets missed lasts j
    obtain ⟨exits, joins⟩ := leaving_outcomes s z behind i eyes after hr ha hm ht hz full quiet triggers due lasts
    exact ⟨exits, fun y def_ next used _ => joins y def_ next used⟩
  · intro s z y behind i d c layout reasons records tracks _ link ha hm ht slot edge next used room ahead windows
      triggers span hc unmarked
    have lawful := (recordLaws_iff s).1 records
    have pool := lawful.booked.pool
    have mem : i ∈ s.zones[z].track := by rw [ht]; simp
    have diverting : i.state = .diverting := by
      obtain ⟨a, ha, tag, state, -⟩ := (lawful.booked.claims.slotted d i.tag).1 slot
      obtain rfl := pool.eq_of_tag ha (mem_lineItems.2 ⟨z, mem⟩) tag
      exact state
    have place {j : Item} (hj : j ∈ behind) : s.place z j = s.position j :=
      pool.place_eq (by rw [ht]; exact List.mem_cons_of_mem _ hj)
    cases hp : clampAtTail (s.tailPosition y) (s.activeLayout.entryOffset y) with
    | none =>
      rw [clampAtTail_eq_none, tailPosition_place pool] at hp
      obtain ⟨j, last, zero⟩ := Option.map_eq_some_iff.1 hp
      exact absurd zero (room j (List.mem_of_getLast? last))
    | some placed =>
      obtain ⟨q, clamped⟩ := placed
      refine transfer_in_either_order (q := q) (clamped := clamped) (behind_ := behind)
        ⟨layout, reasons, records, tracks, link, slot⟩
        ⟨layout, lawful, tracks, hm, ha, ht, diverting, ?_, next, used, hp, ahead, fun j hj => ?_, fun j hj => ?_,
          span⟩ hc
      · rw [← pool.place_eq mem]
        exact edge
      · rw [← place hj]
        exact windows j hj
      · rw [← place hj]
        exact triggers j hj

end Sys2Proof.Machine
end
